-- ==== Sys2Proof/Word.lean ====
section
/-! DEFINITION. Plain arithmetic of the GW6432: byte and Turn types, signed reading of bit fields, saturation,
and the shapes of the register map (a field, an access code, a register row). -/
namespace Sys2Proof

abbrev Byte := BitVec 8
/-- The 48-bit Turn counter (R7). -/
abbrev TurnNo := BitVec 48

/-- A field of `w` bits read as two's complement (R5, R6). -/
def sgn (w n : Nat) : Int := if n < 2 ^ (w - 1) then (n : Int) else (n : Int) - 2 ^ w

/-- An integer written into a field of `w` bits. -/
def unsgn (w : Nat) (i : Int) : Nat := (i % (2 ^ w : Int)).toNat

/-- Clamp into a closed range. -/
def clampInt (lo hi i : Int) : Int := if i < lo then lo else if hi < i then hi else i

/-- Add with saturation at `top`. -/
def satAdd (top n k : Nat) : Nat := if top < n + k then top else n + k

/-- Division towards minus infinity of `i` by `2 ^ k`, rounding half up. -/
def roundShift (i : Int) (k : Nat) : Int := if k = 0 then i else (i + 2 ^ (k - 1)) / 2 ^ k

def bit (n i : Nat) : Bool := n.testBit i
def setBit (n i : Nat) (b : Bool) : Nat :=
  if b then n ||| (1 <<< i) else if n.testBit i then n - 2 ^ i else n
def b2n (b : Bool) : Nat := if b then 1 else 0
/-- Bits `[lo + w - 1 : lo]` of a word. -/
def bits (n lo w : Nat) : Nat := (n >>> lo) % 2 ^ w

/-- A field of the register map: byte offset of its register, lowest bit, width, reset value. -/
structure Field where
  off : Nat
  lo : Nat
  width : Nat
  reset : Nat
deriving DecidableEq, Repr

/-- The key under which a field is stored: one number per (register, bit). -/
def Field.key (f : Field) : Nat := f.off * 32 + f.lo

/-- Access codes of Table 0.3. `act back lo` is the value in force of the staged field that lies
`back` bytes below this register at bit `lo` (RWS, R10). -/
inductive Access where
  | ro | rw | w1c | wo | rc | rws | rwl
  | act (back lo : Nat)
deriving DecidableEq, Repr

/-- What an index of a register array names, for R2. -/
inductive Names where
  | all | adc | dac | fport | comb | slot | em | div | mm | sport
deriving DecidableEq, Repr

/-- One field of a register row. -/
structure FieldRow where
  lo : Nat
  width : Nat
  reset : Nat
  acc : Access
deriving DecidableEq, Repr

/-- One row of the register map: a register, or an array of registers in one or two dimensions. -/
structure RegRow where
  base : Nat
  n1 : Nat
  s1 : Nat
  n2 : Nat
  s2 : Nat
  names : Names
  fields : List FieldRow
deriving DecidableEq, Repr

/-- The two members of the family (R1, R3). -/
inductive Variant where
  | gw6432
  | gw6416
deriving DecidableEq, Repr

end Sys2Proof
end

