-- ==== Sys2Proof/Syntax.lean ====
section
/-! DEFINITION. The commands of the GW6432, one constructor per row of spec/opcode_table.json, and the data their operands
carry: bytes arriving from the host, samples as the converters and the filters give them, and quantities the pins and the sensors
measure, which the module reads and does not compute (log entry 2). -/
namespace Sys2Proof

/-- The JTAG instructions of Table 14.9 (R346). -/
inductive JtagKind where
  | bypass | idcode | samplePreload | extest | clamp | probe
deriving DecidableEq, Repr

/-- A set of calibration factors (Table 2.6): VCO bands of SYNTH_A and SYNTH_B; per ADC the image rejection in dB and the residual
offset that registers show (Table 2.24), the anti-alias code, the DC-offset factor and the interleave factors (gain, offset and timing
of each of the 64 sub-converters, 192 numbers); and per DAC its DC-offset factor (R47, R52). -/
structure Factors where
  bands : List Nat
  img : List Nat
  aaf : List Nat
  dco : List Int
  adcOfs : List Int
  dacOfs : List Int
  il : List (List Int)
deriving DecidableEq, Repr

/-- What missed its limits at the end of a calibration (R50): ADCs with the code of the failed kind, DACs, and
synthesisers for which no band locks. -/
structure CalFails where
  adc : List (Nat × Nat)
  dac : List Nat
  osc : List Nat
deriving DecidableEq, Repr

/-- The slot samples of a Turn, oldest first, in units of 2^-19 of full scale (R6, R64): at stage 3, the channel filter's output, and at
stage 5, the gain stage's (R82). A sample that is not listed is zero. -/
structure SlotMeas where
  slot : Nat
  input : List (Int × Int)
  output : List (Int × Int)
deriving DecidableEq, Repr

/-- Fabric words of a lane in a Turn: their WORD_IDX with 16 values each; words not listed are zero. -/
abbrev Words := List (Nat × List Int)

/-- What flows in the fabric over a Turn, or over the part of it that is past: per ADC the inputs of its samples in steps of the 14-bit
code, of which those beyond full scale clip (R37); per slot the words its tile puts out at converter rate, in native units (R64); and the
slot samples. -/
structure Stream where
  adcs : List (Nat × Words)
  tiles : List (Nat × Words)
  slots : List SlotMeas
deriving DecidableEq, Repr

/-- The powers of a mismatch channel over a Turn (R164): forward and reflected in 0.01 dB. -/
structure MmMeas where
  channel : Nat
  fwd : Int
  refl : Int
deriving DecidableEq, Repr

/-- What is measured over the Turn that a boundary ends. -/
structure TurnMeas where
  stream : Stream
  /-- Offsets of dovetails 0 to 3 from their centre (R61). -/
  fill : List Int
  /-- Synthesisers whose streams have re-aligned (R44). -/
  realigned : List Nat
  /-- The step of a running CAL_ALL that begins, with the VCO bands found by OSC, and the synthesisers for which it found none (R47,
  R50). -/
  calStep : Option (Nat × List Nat × List Nat)
  /-- Synthesisers whose retry calibration has ended, with the band it chose (R43). -/
  oscEnd : List (Nat × Nat)
  /-- Slots whose reloaded coefficient failed its read-back (R74). -/
  readBack : List Nat
  mm : List MmMeas
  /-- Bytes of the data-transfer unit in progress, which a Host Interface block reset at this boundary completes (R225). -/
  unit : List Byte
deriving DecidableEq, Repr

/-- The spectrum of an input of an emission channel over the gated-in samples of a Turn (R125): spectral lines, each with its frequency
in Hz and its power in units of 2^-38 of full scale. -/
abbrev Spectrum := List (Nat × Nat)

/-- An emission channel over the last Turn: its observed inputs and its reference. -/
structure EmMeas where
  channel : Nat
  primary : Spectrum
  secondary : Spectrum
  reference : Spectrum
deriving DecidableEq, Repr

/-- Where an error in the fabric lies (R25, R63): in the crossbar's buffer for the ingress lane of a port, in the data memory of a tile,
or in the sideband of a word of a port's lane, as a dovetail or merge point reads it. -/
inductive FabErr where
  | lane (port : Nat)
  | tile (t : Nat)
  | sideband (port side : Nat)
deriving DecidableEq, Repr

/-- The log bank and the port's lane that a write meets whose check bits are to be inverted (R309). -/
structure WritePlace where
  bank : Nat
  port : Nat
deriving DecidableEq, Repr

/-- What tracking has found for an ADC: its image rejection in dB, and interleave factors (R52). -/
structure Tracked where
  img : Nat
  il : List Int
deriving DecidableEq, Repr

/-- A dovetail, and how far from its centre its occupancy would lie, in fc (R61). -/
structure Occupancy where
  dovetail : Nat
  offset : Int
deriving DecidableEq, Repr

/-- A merge point, and the sidebands of the words that meet there (R25, R62). -/
structure Meeting where
  point : Nat
  sides : List Nat
deriving DecidableEq, Repr

/-- A capture engine, and what has flowed in the Turn so far (R79). -/
structure Heard where
  engine : Nat
  stream : Stream
deriving DecidableEq, Repr

/-- The fabric's part of a stream. -/
structure Lanes where
  adcs : List (Nat × Words)
  tiles : List (Nat × Words)
deriving DecidableEq, Repr

/-- A place in the Gouge's memories: a slot or a lane, and a word of it (R107). -/
structure GougeWord where
  unit : Nat
  word : Nat
deriving DecidableEq, Repr

/-- A correlation peak: how many fc ago its burst came out of the path, and the magnitudes of the peak and of the mean (R147). -/
structure Burst where
  age : Nat
  peak : Nat
  mean : Nat
deriving DecidableEq, Repr

/-- The commands, one for each row of spec/opcode_table.json, in its order. `fc` is the fabric-clock cycle of the Turn at which a command happens,
`sq` and `idx` name a descriptor in flight by its submission ring and its index there; other operands are as the meanings in Machine/ say. -/
inductive Instr where
  /-- TURN_BOUNDARY (R18). -/
  | turnBoundary (m : TurnMeas)
  /-- GUARD_EVALUATION (R129). -/
  | guardEvaluation (fc : Nat) (l : List Nat) (em : List EmMeas)
  /-- GUARD_MUTE_EFFECT (R20). -/
  | guardMuteEffect
  /-- GOUGE_ADAPTATION_STEP (R93). -/
  | gougeAdaptationStep (fc : Nat) (l : List Nat)
  /-- LEVEL_LOOP_RUN (R287). -/
  | levelLoopRun (fc : Nat) (l : List Nat)
  /-- COMMIT_WINDOW (R21). -/
  | commitWindow
  /-- TURN_OVERRUN (R23). -/
  | turnOverrun (fc cls : Nat)
  /-- DOORBELL (R197). -/
  | doorbell (fc : Nat)
  /-- DOORBELL_READ (R197). -/
  | doorbellRead (fc : Nat) (area : List Byte)
  /-- DESCRIPTOR_FETCH (R202). -/
  | descriptorFetch (fc : Nat) (bytes : List Byte) (parityOk : Bool)
  /-- COALESCE_TIMEOUT (R228). -/
  | coalesceTimeout (fc cq : Nat)
  /-- NOP (R205). -/
  | nop (fc sq idx : Nat)
  /-- FENCE (R205). -/
  | fence (fc sq idx : Nat)
  /-- PLAN_LOAD (R178). -/
  | planLoad (fc sq idx : Nat)
  /-- PLAN_SWAP_NEXT (R184). -/
  | planSwapNext (fc sq idx : Nat)
  /-- PLAN_SWAP_AT_TURN (R184). -/
  | planSwapAtTurn (fc sq idx : Nat)
  /-- PLAN_SWAP_CHECK (R184). -/
  | planSwapCheck (fc sq idx : Nat)
  /-- SLOT_GAIN (R207). -/
  | slotGain (fc sq idx : Nat)
  /-- CAPTURE (R77). -/
  | capture (fc sq idx : Nat)
  /-- GOUGE_SNAPSHOT (R111). -/
  | gougeSnapshot (fc sq idx : Nat)
  /-- GAUGE_READ (R246). -/
  | gaugeRead (fc sq idx : Nat)
  /-- COUNTER_READ (R208). -/
  | counterRead (fc sq idx : Nat)
  /-- LOG_READ (R209). -/
  | logRead (fc sq idx : Nat)
  /-- LOG_CLEAR (R321). -/
  | logClear (fc : Nat) (d : Option (Nat × Nat))
  /-- LOG_FREEZE (R320). -/
  | logFreeze (fc : Nat) (d : Option (Nat × Nat))
  /-- LOG_THAW (R320). -/
  | logThaw (fc : Nat) (d : Option (Nat × Nat))
  /-- CAL_RUN (R46). -/
  | calRun (fc sq idx : Nat)
  /-- SUPPLY_SETPOINT (R211). -/
  | supplySetpoint (fc sq idx : Nat)
  /-- STATE_REQUEST (R210). -/
  | stateRequest (fc sq idx : Nat)
  /-- TOKEN_SUBMIT (R336). -/
  | tokenSubmit (fc sq idx : Nat)
  /-- GET_CHALLENGE (R343). -/
  | getChallenge (fc sq idx : Nat)
  /-- RESPOND (R344). -/
  | respond (fc sq idx : Nat)
  /-- END_SESSION (R344). -/
  | endSession (fc sq idx : Nat)
  /-- TRANSFER_UNIT (R219). -/
  | transferUnit (fc : Nat) (host : List Byte)
  /-- HELD_COMPLETION_DELIVERY (R223). -/
  | heldCompletionDelivery (fc : Nat)
  /-- SQ_CFG_WRITE (R195). -/
  | sqCfgWrite (fc n v : Nat)
  /-- CQ_CFG_WRITE (R195). -/
  | cqCfgWrite (fc n v : Nat)
  /-- PAUSE (R201). -/
  | pause (fc : Nat) (on : Bool)
  /-- HIF_BLOCK_RESET (R225). -/
  | hifBlockReset (fc : Nat) (unit : List Byte)
  /-- ORPHAN_DISCARD (R223). -/
  | orphanDiscard (fc : Nat)
  /-- TRAP_CLEAR (R230). -/
  | trapClear (fc : Nat)
  /-- HWT_WRITE (R216). -/
  | hwtWrite (fc index : Nat)
  /-- HWT_READ (R216). -/
  | hwtRead (fc index : Nat)
  /-- HWT_INVALIDATE (R218). -/
  | hwtInvalidate (fc index : Nat)
  /-- HWT_INVALIDATE_DRAINED (R218). -/
  | hwtInvalidateDrained (fc : Nat)
  /-- RWS_WRITE (R172). -/
  | rwsWrite (fc off v : Nat)
  /-- COPY_ACTIVE (R180). -/
  | copyActive (fc : Nat)
  /-- CLEAR_SHADOW (R180). -/
  | clearShadow (fc : Nat)
  /-- FLASH_LOAD (R180). -/
  | flashLoad (fc : Nat)
  /-- FREEZE (R110). -/
  | freeze (fc sl : Nat) (on : Bool)
  /-- REPROBE (R110). -/
  | reprobe (fc sl : Nat) (zero : Bool)
  /-- GRD_LATCH_CLEAR (R133). -/
  | grdLatchClear (fc : Nat)
  /-- HOST_RFFE_COMMAND (R159). -/
  | hostRffeCommand (fc v : Nat)
  /-- RFFE_COMMAND_END (R160). -/
  | rffeCommandEnd (fc b : Nat) (parity : Bool) (rdata : Nat)
  /-- RFFE_SCHEDULED_COMMAND (R159). -/
  | rffeScheduledCommand (fc b i : Nat)
  /-- RETRY (R166). -/
  | retry (fc v : Nat)
  /-- SELF_CAL (R243). -/
  | selfCal (fc n : Nat)
  /-- INJ_GO (R242). -/
  | injGo (fc n e : Nat)
  /-- LOAD_ALL (R254). -/
  | loadAll (fc m : Nat)
  /-- TRIP_CLEAR (R264). -/
  | tripClear (fc m : Nat)
  /-- HALT (R286). -/
  | halt (fc : Nat) (on : Bool)
  /-- STEP (R286). -/
  | step (fc : Nat)
  /-- FLT_INJECT_ARM (R310). -/
  | fltInjectArm (fc checker : Nat) (twoBits : Bool) (index : Nat)
  /-- INJECTED_ERROR (R309). -/
  | injectedError (fc : Nat) (p : WritePlace)
  /-- FLT_STATUS_CLEAR (R299). -/
  | fltStatusClear (fc : Nat) (hi : Bool) (v : Nat)
  /-- LOG_RD_SEQ (R323). -/
  | logRdSeq (fc v : Nat)
  /-- PROV_GO (R333). -/
  | provGo (fc : Nat)
  /-- TOKEN_RELEASE (R337). -/
  | tokenRelease (fc index : Nat)
  /-- REGISTER_WRITE (R8). -/
  | registerWrite (fc off len v : Nat)
  /-- WIDE_LOW_READ (R12). -/
  | wideLowRead (fc off len : Nat)
  /-- CLEAR_ON_READ (R11). -/
  | clearOnRead (fc off len : Nat)
  /-- POR_ASSERT (R357). -/
  | porAssert (fc : Nat)
  /-- POR_RELEASE (R360). -/
  | porRelease (fc straps : Nat)
  /-- RESET_N_ASSERT (R375). -/
  | resetNAssert (fc : Nat) (unit : List Byte)
  /-- RESET_N_RELEASE (R360). -/
  | resetNRelease (fc straps : Nat)
  /-- PERST_N_ASSERT (R225). -/
  | perstNAssert (fc : Nat) (unit : List Byte)
  /-- PERST_N_RELEASE (R226). -/
  | perstNRelease (fc : Nat)
  /-- KILL_N_FALL (R134). -/
  | killNFall (fc : Nat)
  /-- KILL_N_RISE (R135). -/
  | killNRise (fc : Nat)
  /-- KILL_RESUME (R135). -/
  | killResume (fc : Nat)
  /-- TRIP_ACTIVE (R263). -/
  | tripActive (fc k : Nat)
  /-- TRIP_INACTIVE (R264). -/
  | tripInactive (fc k : Nat)
  /-- SYNC_IN_EDGE (R146). -/
  | syncInEdge (fc : Nat)
  /-- REFCLK_LOSS (R362). -/
  | refclkLoss (fc : Nat)
  /-- REFCLK_RETURN (R363). -/
  | refclkReturn (fc us : Nat)
  /-- AUTONOMOUS_RECOVERY (R363). -/
  | autonomousRecovery (fc : Nat)
  /-- PWR_VIN_UV (R357). -/
  | pwrVinUv (fc vin : Nat)
  /-- VIN_UV_RECOVERY (R357). -/
  | vinUvRecovery (fc : Nat)
  /-- PWR_VIN_OV (R357). -/
  | pwrVinOv (fc vin : Nat)
  /-- VIN_OV_RECOVERY (R357). -/
  | vinOvRecovery (fc : Nat)
  /-- VIN_SHUTDOWN (R357). -/
  | vinShutdown (fc vin : Nat)
  /-- PWR_RAIL (R358). -/
  | pwrRail (fc rail : Nat) (unit : List Byte)
  /-- RAIL_RECOVERY (R358). -/
  | railRecovery (fc rail : Nat)
  /-- TEMP_SENSOR_READ (R359). -/
  | tempSensorRead (fc : Nat) (donor service fabric power : Int)
  /-- SEC_TAMPER (R350). -/
  | secTamper (fc : Nat) (mesh rail osc : Bool)
  /-- HIF_LINK_DOWN (R194). -/
  | hifLinkDown (fc : Nat)
  /-- LINK_UP (R194). -/
  | linkUp (fc speed width : Nat)
  /-- JTAG_INSTRUCTION (R346). -/
  | jtagInstruction (fc : Nat) (k : JtagKind) (code : Nat)
  /-- APZ_MARK (R369). -/
  | apzMark (t16 data : Nat) (kill : Bool)
  /-- APZ_COUNT_FRAME (R367). -/
  | apzCountFrame (fc k data : Nat) (kill : Bool)
  /-- APZ_EPOCH_FRAME (R367). -/
  | apzEpochFrame (fc k data : Nat) (kill : Bool)
  /-- APZ_HOP_FRAME (R367). -/
  | apzHopFrame (fc data : Nat) (kill : Bool)
  /-- APZ_DELAY_FRAME (R367). -/
  | apzDelayFrame (fc k data : Nat) (kill : Bool)
  /-- APZ_ECHO (R368). -/
  | apzEcho (t16 : Nat) (kill : Bool)
  /-- APZ_IDLE_FRAME (R366). -/
  | apzIdleFrame (fc i : Nat) (kill : Bool)
  /-- APZ_INVALID_FRAME (R366). -/
  | apzInvalidFrame (fc i : Nat)
  /-- APZ_INPUT_DOWN (R373). -/
  | apzInputDown (fc i cause : Nat)
  /-- APZ_INPUT_UP (R373). -/
  | apzInputUp (fc i : Nat)
  /-- NO_LEADER (R370). -/
  | noLeader (fc : Nat)
  /-- SYNTH_LOCKED (R43). -/
  | synthLocked (fc w : Nat)
  /-- SYNTH_LOCK_TIMEOUT (R43). -/
  | synthLockTimeout (fc w : Nat)
  /-- SYNTH_LOCK_LOSS (R44). -/
  | synthLockLoss (fc w : Nat)
  /-- CAL_END (R50). -/
  | calEnd (fc : Nat) (new : Factors) (fails : CalFails)
  /-- TRACK_UPDATE (R52). -/
  | trackUpdate (fc adc : Nat) (f : Tracked)
  /-- DOVETAIL_SLIP (R61). -/
  | dovetailSlip (fc : Nat) (o : Occupancy)
  /-- MERGE_MISMATCH (R62). -/
  | mergeMismatch (fc : Nat) (m : Meeting)
  /-- FAB_ECC (R63). -/
  | fabEcc (fc : Nat) (e : FabErr) (single : Bool)
  /-- CHZ_COEF_PARITY (R74). -/
  | chzCoefParity (fc sl : Nat)
  /-- FAB_TILE_FAIL (R75). -/
  | fabTileFail (fc tile : Nat)
  /-- SPARE_MIGRATION_STEP (R75). -/
  | spareMigrationStep (fc : Nat) (bad : List Nat)
  /-- FILL_END (R73). -/
  | fillEnd (fc sl : Nat)
  /-- CONVERTER_ENABLE_SETTLE (R187). -/
  | converterEnableSettle (fc : Nat)
  /-- CAPTURE_TRIGGER (R79). -/
  | captureTrigger (fc : Nat) (h : Heard)
  /-- NO_TRIGGER (R79). -/
  | noTrigger (fc engine : Nat)
  /-- SNAPSHOT_COPY (R111). -/
  | snapshotCopy (fc : Nat)
  /-- DELAY_SEARCH_END (R91). -/
  | delaySearchEnd (fc sl lag peak iso : Nat)
  /-- PROBE_PHASE_END (R92). -/
  | probePhaseEnd (fc sl : Nat)
  /-- CHECKPOINT (R103). -/
  | checkpoint (fc sl : Nat)
  /-- GOUGE_TAP_ECC (R107). -/
  | gougeTapEcc (fc kind : Nat) (at_ : GougeWord) (single : Bool)
  /-- LANE_FAIL (R108). -/
  | laneFail (fc lane : Nat)
  /-- LANE_MIGRATION_STEP (R108). -/
  | laneMigrationStep (fc : Nat) (bad : List Nat)
  /-- GUARD_HOLD_EXPIRY (R129). -/
  | guardHoldExpiry (fc : Nat)
  /-- PATTERN_BOUNDARY (R143). -/
  | patternBoundary (fc g : Nat)
  /-- FE_PIN_EDGE (R155). -/
  | fePinEdge (fc p : Nat)
  /-- SEQ_TX_TIMEOUT (R151). -/
  | seqTxTimeout (fc g : Nat)
  /-- SEQ_HOLD_EXPIRED (R153). -/
  | seqHoldExpired (fc g : Nat)
  /-- FRAME_START (R148). -/
  | frameStart (fc g : Nat)
  /-- SYNC_BURST (R147). -/
  | syncBurst (fc g : Nat) (b : Burst) (levels : List (Nat × Int × Int))
  /-- MISMATCH_DWELL (R163). -/
  | mismatchDwell (fc m : Nat)
  /-- TUNER_SEARCH_STEP (R165). -/
  | tunerSearchStep (fc m : Nat)
  /-- SEARCH_TIMEOUT (R165). -/
  | searchTimeout (fc m : Nat)
  /-- CARRIER_ZERO (R254). -/
  | carrierZero (fc : Nat)
  /-- CARRIER_TOP (R248). -/
  | carrierTop (fc : Nat)
  /-- COMPARE_MATCH (R269). -/
  | compareMatch (fc n : Nat) (isB : Bool)
  /-- PWM_TRIGGER_LINE (R270). -/
  | pwmTriggerLine (fc l : Nat)
  /-- MASK_ASSERT (R260). -/
  | maskAssert (fc m : Nat)
  /-- MASK_RELEASE (R260). -/
  | maskRelease (fc m : Nat)
  /-- GAUGE_TRIGGER (R236). -/
  | gaugeTrigger (fc n : Nat)
  /-- GAUGE_DELAY_END (R236). -/
  | gaugeDelayEnd (fc n : Nat)
  /-- CONVERSION_END (R239). -/
  | conversionEnd (fc n : Nat) (v : Int)
  /-- GAUGE_SELF_CAL_END (R243). -/
  | gaugeSelfCalEnd (fc n : Nat) (offset : Int) (gain : Nat)
  /-- SUPPLY_LOOP_RUN (R277). -/
  | supplyLoopRun (fc n : Nat)
  /-- SUPPLY_LOOP_MISS (R275). -/
  | supplyLoopMiss (fc n : Nat)
  /-- FAULT_EVENT (R300). -/
  | faultEvent (fc : Nat) (srcs : List Nat)
  /-- FAULT_WINDOW_CLOSE (R298). -/
  | faultWindowClose (fc i : Nat)
  /-- CHIP_RESET (R303). -/
  | chipReset (fc : Nat) (unit : List Byte)
  /-- ALIVE_TOGGLE (R306). -/
  | aliveToggle (fc : Nat)
  /-- EVENT_ARRIVAL (R318). -/
  | eventArrival (fc : Nat)
  /-- TURN_MARK (R29). -/
  | turnMark (fc : Nat)
  /-- RATE_REFILL (R318). -/
  | rateRefill (fc : Nat)
  /-- LOG_MEM (R324). -/
  | logMem (fc bank kind : Nat) (single : Bool)
  /-- PARSE_END (R179). -/
  | parseEnd (fc : Nat)
  /-- SWAP_VALIDATION_END (R181). -/
  | swapValidationEnd (fc : Nat)
  /-- FLASH_START (R190). -/
  | flashStart (fc : Nat)
  /-- SELF_TEST_END (R329). -/
  | selfTestEnd (fc : Nat) (failed : Option Nat) (sealedSet : Option Factors)
  /-- TOKEN_VERDICT (R336). -/
  | tokenVerdict (fc : Nat)
  /-- CONSENT_COUNTER_STEP (R340). -/
  | consentCounterStep (fc : Nat)
  /-- PROV_VERDICT (R333). -/
  | provVerdict (fc : Nat)
  /-- OTP_ROW_COMMIT (R331). -/
  | otpRowCommit (fc : Nat)
  /-- RESPOND_VERDICT (R344). -/
  | respondVerdict (fc : Nat)
  /-- CHALLENGE_EXPIRY (R343). -/
  | challengeExpiry (fc : Nat)
  /-- SESSION_EXPIRY (R348). -/
  | sessionExpiry (fc : Nat)
  /-- WIDE_UPPER_READ (R12). -/
  | wideUpperRead (fc off len : Nat)
  /-- PLAN_ECC (R173). -/
  | planEcc (fc kind word : Nat) (single : Bool)
  /-- FLASH_READ_END (R190). -/
  | flashReadEnd (fc : Nat) (bytes : List Byte)
  /-- CAPTURE_RECORDING_END (R77). -/
  | captureRecordingEnd (fc engine : Nat) (w : Lanes) (l : List SlotMeas)
  /-- CAPTURE_SHARE_OVERRUN (R79). -/
  | captureShareOverrun (fc engine : Nat) (w : Lanes) (l : List SlotMeas)
  /-- DEAD_TIME_END (R251). -/
  | deadTimeEnd (fc o : Nat)
  /-- MIN_INTERVAL_REACHED (R261). -/
  | minIntervalReached (fc o : Nat)
  /-- TAMPER_END (R350). -/
  | tamperEnd (fc : Nat)
deriving DecidableEq, Repr

end Sys2Proof
end

