-- ==== Sys2Proof/Decode.lean ====
section
/-! DEFINITION. Command words. spec/opcode_table.json gives no row any bits: its commands are happenings on a block, not words of a program. So no
word spells a command. -/
namespace Sys2Proof

/-- The command a word spells by the table's bits: none, since no row of the table has bits. -/
def decodeTableWord (_nbits _w : Nat) : Option Instr := none

end Sys2Proof
end

