-- ==== Sys2Proof/Machine/RegMap.lean ====
section
/-! DEFINITION. The register map: every register field of the chapters' register tables, as a named
`Field`, and the map's rows for reads and writes by offset. Offsets, bits, access codes and reset values are those
of the register tables of spec/01 to spec/15; a field that is hard to store (a copy in force, a sum over the
state) is computed in Views.lean. -/
namespace Sys2Proof.Machine

namespace F
/-! ID_PART: Table R3 of spec/00_scope.md. -/
def ID_PART_PART : Field := ⟨0x0, 0, 16, 0⟩
/-! HIF_STATUS: Table 8.14 of spec/08_host_interface.md. -/
def HIF_STATUS_LINK_UP : Field := ⟨0x1000, 0, 1, 0⟩
def HIF_STATUS_SPEED : Field := ⟨0x1000, 1, 3, 0⟩
def HIF_STATUS_WIDTH : Field := ⟨0x1000, 4, 3, 0⟩
def HIF_STATUS_IN_FLIGHT : Field := ⟨0x1000, 8, 6, 0⟩
def HIF_STATUS_HELD : Field := ⟨0x1000, 14, 9, 0⟩
def HIF_STATUS_FETCH_STOPPED : Field := ⟨0x1000, 23, 1, 0⟩
/-! HIF_CTRL: Table 8.15 of spec/08_host_interface.md. -/
def HIF_CTRL_PAUSE : Field := ⟨0x1004, 0, 1, 0⟩
def HIF_CTRL_BLOCK_RESET : Field := ⟨0x1004, 1, 1, 0⟩
/-! HIF_DB_ADDR_LO: Table 8.16 of spec/08_host_interface.md. -/
def HIF_DB_ADDR_LO_ADDR : Field := ⟨0x1008, 6, 26, 0⟩
/-! HIF_DB_ADDR_HI: Table 8.16 of spec/08_host_interface.md. -/
def HIF_DB_ADDR_HI_ADDR : Field := ⟨0x100c, 0, 32, 0⟩
/-! HIF_XLATE_LO: Table 8.17 of spec/08_host_interface.md. -/
def HIF_XLATE_LO_VA : Field := ⟨0x1010, 0, 32, 0⟩
/-! HIF_XLATE_HI: Table 8.17 of spec/08_host_interface.md. -/
def HIF_XLATE_HI_VA : Field := ⟨0x1014, 0, 16, 0⟩
def HIF_XLATE_HI_KIND : Field := ⟨0x1014, 16, 2, 0⟩
def HIF_XLATE_HI_SQ : Field := ⟨0x1014, 18, 3, 0⟩
/-! HIF_ERR_COUNT: Table 8.18 of spec/08_host_interface.md. -/
def HIF_ERR_COUNT_XLATE : Field := ⟨0x1018, 0, 16, 0⟩
def HIF_ERR_COUNT_MALFORMED : Field := ⟨0x1018, 16, 16, 0⟩
/-! HIF_ORPHAN: Table 8.19 of spec/08_host_interface.md. -/
def HIF_ORPHAN_DISCARD : Field := ⟨0x101c, 0, 1, 0⟩
def HIF_ORPHAN_LOST : Field := ⟨0x101c, 16, 16, 0⟩
/-! HIF_LINK: Table 8.20 of spec/08_host_interface.md. -/
def HIF_LINK_DOWNS : Field := ⟨0x1020, 0, 16, 0⟩
def HIF_LINK_TAIL_ERRORS : Field := ⟨0x1020, 16, 16, 0⟩
/-! HIF_TRAP: Table 8.21 of spec/08_host_interface.md. -/
def HIF_TRAP_PENDING : Field := ⟨0x1024, 0, 1, 0⟩
def HIF_TRAP_PIN : Field := ⟨0x1024, 1, 1, 0⟩
def HIF_TRAP_COUNT : Field := ⟨0x1024, 16, 16, 0⟩
/-! HIF_IRQ_MAP: Table 8.22 of spec/08_host_interface.md. -/
def HIF_IRQ_MAP_VEC0 (n : Nat) : Field := ⟨0x1028 + 0x4 * n, 0, 6, 0⟩
def HIF_IRQ_MAP_EN0 (n : Nat) : Field := ⟨0x1028 + 0x4 * n, 7, 1, 0⟩
def HIF_IRQ_MAP_VEC1 (n : Nat) : Field := ⟨0x1028 + 0x4 * n, 8, 6, 0⟩
def HIF_IRQ_MAP_EN1 (n : Nat) : Field := ⟨0x1028 + 0x4 * n, 15, 1, 0⟩
def HIF_IRQ_MAP_VEC2 (n : Nat) : Field := ⟨0x1028 + 0x4 * n, 16, 6, 0⟩
def HIF_IRQ_MAP_EN2 (n : Nat) : Field := ⟨0x1028 + 0x4 * n, 23, 1, 0⟩
def HIF_IRQ_MAP_VEC3 (n : Nat) : Field := ⟨0x1028 + 0x4 * n, 24, 6, 0⟩
def HIF_IRQ_MAP_EN3 (n : Nat) : Field := ⟨0x1028 + 0x4 * n, 31, 1, 0⟩
/-! HIF_ABORT: Table 8.23 of spec/08_host_interface.md. -/
def HIF_ABORT_LAST_COUNT : Field := ⟨0x1030, 0, 16, 0⟩
def HIF_ABORT_LOST : Field := ⟨0x1030, 16, 16, 0⟩
/-! HIF_HWT_CMD: Table 8.24 of spec/08_host_interface.md. -/
def HIF_HWT_CMD_INDEX : Field := ⟨0x1040, 0, 10, 0⟩
def HIF_HWT_CMD_OP : Field := ⟨0x1040, 10, 2, 0⟩
def HIF_HWT_CMD_BUSY : Field := ⟨0x1040, 12, 1, 0⟩
def HIF_HWT_CMD_ERR : Field := ⟨0x1040, 13, 2, 0⟩
def HIF_HWT_CMD_USED : Field := ⟨0x1040, 16, 11, 0⟩
/-! HIF_HWT_VA: Table 8.25 of spec/08_host_interface.md. -/
def HIF_HWT_VA_VA : Field := ⟨0x1044, 0, 32, 0⟩
/-! HIF_HWT_PA_LO: Table 8.25 of spec/08_host_interface.md. -/
def HIF_HWT_PA_LO_PA : Field := ⟨0x1048, 0, 32, 0⟩
/-! HIF_HWT_PA_HI: Table 8.25 of spec/08_host_interface.md. -/
def HIF_HWT_PA_HI_PA : Field := ⟨0x104c, 0, 16, 0⟩
def HIF_HWT_PA_HI_SIZE : Field := ⟨0x104c, 16, 1, 0⟩
def HIF_HWT_PA_HI_RD : Field := ⟨0x104c, 17, 1, 0⟩
def HIF_HWT_PA_HI_WR : Field := ⟨0x104c, 18, 1, 0⟩
def HIF_HWT_PA_HI_V : Field := ⟨0x104c, 19, 1, 0⟩
/-! HIF_SQ_BASE_LO: Table 8.26 of spec/08_host_interface.md. -/
def HIF_SQ_BASE_LO_BASE (n : Nat) : Field := ⟨0x1100 + 0x20 * n, 12, 20, 0⟩
/-! HIF_SQ_BASE_HI: Table 8.26 of spec/08_host_interface.md. -/
def HIF_SQ_BASE_HI_BASE (n : Nat) : Field := ⟨0x1104 + 0x20 * n, 0, 32, 0⟩
/-! HIF_SQ_CFG: Table 8.26 of spec/08_host_interface.md. -/
def HIF_SQ_CFG_EN (n : Nat) : Field := ⟨0x1108 + 0x20 * n, 0, 1, 0⟩
def HIF_SQ_CFG_SIZE (n : Nat) : Field := ⟨0x1108 + 0x20 * n, 1, 4, 4⟩
def HIF_SQ_CFG_PRIO (n : Nat) : Field := ⟨0x1108 + 0x20 * n, 5, 2, 0⟩
def HIF_SQ_CFG_CQ (n : Nat) : Field := ⟨0x1108 + 0x20 * n, 7, 3, 0⟩
/-! HIF_SQ_STATUS: Table 8.26 of spec/08_host_interface.md. -/
def HIF_SQ_STATUS_HEAD (n : Nat) : Field := ⟨0x110c + 0x20 * n, 0, 16, 0⟩
def HIF_SQ_STATUS_IN_FLIGHT (n : Nat) : Field := ⟨0x110c + 0x20 * n, 16, 3, 0⟩
def HIF_SQ_STATUS_WAIT_CQ (n : Nat) : Field := ⟨0x110c + 0x20 * n, 19, 1, 0⟩
def HIF_SQ_STATUS_ERR (n : Nat) : Field := ⟨0x110c + 0x20 * n, 20, 1, 0⟩
/-! HIF_SQ_TAIL_SEEN: Table 8.26 of spec/08_host_interface.md. -/
def HIF_SQ_TAIL_SEEN_TAIL (n : Nat) : Field := ⟨0x1110 + 0x20 * n, 0, 16, 0⟩
/-! HIF_CQ_BASE_LO: Table 8.27 of spec/08_host_interface.md. -/
def HIF_CQ_BASE_LO_BASE (n : Nat) : Field := ⟨0x1200 + 0x20 * n, 12, 20, 0⟩
/-! HIF_CQ_BASE_HI: Table 8.27 of spec/08_host_interface.md. -/
def HIF_CQ_BASE_HI_BASE (n : Nat) : Field := ⟨0x1204 + 0x20 * n, 0, 32, 0⟩
/-! HIF_CQ_CFG: Table 8.27 of spec/08_host_interface.md. -/
def HIF_CQ_CFG_EN (n : Nat) : Field := ⟨0x1208 + 0x20 * n, 0, 1, 0⟩
def HIF_CQ_CFG_SIZE (n : Nat) : Field := ⟨0x1208 + 0x20 * n, 1, 4, 4⟩
def HIF_CQ_CFG_VEC (n : Nat) : Field := ⟨0x1208 + 0x20 * n, 5, 6, 0⟩
def HIF_CQ_CFG_FAIL_IRQ (n : Nat) : Field := ⟨0x1208 + 0x20 * n, 11, 1, 0⟩
def HIF_CQ_CFG_COAL_COUNT (n : Nat) : Field := ⟨0x1208 + 0x20 * n, 12, 8, 0⟩
def HIF_CQ_CFG_COAL_TURNS (n : Nat) : Field := ⟨0x1208 + 0x20 * n, 20, 8, 0⟩
/-! HIF_CQ_STATUS: Table 8.27 of spec/08_host_interface.md. -/
def HIF_CQ_STATUS_TAIL (n : Nat) : Field := ⟨0x120c + 0x20 * n, 0, 16, 0⟩
def HIF_CQ_STATUS_PHASE (n : Nat) : Field := ⟨0x120c + 0x20 * n, 16, 1, 1⟩
def HIF_CQ_STATUS_WAITING (n : Nat) : Field := ⟨0x120c + 0x20 * n, 17, 9, 0⟩
/-! HIF_CQ_HEAD_SEEN: Table 8.27 of spec/08_host_interface.md. -/
def HIF_CQ_HEAD_SEEN_HEAD (n : Nat) : Field := ⟨0x1210 + 0x20 * n, 0, 16, 0⟩
/-! HIF_MSIX_ADDR_LO: Table 8.13 of spec/08_host_interface.md. -/
def HIF_MSIX_ADDR_LO_ADDR (n : Nat) : Field := ⟨0x1800 + 0x10 * n, 0, 32, 0⟩
/-! HIF_MSIX_ADDR_HI: Table 8.13 of spec/08_host_interface.md. -/
def HIF_MSIX_ADDR_HI_ADDR (n : Nat) : Field := ⟨0x1804 + 0x10 * n, 0, 32, 0⟩
/-! HIF_MSIX_DATA: Table 8.13 of spec/08_host_interface.md. -/
def HIF_MSIX_DATA_DATA (n : Nat) : Field := ⟨0x1808 + 0x10 * n, 0, 32, 0⟩
/-! HIF_MSIX_CTRL: Table 8.13 of spec/08_host_interface.md. -/
def HIF_MSIX_CTRL_MASK (n : Nat) : Field := ⟨0x180c + 0x10 * n, 0, 1, 1⟩
/-! HIF_MSIX_PBA: Table 8.13 of spec/08_host_interface.md. -/
def HIF_MSIX_PBA_PENDING (n : Nat) : Field := ⟨0x1c00 + 0x4 * n, 0, 32, 0⟩
/-! TB_TURN_LO: Table 15.10 of spec/15_power_clocks_reset.md. -/
def TB_TURN_LO_TURN : Field := ⟨0x2000, 0, 32, 0⟩
/-! TB_TURN_HI: Table 15.10 of spec/15_power_clocks_reset.md. -/
def TB_TURN_HI_TURN : Field := ⟨0x2004, 0, 16, 0⟩
def TB_TURN_HI_EPOCH : Field := ⟨0x2004, 16, 16, 0⟩
/-! TB_NOW: Table 15.10 of spec/15_power_clocks_reset.md. -/
def TB_NOW_FC : Field := ⟨0x2008, 0, 12, 0⟩
/-! TB_CLK_LOSS: Table 15.10 of spec/15_power_clocks_reset.md. -/
def TB_CLK_LOSS_LAST_US : Field := ⟨0x200c, 0, 24, 0⟩
def TB_CLK_LOSS_LOSSES : Field := ⟨0x200c, 24, 8, 0⟩
/-! TB_OVERRUN: Table 1.6 of spec/01_system.md. -/
def TB_OVERRUN_GRD_OVR : Field := ⟨0x2040, 0, 1, 0⟩
def TB_OVERRUN_GOUGE_OVR : Field := ⟨0x2040, 1, 1, 0⟩
def TB_OVERRUN_CTL_OVR : Field := ⟨0x2040, 2, 1, 0⟩
def TB_OVERRUN_OVR_COUNT : Field := ⟨0x2040, 16, 16, 0⟩
/-! APZ_CFG: Table 15.11 of spec/15_power_clocks_reset.md. -/
def APZ_CFG_ROLE : Field := ⟨0x3000, 0, 2, 0⟩
def APZ_CFG_PROPAGATE : Field := ⟨0x3000, 2, 1, 0⟩
def APZ_CFG_KILL_ON_LOSS : Field := ⟨0x3000, 3, 1, 0⟩
def APZ_CFG_IN0_EN : Field := ⟨0x3000, 4, 1, 0⟩
def APZ_CFG_IN1_EN : Field := ⟨0x3000, 5, 1, 0⟩
def APZ_CFG_OUT_EN : Field := ⟨0x3000, 6, 1, 0⟩
/-! APZ_STATUS: Table 15.12 of spec/15_power_clocks_reset.md. -/
def APZ_STATUS_ALIGN : Field := ⟨0x3004, 0, 2, 0⟩
def APZ_STATUS_HOP : Field := ⟨0x3004, 2, 4, 0⟩
def APZ_STATUS_IN0_UP : Field := ⟨0x3004, 6, 1, 0⟩
def APZ_STATUS_IN1_UP : Field := ⟨0x3004, 7, 1, 0⟩
def APZ_STATUS_KILL_IN0 : Field := ⟨0x3004, 8, 1, 0⟩
def APZ_STATUS_KILL_IN1 : Field := ⟨0x3004, 9, 1, 0⟩
def APZ_STATUS_ERR : Field := ⟨0x3004, 16, 16, 0⟩
/-! APZ_DELAY: Table 15.12 of spec/15_power_clocks_reset.md. -/
def APZ_DELAY_D_DOWN : Field := ⟨0x3008, 0, 15, 0⟩
def APZ_DELAY_D_UP : Field := ⟨0x3008, 16, 15, 0⟩
/-! APZ_COUNT: Table 15.12 of spec/15_power_clocks_reset.md. -/
def APZ_COUNT_CRC_ERRORS : Field := ⟨0x300c, 0, 16, 0⟩
def APZ_COUNT_LOSSES : Field := ⟨0x300c, 16, 8, 0⟩
def APZ_COUNT_STEPS : Field := ⟨0x300c, 24, 8, 0⟩
/-! PLAN_STATUS: Table 7.12 of spec/07_plans.md. -/
def PLAN_STATUS_ACTIVE_VALID : Field := ⟨0x4000, 0, 1, 0⟩
def PLAN_STATUS_SHADOW_VALID : Field := ⟨0x4000, 1, 1, 0⟩
def PLAN_STATUS_SHADOW_CHECKED : Field := ⟨0x4000, 2, 1, 0⟩
def PLAN_STATUS_PARSING : Field := ⟨0x4000, 3, 1, 0⟩
def PLAN_STATUS_SWAP_PENDING : Field := ⟨0x4000, 4, 1, 0⟩
def PLAN_STATUS_LAST_SWAP : Field := ⟨0x4000, 5, 2, 0⟩
/-! PLAN_ID_GEN: Table 7.13 of spec/07_plans.md. -/
def PLAN_ID_GEN_VALUE (n : Nat) : Field := ⟨0x4004 + 0x4 * n, 0, 32, 0⟩
/-! PLAN_SWAP_TURN_LO: Table 7.14 of spec/07_plans.md. -/
def PLAN_SWAP_TURN_LO_SWAP_TURN : Field := ⟨0x4014, 0, 32, 0⟩
/-! PLAN_SWAP_TURN_HI: Table 7.14 of spec/07_plans.md. -/
def PLAN_SWAP_TURN_HI_SWAP_TURN : Field := ⟨0x4018, 0, 16, 0⟩
/-! PLAN_REJECT: Table 7.15 of spec/07_plans.md. -/
def PLAN_REJECT_CODE : Field := ⟨0x401c, 0, 8, 0⟩
def PLAN_REJECT_AT_SWAP : Field := ⟨0x401c, 8, 1, 0⟩
def PLAN_REJECT_OFS_LO : Field := ⟨0x401c, 9, 2, 0⟩
def PLAN_REJECT_ITEM : Field := ⟨0x401c, 16, 16, 0⟩
/-! PLAN_COUNT: Table 7.16 of spec/07_plans.md. -/
def PLAN_COUNT_REJECTS : Field := ⟨0x4020, 0, 8, 0⟩
def PLAN_COUNT_DROPPED_WRITES : Field := ⟨0x4020, 8, 8, 0⟩
def PLAN_COUNT_SWAPS : Field := ⟨0x4020, 16, 8, 0⟩
/-! PLAN_FLAGS: Table 7.17 of spec/07_plans.md. -/
def PLAN_FLAGS_ACCEPT_FACTORY_CAL : Field := ⟨0x4024, 0, 1, 0⟩
def PLAN_FLAGS_INJECT_RELAY : Field := ⟨0x4024, 1, 1, 0⟩
/-! PLAN_CTRL: Table 7.18 of spec/07_plans.md. -/
def PLAN_CTRL_COPY_ACTIVE : Field := ⟨0x4028, 0, 1, 0⟩
def PLAN_CTRL_CLEAR_SHADOW : Field := ⟨0x4028, 1, 1, 0⟩
def PLAN_CTRL_FLASH_LOAD : Field := ⟨0x4028, 2, 1, 0⟩
/-! PLAN_BOOT: Table 7.19 of spec/07_plans.md. -/
def PLAN_BOOT_STRAPS : Field := ⟨0x402c, 0, 3, 0⟩
def PLAN_BOOT_STAGE : Field := ⟨0x402c, 3, 3, 0⟩
def PLAN_BOOT_RESULT : Field := ⟨0x402c, 6, 4, 0⟩
def PLAN_BOOT_IMAGE_USED : Field := ⟨0x402c, 10, 1, 0⟩
def PLAN_BOOT_FALLBACK : Field := ⟨0x402c, 11, 1, 0⟩
def PLAN_BOOT_TOKENS_OK : Field := ⟨0x402c, 12, 6, 0⟩
/-! PLAN_ECC: Table 7.20 of spec/07_plans.md. -/
def PLAN_ECC_CORRECTED : Field := ⟨0x4030, 0, 16, 0⟩
def PLAN_ECC_UNCORRECTED : Field := ⟨0x4030, 16, 16, 0⟩
/-! CVA_STATUS: Table 2.12 of spec/02_converters.md. -/
def CVA_STATUS_SYNTH_A_STATE : Field := ⟨0x10000, 0, 3, 0⟩
def CVA_STATUS_SYNTH_B_STATE : Field := ⟨0x10000, 3, 3, 0⟩
def CVA_STATUS_CAL_STATE : Field := ⟨0x10000, 6, 2, 0⟩
def CVA_STATUS_CAL_BUSY : Field := ⟨0x10000, 8, 1, 0⟩
def CVA_STATUS_CAL_KIND : Field := ⟨0x10000, 9, 4, 0⟩
def CVA_STATUS_GRADIENT : Field := ⟨0x10000, 13, 1, 0⟩
def CVA_STATUS_TRACK_ACTIVE : Field := ⟨0x10000, 14, 1, 0⟩
/-! CVA_SYNTH_STATUS: Table 2.13 of spec/02_converters.md. -/
def CVA_SYNTH_STATUS_VCO_BAND (n : Nat) : Field := ⟨0x10004 + 0x4 * n, 0, 6, 0⟩
def CVA_SYNTH_STATUS_LOCKED (n : Nat) : Field := ⟨0x10004 + 0x4 * n, 6, 1, 0⟩
def CVA_SYNTH_STATUS_LOCK_LOSS_COUNT (n : Nat) : Field := ⟨0x10004 + 0x4 * n, 8, 8, 0⟩
def CVA_SYNTH_STATUS_ATTEMPT (n : Nat) : Field := ⟨0x10004 + 0x4 * n, 16, 2, 0⟩
/-! CVA_CAL_CTRL: Table 2.14 of spec/02_converters.md. -/
def CVA_CAL_CTRL_TRACK_EN : Field := ⟨0x10010, 0, 1, 1⟩
/-! CVA_CAL_PROGRESS: Table 2.15 of spec/02_converters.md. -/
def CVA_CAL_PROGRESS_TURNS_ELAPSED : Field := ⟨0x10014, 0, 16, 0⟩
/-! CVA_CAL_LAST: Table 2.16 of spec/02_converters.md. -/
def CVA_CAL_LAST_LAST_KIND : Field := ⟨0x10018, 0, 4, 0⟩
def CVA_CAL_LAST_LAST_OUTCOME : Field := ⟨0x10018, 4, 2, 0⟩
def CVA_CAL_LAST_ABORT_CAUSE : Field := ⟨0x10018, 6, 2, 0⟩
/-! CVA_CAL_TURN_LO: Table 2.17 of spec/02_converters.md. -/
def CVA_CAL_TURN_LO_COMMIT_TURN : Field := ⟨0x1001c, 0, 32, 0⟩
/-! CVA_CAL_TURN_HI: Table 2.17 of spec/02_converters.md. -/
def CVA_CAL_TURN_HI_COMMIT_TURN : Field := ⟨0x10020, 0, 16, 0⟩
/-! CVA_ADC_FAIL: Table 2.18 of spec/02_converters.md. -/
def CVA_ADC_FAIL_ADC_FAIL : Field := ⟨0x10024, 0, 20, 0⟩
/-! CVA_DAC_FAIL: Table 2.18 of spec/02_converters.md. -/
def CVA_DAC_FAIL_DAC_FAIL : Field := ⟨0x10028, 0, 16, 0⟩
/-! CVA_OVR_STORM_LIVE: Table 2.19 of spec/02_converters.md. -/
def CVA_OVR_STORM_LIVE_STORM : Field := ⟨0x1002c, 0, 20, 0⟩
/-! CVA_TEMP: Table 2.20 of spec/02_converters.md. -/
def CVA_TEMP_TEMP (n : Nat) : Field := ⟨0x10030 + 0x4 * n, 0, 10, 0⟩
/-! CVA_GRADIENT: Table 2.21 of spec/02_converters.md. -/
def CVA_GRADIENT_GRAD_NOW : Field := ⟨0x1003c, 0, 9, 0⟩
def CVA_GRADIENT_GRAD_PEAK : Field := ⟨0x1003c, 16, 9, 0⟩
/-! CVA_ADC_CFG: Table 2.22 of spec/02_converters.md. -/
def CVA_ADC_CFG_EN (n : Nat) : Field := ⟨0x10100 + 0x10 * n, 0, 1, 0⟩
/-! CVA_ADC_OVR: Table 2.23 of spec/02_converters.md. -/
def CVA_ADC_OVR_OVR_TURNS (n : Nat) : Field := ⟨0x10104 + 0x10 * n, 0, 16, 0⟩
def CVA_ADC_OVR_WINDOW_COUNT (n : Nat) : Field := ⟨0x10104 + 0x10 * n, 16, 9, 0⟩
/-! CVA_ADC_CAL: Table 2.24 of spec/02_converters.md. -/
def CVA_ADC_CAL_IMG_DBC (n : Nat) : Field := ⟨0x10108 + 0x10 * n, 0, 8, 0⟩
def CVA_ADC_CAL_AAF_CODE (n : Nat) : Field := ⟨0x10108 + 0x10 * n, 8, 8, 0⟩
def CVA_ADC_CAL_DCO_RESID (n : Nat) : Field := ⟨0x10108 + 0x10 * n, 16, 12, 0⟩
/-! CVA_ADC_STATUS: Table 2.25 of spec/02_converters.md. -/
def CVA_ADC_STATUS_IN_SERVICE (n : Nat) : Field := ⟨0x1010c + 0x10 * n, 0, 1, 0⟩
def CVA_ADC_STATUS_OVR_NOW (n : Nat) : Field := ⟨0x1010c + 0x10 * n, 1, 1, 0⟩
def CVA_ADC_STATUS_STORM (n : Nat) : Field := ⟨0x1010c + 0x10 * n, 2, 1, 0⟩
def CVA_ADC_STATUS_CAL_FAILED (n : Nat) : Field := ⟨0x1010c + 0x10 * n, 3, 1, 0⟩
def CVA_ADC_STATUS_FAIL_KIND (n : Nat) : Field := ⟨0x1010c + 0x10 * n, 4, 4, 0⟩
/-! CVA_DAC_CFG: Table 2.26 of spec/02_converters.md. -/
def CVA_DAC_CFG_EN (n : Nat) : Field := ⟨0x10400 + 0x10 * n, 0, 1, 0⟩
def CVA_DAC_CFG_INV_SINC (n : Nat) : Field := ⟨0x10400 + 0x10 * n, 2, 1, 0⟩
/-! CVA_DAC_STATUS: Table 2.27 of spec/02_converters.md. -/
def CVA_DAC_STATUS_MUTED (n : Nat) : Field := ⟨0x10404 + 0x10 * n, 0, 1, 1⟩
def CVA_DAC_STATUS_CAUSE_KILL (n : Nat) : Field := ⟨0x10404 + 0x10 * n, 1, 1, 0⟩
def CVA_DAC_STATUS_CAUSE_SYNTH (n : Nat) : Field := ⟨0x10404 + 0x10 * n, 2, 1, 0⟩
def CVA_DAC_STATUS_CAUSE_CAL (n : Nat) : Field := ⟨0x10404 + 0x10 * n, 3, 1, 0⟩
def CVA_DAC_STATUS_CAUSE_RAIL (n : Nat) : Field := ⟨0x10404 + 0x10 * n, 4, 1, 0⟩
def CVA_DAC_STATUS_CAUSE_DISABLED (n : Nat) : Field := ⟨0x10404 + 0x10 * n, 5, 1, 1⟩
def CVA_DAC_STATUS_CAUSE_CONV_FAIL (n : Nat) : Field := ⟨0x10404 + 0x10 * n, 6, 1, 0⟩
def CVA_DAC_STATUS_CAUSE_STATE (n : Nat) : Field := ⟨0x10404 + 0x10 * n, 7, 1, 0⟩
/-! FAB_STATUS: Table 3.9 of spec/03_fabric_channeliser.md. -/
def FAB_STATUS_SPARES_FREE : Field := ⟨0x20000, 0, 4, 0⟩
def FAB_STATUS_SPARE_EXH : Field := ⟨0x20000, 4, 1, 0⟩
def FAB_STATUS_SLIP_LIVE : Field := ⟨0x20000, 5, 4, 0⟩
def FAB_STATUS_TILES_RETIRED : Field := ⟨0x20000, 16, 8, 0⟩
/-! FAB_ECC_COUNT: Table 3.10 of spec/03_fabric_channeliser.md. -/
def FAB_ECC_COUNT_CORRECTED : Field := ⟨0x20004, 0, 16, 0⟩
def FAB_ECC_COUNT_UNCORRECTED : Field := ⟨0x20004, 16, 16, 0⟩
/-! FAB_SLIP: Table 3.11 of spec/03_fabric_channeliser.md. -/
def FAB_SLIP_SLIPPED : Field := ⟨0x20008, 0, 4, 0⟩
def FAB_SLIP_MERGE : Field := ⟨0x20008, 4, 1, 0⟩
def FAB_SLIP_SLIP_COUNT : Field := ⟨0x20008, 16, 16, 0⟩
/-! FAB_DOVETAIL_FILL: Table 3.12 of spec/03_fabric_channeliser.md. -/
def FAB_DOVETAIL_FILL_FILL0 : Field := ⟨0x2000c, 0, 4, 0⟩
def FAB_DOVETAIL_FILL_FILL1 : Field := ⟨0x2000c, 8, 4, 0⟩
def FAB_DOVETAIL_FILL_FILL2 : Field := ⟨0x2000c, 16, 4, 0⟩
def FAB_DOVETAIL_FILL_FILL3 : Field := ⟨0x2000c, 24, 4, 0⟩
/-! FAB_TILE_RETIRED: Table 3.13 of spec/03_fabric_channeliser.md. -/
def FAB_TILE_RETIRED_RETIRED (n : Nat) : Field := ⟨0x20010 + 0x4 * n, 0, 32, 0⟩
/-! FAB_CAP_STATUS: Table 3.14 of spec/03_fabric_channeliser.md. -/
def FAB_CAP_STATUS_ENGINE_BUSY : Field := ⟨0x20030, 0, 8, 0⟩
def FAB_CAP_STATUS_FULL_RATE : Field := ⟨0x20030, 8, 1, 0⟩
/-! FAB_ROUTE: Table 3.15 of spec/03_fabric_channeliser.md. -/
def FAB_ROUTE_SRC (n : Nat) : Field := ⟨0x20400 + 0x4 * n, 0, 8, 0⟩
def FAB_ROUTE_ZERO (n : Nat) : Field := ⟨0x20400 + 0x4 * n, 8, 1, 1⟩
/-! CHZ_COMB_CFG: Table 3.16 of spec/03_fabric_channeliser.md. -/
def CHZ_COMB_CFG_ATTN (n : Nat) : Field := ⟨0x28000 + 0x4 * n, 0, 8, 0⟩
/-! CHZ_COMB_SAT: Table 3.17 of spec/03_fabric_channeliser.md. -/
def CHZ_COMB_SAT_SAT_WORDS (n : Nat) : Field := ⟨0x28040 + 0x4 * n, 0, 16, 0⟩
/-! CHZ_SLOT_CFG: Table 3.18 of spec/03_fabric_channeliser.md. -/
def CHZ_SLOT_CFG_EN (n : Nat) : Field := ⟨0x29000 + 0x40 * n, 0, 1, 0⟩
def CHZ_SLOT_CFG_SRC (n : Nat) : Field := ⟨0x29000 + 0x40 * n, 1, 5, 0⟩
def CHZ_SLOT_CFG_RATE (n : Nat) : Field := ⟨0x29000 + 0x40 * n, 6, 3, 0⟩
def CHZ_SLOT_CFG_TRANS (n : Nat) : Field := ⟨0x29000 + 0x40 * n, 9, 2, 0⟩
def CHZ_SLOT_CFG_REJ (n : Nat) : Field := ⟨0x29000 + 0x40 * n, 11, 2, 0⟩
def CHZ_SLOT_CFG_PHASE (n : Nat) : Field := ⟨0x29000 + 0x40 * n, 13, 1, 0⟩
def CHZ_SLOT_CFG_DIV (n : Nat) : Field := ⟨0x29000 + 0x40 * n, 14, 1, 0⟩
/-! CHZ_SLOT_FREQ: Table 3.19 of spec/03_fabric_channeliser.md. -/
def CHZ_SLOT_FREQ_FREQ (n : Nat) : Field := ⟨0x29004 + 0x40 * n, 0, 32, 0⟩
/-! CHZ_SLOT_BW: Table 3.20 of spec/03_fabric_channeliser.md. -/
def CHZ_SLOT_BW_BW (n : Nat) : Field := ⟨0x2900c + 0x40 * n, 0, 16, 0⟩
/-! CHZ_SLOT_GAIN_LIM: Table 3.21 of spec/03_fabric_channeliser.md. -/
def CHZ_SLOT_GAIN_LIM_GAIN_MIN (n : Nat) : Field := ⟨0x29010 + 0x40 * n, 0, 16, 64936⟩
def CHZ_SLOT_GAIN_LIM_GAIN_MAX (n : Nat) : Field := ⟨0x29010 + 0x40 * n, 16, 16, 64936⟩
/-! CHZ_SLOT_GAIN: Table 3.22 of spec/03_fabric_channeliser.md. -/
def CHZ_SLOT_GAIN_GAIN_INIT (n : Nat) : Field := ⟨0x29018 + 0x40 * n, 0, 16, 64936⟩
def CHZ_SLOT_GAIN_GAIN_NOW (n : Nat) : Field := ⟨0x29018 + 0x40 * n, 16, 16, 64936⟩
/-! CHZ_SLOT_COMB: Table 3.23 of spec/03_fabric_channeliser.md. -/
def CHZ_SLOT_COMB_COMB_MASK (n : Nat) : Field := ⟨0x2901c + 0x40 * n, 0, 16, 0⟩
/-! CHZ_SLOT_STATUS: Table 3.24 of spec/03_fabric_channeliser.md. -/
def CHZ_SLOT_STATUS_TILE (n : Nat) : Field := ⟨0x29020 + 0x40 * n, 0, 8, 0⟩
def CHZ_SLOT_STATUS_MUTED (n : Nat) : Field := ⟨0x29020 + 0x40 * n, 8, 1, 1⟩
def CHZ_SLOT_STATUS_M_CHUCK (n : Nat) : Field := ⟨0x29020 + 0x40 * n, 9, 1, 0⟩
def CHZ_SLOT_STATUS_M_GUARD (n : Nat) : Field := ⟨0x29020 + 0x40 * n, 10, 1, 0⟩
def CHZ_SLOT_STATUS_M_SEQ (n : Nat) : Field := ⟨0x29020 + 0x40 * n, 11, 1, 0⟩
def CHZ_SLOT_STATUS_M_CONV (n : Nat) : Field := ⟨0x29020 + 0x40 * n, 12, 1, 0⟩
def CHZ_SLOT_STATUS_M_REPAIR (n : Nat) : Field := ⟨0x29020 + 0x40 * n, 13, 1, 0⟩
def CHZ_SLOT_STATUS_M_NO_SPARE (n : Nat) : Field := ⟨0x29020 + 0x40 * n, 14, 1, 0⟩
def CHZ_SLOT_STATUS_DIRTY (n : Nat) : Field := ⟨0x29020 + 0x40 * n, 15, 1, 0⟩
def CHZ_SLOT_STATUS_MIGRATED (n : Nat) : Field := ⟨0x29020 + 0x40 * n, 16, 1, 0⟩
def CHZ_SLOT_STATUS_FILLING (n : Nat) : Field := ⟨0x29020 + 0x40 * n, 17, 1, 0⟩
def CHZ_SLOT_STATUS_DIV_SEL (n : Nat) : Field := ⟨0x29020 + 0x40 * n, 18, 1, 0⟩
/-! CHZ_SLOT_LEVEL: Table 3.25 of spec/03_fabric_channeliser.md. -/
def CHZ_SLOT_LEVEL_IN_LEVEL (n : Nat) : Field := ⟨0x29024 + 0x40 * n, 0, 16, 32768⟩
def CHZ_SLOT_LEVEL_OUT_LEVEL (n : Nat) : Field := ⟨0x29024 + 0x40 * n, 16, 16, 32768⟩
/-! CHZ_SLOT_PEAK: Table 3.26 of spec/03_fabric_channeliser.md. -/
def CHZ_SLOT_PEAK_OUT_PEAK (n : Nat) : Field := ⟨0x29028 + 0x40 * n, 0, 16, 32768⟩
def CHZ_SLOT_PEAK_SAMPLES (n : Nat) : Field := ⟨0x29028 + 0x40 * n, 16, 10, 0⟩
/-! GOUGE_STATUS: Table 4.8 of spec/04_gouge.md. -/
def GOUGE_STATUS_LANES_FREE : Field := ⟨0x30000, 0, 4, 0⟩
def GOUGE_STATUS_SNAP_BUSY : Field := ⟨0x30000, 4, 1, 0⟩
def GOUGE_STATUS_LANES_RETIRED : Field := ⟨0x30000, 16, 8, 0⟩
/-! GOUGE_TAPS_USED: Table 4.9 of spec/04_gouge.md. -/
def GOUGE_TAPS_USED_TAPS : Field := ⟨0x30004, 0, 20, 0⟩
/-! GOUGE_UNITS_USED: Table 4.9 of spec/04_gouge.md. -/
def GOUGE_UNITS_USED_UNITS : Field := ⟨0x30008, 0, 26, 0⟩
/-! GOUGE_TAPS_SHADOW: Table 4.9 of spec/04_gouge.md. -/
def GOUGE_TAPS_SHADOW_TAPS : Field := ⟨0x3000c, 0, 20, 0⟩
/-! GOUGE_UNITS_SHADOW: Table 4.9 of spec/04_gouge.md. -/
def GOUGE_UNITS_SHADOW_UNITS : Field := ⟨0x30010, 0, 26, 0⟩
/-! GOUGE_ECC_COUNT: Table 4.10 of spec/04_gouge.md. -/
def GOUGE_ECC_COUNT_CORRECTED : Field := ⟨0x30014, 0, 16, 0⟩
def GOUGE_ECC_COUNT_UNCORRECTED : Field := ⟨0x30014, 16, 16, 0⟩
/-! GOUGE_CFG: Table 4.11 of spec/04_gouge.md. -/
def GOUGE_CFG_CKPT_TURNS : Field := ⟨0x30018, 0, 8, 16⟩
def GOUGE_CFG_STALE_TURNS : Field := ⟨0x30018, 8, 8, 16⟩
def GOUGE_CFG_DIV_THRESH : Field := ⟨0x30018, 16, 4, 3⟩
def GOUGE_CFG_PROBE_MIN : Field := ⟨0x30018, 20, 6, 10⟩
/-! GOUGE_LANE_RETIRED: Table 4.12 of spec/04_gouge.md. -/
def GOUGE_LANE_RETIRED_RETIRED (n : Nat) : Field := ⟨0x30020 + 0x4 * n, 0, 32, 0⟩
/-! GOUGE_SLOT_ALLOC: Table 4.13 of spec/04_gouge.md. -/
def GOUGE_SLOT_ALLOC_TAPS (n : Nat) : Field := ⟨0x31000 + 0x40 * n, 0, 8, 0⟩
def GOUGE_SLOT_ALLOC_DELAY (n : Nat) : Field := ⟨0x31000 + 0x40 * n, 8, 13, 0⟩
def GOUGE_SLOT_ALLOC_DELAY_AUTO (n : Nat) : Field := ⟨0x31000 + 0x40 * n, 21, 1, 1⟩
def GOUGE_SLOT_ALLOC_PRE_TAPS (n : Nat) : Field := ⟨0x31000 + 0x40 * n, 22, 6, 4⟩
def GOUGE_SLOT_ALLOC_START (n : Nat) : Field := ⟨0x31000 + 0x40 * n, 28, 1, 0⟩
/-! GOUGE_SLOT_ADAPT: Table 4.14 of spec/04_gouge.md. -/
def GOUGE_SLOT_ADAPT_MU (n : Nat) : Field := ⟨0x31008 + 0x40 * n, 0, 16, 4096⟩
def GOUGE_SLOT_ADAPT_MU_PROBE (n : Nat) : Field := ⟨0x31008 + 0x40 * n, 16, 16, 16384⟩
/-! GOUGE_SLOT_PROBE: Table 4.15 of spec/04_gouge.md. -/
def GOUGE_SLOT_PROBE_PROBE_TURNS (n : Nat) : Field := ⟨0x31010 + 0x40 * n, 0, 13, 512⟩
def GOUGE_SLOT_PROBE_PROBE_LEVEL (n : Nat) : Field := ⟨0x31010 + 0x40 * n, 16, 6, 40⟩
/-! GOUGE_SLOT_LIMITS: Table 4.16 of spec/04_gouge.md. -/
def GOUGE_SLOT_LIMITS_ISO_PRESET (n : Nat) : Field := ⟨0x31018 + 0x40 * n, 0, 11, 0⟩
def GOUGE_SLOT_LIMITS_CANCEL_CAP (n : Nat) : Field := ⟨0x31018 + 0x40 * n, 12, 9, 450⟩
def GOUGE_SLOT_LIMITS_CANCEL_AVG (n : Nat) : Field := ⟨0x31018 + 0x40 * n, 24, 4, 4⟩
/-! GOUGE_SLOT_CTRL: Table 4.17 of spec/04_gouge.md. -/
def GOUGE_SLOT_CTRL_FREEZE (n : Nat) : Field := ⟨0x31020 + 0x40 * n, 0, 1, 0⟩
def GOUGE_SLOT_CTRL_REPROBE (n : Nat) : Field := ⟨0x31020 + 0x40 * n, 1, 1, 0⟩
def GOUGE_SLOT_CTRL_ZERO (n : Nat) : Field := ⟨0x31020 + 0x40 * n, 2, 1, 0⟩
/-! GOUGE_SLOT_STATUS: Table 4.18 of spec/04_gouge.md. -/
def GOUGE_SLOT_STATUS_PHASE (n : Nat) : Field := ⟨0x31024 + 0x40 * n, 0, 3, 0⟩
def GOUGE_SLOT_STATUS_FROZEN (n : Nat) : Field := ⟨0x31024 + 0x40 * n, 3, 1, 0⟩
def GOUGE_SLOT_STATUS_F_DIRTY (n : Nat) : Field := ⟨0x31024 + 0x40 * n, 4, 1, 0⟩
def GOUGE_SLOT_STATUS_F_SEQ (n : Nat) : Field := ⟨0x31024 + 0x40 * n, 5, 1, 0⟩
def GOUGE_SLOT_STATUS_F_MUTE (n : Nat) : Field := ⟨0x31024 + 0x40 * n, 6, 1, 0⟩
def GOUGE_SLOT_STATUS_F_DAC (n : Nat) : Field := ⟨0x31024 + 0x40 * n, 7, 1, 0⟩
def GOUGE_SLOT_STATUS_F_LOW_REF (n : Nat) : Field := ⟨0x31024 + 0x40 * n, 8, 1, 0⟩
def GOUGE_SLOT_STATUS_F_HOST (n : Nat) : Field := ⟨0x31024 + 0x40 * n, 9, 1, 0⟩
def GOUGE_SLOT_STATUS_F_DIVERGED (n : Nat) : Field := ⟨0x31024 + 0x40 * n, 10, 1, 0⟩
def GOUGE_SLOT_STATUS_VALID (n : Nat) : Field := ⟨0x31024 + 0x40 * n, 11, 1, 0⟩
def GOUGE_SLOT_STATUS_SPAN_SHORT (n : Nat) : Field := ⟨0x31024 + 0x40 * n, 12, 1, 0⟩
def GOUGE_SLOT_STATUS_PROBE_FAILS (n : Nat) : Field := ⟨0x31024 + 0x40 * n, 13, 2, 0⟩
def GOUGE_SLOT_STATUS_PROBE_FAILED (n : Nat) : Field := ⟨0x31024 + 0x40 * n, 15, 1, 0⟩
def GOUGE_SLOT_STATUS_LANE (n : Nat) : Field := ⟨0x31024 + 0x40 * n, 16, 8, 0⟩
def GOUGE_SLOT_STATUS_MIGRATED (n : Nat) : Field := ⟨0x31024 + 0x40 * n, 24, 1, 0⟩
/-! GOUGE_SLOT_REPORT: Table 4.19 of spec/04_gouge.md. -/
def GOUGE_SLOT_REPORT_C_REP (n : Nat) : Field := ⟨0x31028 + 0x40 * n, 0, 16, 0⟩
def GOUGE_SLOT_REPORT_ISO (n : Nat) : Field := ⟨0x31028 + 0x40 * n, 16, 16, 0⟩
/-! GOUGE_SLOT_ESTIMATE: Table 4.20 of spec/04_gouge.md. -/
def GOUGE_SLOT_ESTIMATE_C_EST (n : Nat) : Field := ⟨0x3102c + 0x40 * n, 0, 16, 0⟩
def GOUGE_SLOT_ESTIMATE_C_EDGE (n : Nat) : Field := ⟨0x3102c + 0x40 * n, 16, 16, 0⟩
/-! GOUGE_SLOT_CKPT: Table 4.21 of spec/04_gouge.md. -/
def GOUGE_SLOT_CKPT_CKPT_VALID (n : Nat) : Field := ⟨0x31030 + 0x40 * n, 0, 1, 0⟩
def GOUGE_SLOT_CKPT_DIV_COUNT (n : Nat) : Field := ⟨0x31030 + 0x40 * n, 8, 8, 0⟩
def GOUGE_SLOT_CKPT_CKPT_C (n : Nat) : Field := ⟨0x31030 + 0x40 * n, 16, 16, 0⟩
/-! GRD_STATUS: Table 5.8 of spec/05_network_guard.md. -/
def GRD_STATUS_LATCHED : Field := ⟨0x40000, 0, 1, 0⟩
def GRD_STATUS_ALL_MUTE : Field := ⟨0x40000, 1, 1, 0⟩
def GRD_STATUS_DIR_DL : Field := ⟨0x40000, 2, 1, 0⟩
def GRD_STATUS_DIR_UL : Field := ⟨0x40000, 3, 1, 0⟩
def GRD_STATUS_KILL_PIN : Field := ⟨0x40000, 4, 1, 0⟩
def GRD_STATUS_KILL_APZ : Field := ⟨0x40000, 5, 1, 0⟩
def GRD_STATUS_SAFE_BY_GUARD : Field := ⟨0x40000, 6, 1, 0⟩
def GRD_STATUS_SLOTS_MUTED : Field := ⟨0x40000, 16, 8, 0⟩
def GRD_STATUS_SLOTS_BACKED_OFF : Field := ⟨0x40000, 24, 8, 0⟩
/-! GRD_CFG: Table 5.9 of spec/05_network_guard.md. -/
def GRD_CFG_DIR_ESC : Field := ⟨0x40004, 0, 4, 4⟩
def GRD_CFG_LATCH_ESC : Field := ⟨0x40004, 4, 4, 2⟩
def GRD_CFG_OSC_RELAPSE : Field := ⟨0x40004, 8, 4, 3⟩
def GRD_CFG_ESC_WINDOW : Field := ⟨0x40004, 12, 8, 122⟩
def GRD_CFG_KILL_RESUME : Field := ⟨0x40004, 20, 1, 0⟩
/-! GRD_HOLD: Table 5.10 of spec/05_network_guard.md. -/
def GRD_HOLD_SLOT_HOLD : Field := ⟨0x4000c, 0, 16, 500⟩
def GRD_HOLD_DIR_HOLD : Field := ⟨0x4000c, 16, 16, 5000⟩
/-! GRD_LATCH: Table 5.11 of spec/05_network_guard.md. -/
def GRD_LATCH_CLEAR : Field := ⟨0x40014, 0, 1, 0⟩
def GRD_LATCH_CAUSE : Field := ⟨0x40014, 1, 2, 0⟩
def GRD_LATCH_CLEAR_REFUSED : Field := ⟨0x40014, 8, 8, 0⟩
/-! GRD_LATCH_TURN_LO: Table 5.12 of spec/05_network_guard.md. -/
def GRD_LATCH_TURN_LO_LATCH_TURN : Field := ⟨0x40018, 0, 32, 0⟩
/-! GRD_LATCH_TURN_HI: Table 5.12 of spec/05_network_guard.md. -/
def GRD_LATCH_TURN_HI_LATCH_TURN : Field := ⟨0x4001c, 0, 16, 0⟩
/-! GRD_LATCH_SLOTS: Table 5.13 of spec/05_network_guard.md. -/
def GRD_LATCH_SLOTS_SLOTS (n : Nat) : Field := ⟨0x40020 + 0x4 * n, 0, 32, 0⟩
/-! GRD_KILL: Table 5.14 of spec/05_network_guard.md. -/
def GRD_KILL_PIN_COUNT : Field := ⟨0x40030, 0, 16, 0⟩
def GRD_KILL_APZ_COUNT : Field := ⟨0x40030, 16, 16, 0⟩
/-! GRD_ACTIONS: Table 5.15 of spec/05_network_guard.md. -/
def GRD_ACTIONS_BACKOFFS : Field := ⟨0x40034, 0, 16, 0⟩
def GRD_ACTIONS_MUTES : Field := ⟨0x40034, 16, 16, 0⟩
/-! GRD_EM_CFG: Table 5.16 of spec/05_network_guard.md. -/
def GRD_EM_CFG_EN (n : Nat) : Field := ⟨0x40800 + 0x10 * n, 0, 1, 0⟩
def GRD_EM_CFG_COMB (n : Nat) : Field := ⟨0x40800 + 0x10 * n, 1, 4, 0⟩
def GRD_EM_CFG_MASK_NEAR (n : Nat) : Field := ⟨0x40800 + 0x10 * n, 5, 7, 45⟩
def GRD_EM_CFG_MASK_FAR (n : Nat) : Field := ⟨0x40800 + 0x10 * n, 12, 8, 70⟩
def GRD_EM_CFG_PERSIST (n : Nat) : Field := ⟨0x40800 + 0x10 * n, 20, 4, 2⟩
/-! GRD_EM_STATUS: Table 5.17 of spec/05_network_guard.md. -/
def GRD_EM_STATUS_VIOLATION (n : Nat) : Field := ⟨0x40808 + 0x10 * n, 0, 1, 0⟩
def GRD_EM_STATUS_SRC_DIGITAL (n : Nat) : Field := ⟨0x40808 + 0x10 * n, 1, 1, 0⟩
def GRD_EM_STATUS_FAR (n : Nat) : Field := ⟨0x40808 + 0x10 * n, 2, 1, 0⟩
def GRD_EM_STATUS_SLOT (n : Nat) : Field := ⟨0x40808 + 0x10 * n, 3, 7, 0⟩
def GRD_EM_STATUS_EXCESS (n : Nat) : Field := ⟨0x40808 + 0x10 * n, 16, 8, 0⟩
/-! GRD_EM_COUNT: Table 5.18 of spec/05_network_guard.md. -/
def GRD_EM_COUNT_VIOL_TURNS (n : Nat) : Field := ⟨0x4080c + 0x10 * n, 0, 16, 0⟩
/-! GRD_SLOT_CFG: Table 5.19 of spec/05_network_guard.md. -/
def GRD_SLOT_CFG_MARGIN (n : Nat) : Field := ⟨0x41000 + 0x40 * n, 0, 9, 150⟩
def GRD_SLOT_CFG_LOOP_LAG (n : Nat) : Field := ⟨0x41000 + 0x40 * n, 9, 13, 0⟩
def GRD_SLOT_CFG_PAIR (n : Nat) : Field := ⟨0x41000 + 0x40 * n, 22, 7, 0⟩
def GRD_SLOT_CFG_PAIR_EN (n : Nat) : Field := ⟨0x41000 + 0x40 * n, 29, 1, 0⟩
def GRD_SLOT_CFG_DL_SELF_MUTE (n : Nat) : Field := ⟨0x41000 + 0x40 * n, 30, 1, 0⟩
/-! GRD_SLOT_THR: Table 5.20 of spec/05_network_guard.md. -/
def GRD_SLOT_THR_OSC_RISE (n : Nat) : Field := ⟨0x41008 + 0x40 * n, 0, 6, 12⟩
def GRD_SLOT_THR_OSC_PEAK (n : Nat) : Field := ⟨0x41008 + 0x40 * n, 6, 6, 10⟩
def GRD_SLOT_THR_OSC_MAC (n : Nat) : Field := ⟨0x41008 + 0x40 * n, 12, 8, 6⟩
def GRD_SLOT_THR_WARN_MARGIN (n : Nat) : Field := ⟨0x41008 + 0x40 * n, 20, 8, 16⟩
/-! GRD_SLOT_LEVELS: Table 5.21 of spec/05_network_guard.md. -/
def GRD_SLOT_LEVELS_DONOR_MIN (n : Nat) : Field := ⟨0x41010 + 0x40 * n, 0, 12, 3096⟩
def GRD_SLOT_LEVELS_NR_PERSIST (n : Nat) : Field := ⟨0x41010 + 0x40 * n, 12, 4, 4⟩
def GRD_SLOT_LEVELS_WARN_PERSIST (n : Nat) : Field := ⟨0x41010 + 0x40 * n, 16, 4, 4⟩
def GRD_SLOT_LEVELS_DL_PERSIST (n : Nat) : Field := ⟨0x41010 + 0x40 * n, 20, 12, 625⟩
/-! GRD_SLOT_STATUS: Table 5.22 of spec/05_network_guard.md. -/
def GRD_SLOT_STATUS_ACTION (n : Nat) : Field := ⟨0x41018 + 0x40 * n, 0, 3, 0⟩
def GRD_SLOT_STATUS_D_OSC (n : Nat) : Field := ⟨0x41018 + 0x40 * n, 3, 1, 0⟩
def GRD_SLOT_STATUS_D_WARN (n : Nat) : Field := ⟨0x41018 + 0x40 * n, 4, 1, 0⟩
def GRD_SLOT_STATUS_D_NR (n : Nat) : Field := ⟨0x41018 + 0x40 * n, 5, 1, 0⟩
def GRD_SLOT_STATUS_D_EM (n : Nat) : Field := ⟨0x41018 + 0x40 * n, 6, 1, 0⟩
def GRD_SLOT_STATUS_D_DONOR (n : Nat) : Field := ⟨0x41018 + 0x40 * n, 7, 1, 0⟩
def GRD_SLOT_STATUS_D_STAB (n : Nat) : Field := ⟨0x41018 + 0x40 * n, 8, 1, 0⟩
def GRD_SLOT_STATUS_OSC_CAP (n : Nat) : Field := ⟨0x41018 + 0x40 * n, 9, 1, 0⟩
def GRD_SLOT_STATUS_GATED (n : Nat) : Field := ⟨0x41018 + 0x40 * n, 10, 1, 0⟩
def GRD_SLOT_STATUS_HOLD_LEFT (n : Nat) : Field := ⟨0x41018 + 0x40 * n, 16, 16, 0⟩
/-! GRD_SLOT_LIMIT: Table 5.23 of spec/05_network_guard.md. -/
def GRD_SLOT_LIMIT_G_LIM (n : Nat) : Field := ⟨0x4101c + 0x40 * n, 0, 16, 32768⟩
def GRD_SLOT_LIMIT_M_EST (n : Nat) : Field := ⟨0x4101c + 0x40 * n, 16, 16, 32768⟩
/-! GRD_SLOT_NOISE: Table 5.24 of spec/05_network_guard.md. -/
def GRD_SLOT_NOISE_NOISE_OUT (n : Nat) : Field := ⟨0x41020 + 0x40 * n, 0, 16, 32768⟩
def GRD_SLOT_NOISE_NR_LIMIT (n : Nat) : Field := ⟨0x41020 + 0x40 * n, 16, 16, 32768⟩
/-! GRD_SLOT_COUNT: Table 5.25 of spec/05_network_guard.md. -/
def GRD_SLOT_COUNT_OSC_EVENTS (n : Nat) : Field := ⟨0x41024 + 0x40 * n, 0, 8, 0⟩
def GRD_SLOT_COUNT_MUTES (n : Nat) : Field := ⟨0x41024 + 0x40 * n, 8, 8, 0⟩
def GRD_SLOT_COUNT_BACKOFFS (n : Nat) : Field := ⟨0x41024 + 0x40 * n, 16, 8, 0⟩
/-! GRD_SLOT_OSC: Table 5.26 of spec/05_network_guard.md. -/
def GRD_SLOT_OSC_G_OSC (n : Nat) : Field := ⟨0x41028 + 0x40 * n, 0, 16, 32768⟩
/-! SEQ_STATUS: Table 6.10 of spec/06_radio_sequencer.md. -/
def SEQ_STATUS_TX : Field := ⟨0x50000, 0, 8, 0⟩
def SEQ_STATUS_HOLD : Field := ⟨0x50000, 8, 8, 0⟩
def SEQ_STATUS_SYNC_OK : Field := ⟨0x50000, 16, 8, 0⟩
def SEQ_STATUS_RFFE_A_BUSY : Field := ⟨0x50000, 24, 1, 0⟩
def SEQ_STATUS_RFFE_B_BUSY : Field := ⟨0x50000, 25, 1, 0⟩
/-! SEQ_RFFE_CFG: Table 6.11 of spec/06_radio_sequencer.md. -/
def SEQ_RFFE_CFG_RATE_A : Field := ⟨0x50004, 0, 3, 4⟩
def SEQ_RFFE_CFG_HALF_RD_A : Field := ⟨0x50004, 3, 1, 0⟩
def SEQ_RFFE_CFG_RATE_B : Field := ⟨0x50004, 4, 3, 4⟩
def SEQ_RFFE_CFG_HALF_RD_B : Field := ⟨0x50004, 7, 1, 0⟩
def SEQ_RFFE_CFG_VERIFY_A : Field := ⟨0x50004, 8, 1, 0⟩
def SEQ_RFFE_CFG_VERIFY_B : Field := ⟨0x50004, 9, 1, 0⟩
/-! SEQ_RFFE_STATUS: Table 6.12 of spec/06_radio_sequencer.md. -/
def SEQ_RFFE_STATUS_NACK_A : Field := ⟨0x5000c, 0, 8, 0⟩
def SEQ_RFFE_STATUS_NACK_B : Field := ⟨0x5000c, 8, 8, 0⟩
def SEQ_RFFE_STATUS_LATE_A : Field := ⟨0x5000c, 16, 8, 0⟩
def SEQ_RFFE_STATUS_LATE_B : Field := ⟨0x5000c, 24, 8, 0⟩
/-! SEQ_RFFE_HCMD: Table 6.13 of spec/06_radio_sequencer.md. -/
def SEQ_RFFE_HCMD_GO : Field := ⟨0x50010, 0, 1, 0⟩
def SEQ_RFFE_HCMD_BUS : Field := ⟨0x50010, 1, 1, 0⟩
def SEQ_RFFE_HCMD_KIND : Field := ⟨0x50010, 2, 3, 0⟩
def SEQ_RFFE_HCMD_USID : Field := ⟨0x50010, 5, 4, 0⟩
def SEQ_RFFE_HCMD_ADDR : Field := ⟨0x50010, 9, 8, 0⟩
def SEQ_RFFE_HCMD_WDATA : Field := ⟨0x50010, 17, 8, 0⟩
def SEQ_RFFE_HCMD_BUSY : Field := ⟨0x50010, 25, 1, 0⟩
def SEQ_RFFE_HCMD_ERR : Field := ⟨0x50010, 26, 1, 0⟩
/-! SEQ_RFFE_HDATA: Table 6.13 of spec/06_radio_sequencer.md. -/
def SEQ_RFFE_HDATA_RDATA : Field := ⟨0x50014, 0, 8, 0⟩
/-! SEQ_DG_CFG: Table 6.14 of spec/06_radio_sequencer.md. -/
def SEQ_DG_CFG_EN (n : Nat) : Field := ⟨0x50100 + 0x40 * n, 0, 1, 0⟩
def SEQ_DG_CFG_MODE (n : Nat) : Field := ⟨0x50100 + 0x40 * n, 1, 1, 0⟩
def SEQ_DG_CFG_REST (n : Nat) : Field := ⟨0x50100 + 0x40 * n, 2, 1, 1⟩
def SEQ_DG_CFG_SYNC_SRC (n : Nat) : Field := ⟨0x50100 + 0x40 * n, 3, 2, 0⟩
def SEQ_DG_CFG_SYNC_SLOT (n : Nat) : Field := ⟨0x50100 + 0x40 * n, 5, 7, 0⟩
def SEQ_DG_CFG_ENTRIES (n : Nat) : Field := ⟨0x50100 + 0x40 * n, 12, 6, 0⟩
/-! SEQ_DG_PERIOD: Table 6.15 of spec/06_radio_sequencer.md. -/
def SEQ_DG_PERIOD_PERIOD (n : Nat) : Field := ⟨0x50108 + 0x40 * n, 0, 25, 7680000⟩
/-! SEQ_DG_SYNC: Table 6.15 of spec/06_radio_sequencer.md. -/
def SEQ_DG_SYNC_SYNC_TOL (n : Nat) : Field := ⟨0x50110 + 0x40 * n, 0, 8, 16⟩
def SEQ_DG_SYNC_ACQ_COUNT (n : Nat) : Field := ⟨0x50110 + 0x40 * n, 8, 4, 3⟩
def SEQ_DG_SYNC_SYNC_THR (n : Nat) : Field := ⟨0x50110 + 0x40 * n, 12, 6, 12⟩
/-! SEQ_DG_SYNC_OFS: Table 6.15 of spec/06_radio_sequencer.md. -/
def SEQ_DG_SYNC_OFS_SYNC_OFS (n : Nat) : Field := ⟨0x50118 + 0x40 * n, 0, 32, 0⟩
/-! SEQ_DG_LIMITS: Table 6.15 of spec/06_radio_sequencer.md. -/
def SEQ_DG_LIMITS_TX_MAX_TURNS (n : Nat) : Field := ⟨0x50120 + 0x40 * n, 0, 16, 5000⟩
def SEQ_DG_LIMITS_TX_HOLD_LIMIT (n : Nat) : Field := ⟨0x50120 + 0x40 * n, 16, 16, 100⟩
/-! SEQ_DG_LOSS: Table 6.15 of spec/06_radio_sequencer.md. -/
def SEQ_DG_LOSS_LOSS_FRAMES (n : Nat) : Field := ⟨0x50128 + 0x40 * n, 0, 16, 400⟩
def SEQ_DG_LOSS_EXPECT (n : Nat) : Field := ⟨0x50128 + 0x40 * n, 16, 8, 4⟩
/-! SEQ_DG_STATUS: Table 6.16 of spec/06_radio_sequencer.md. -/
def SEQ_DG_STATUS_STATE (n : Nat) : Field := ⟨0x50130 + 0x40 * n, 0, 3, 0⟩
def SEQ_DG_STATUS_STATE_UL (n : Nat) : Field := ⟨0x50130 + 0x40 * n, 3, 3, 0⟩
def SEQ_DG_STATUS_SYNC_STATE (n : Nat) : Field := ⟨0x50130 + 0x40 * n, 6, 3, 0⟩
def SEQ_DG_STATUS_TIMED_OUT (n : Nat) : Field := ⟨0x50130 + 0x40 * n, 9, 1, 0⟩
def SEQ_DG_STATUS_HOLD_EXPIRED (n : Nat) : Field := ⟨0x50130 + 0x40 * n, 10, 1, 0⟩
def SEQ_DG_STATUS_FAIL_CAUSE (n : Nat) : Field := ⟨0x50130 + 0x40 * n, 11, 2, 0⟩
def SEQ_DG_STATUS_HOLD_TURNS (n : Nat) : Field := ⟨0x50130 + 0x40 * n, 16, 16, 0⟩
/-! SEQ_DG_COUNT: Table 6.17 of spec/06_radio_sequencer.md. -/
def SEQ_DG_COUNT_TIMEOUTS (n : Nat) : Field := ⟨0x50134 + 0x40 * n, 0, 8, 0⟩
def SEQ_DG_COUNT_HOLD_EXPIRIES (n : Nat) : Field := ⟨0x50134 + 0x40 * n, 8, 8, 0⟩
def SEQ_DG_COUNT_SYNC_LOSSES (n : Nat) : Field := ⟨0x50134 + 0x40 * n, 16, 8, 0⟩
def SEQ_DG_COUNT_OUTLIERS (n : Nat) : Field := ⟨0x50134 + 0x40 * n, 24, 8, 0⟩
/-! SEQ_DG_SYNC_ERR: Table 6.17 of spec/06_radio_sequencer.md. -/
def SEQ_DG_SYNC_ERR_ERR (n : Nat) : Field := ⟨0x50138 + 0x40 * n, 0, 16, 0⟩
def SEQ_DG_SYNC_ERR_FRAMES_SINCE (n : Nat) : Field := ⟨0x50138 + 0x40 * n, 16, 16, 0⟩
/-! SEQ_DG_PAT_START: Table 6.18 of spec/06_radio_sequencer.md. -/
def SEQ_DG_PAT_START_START (n i : Nat) : Field := ⟨0x51000 + 0x100 * n + 0x8 * i, 0, 25, 0⟩
def SEQ_DG_PAT_START_STATE (n i : Nat) : Field := ⟨0x51000 + 0x100 * n + 0x8 * i, 25, 2, 0⟩
/-! SEQ_DG_PAT_LEN: Table 6.18 of spec/06_radio_sequencer.md. -/
def SEQ_DG_PAT_LEN_LENGTH (n i : Nat) : Field := ⟨0x51004 + 0x100 * n + 0x8 * i, 0, 25, 0⟩
/-! SEQ_SLOT_GRP: Table 6.19 of spec/06_radio_sequencer.md. -/
def SEQ_SLOT_GRP_GROUP (n : Nat) : Field := ⟨0x52000 + 0x4 * n, 0, 3, 0⟩
/-! SEQ_FE_CFG: Table 6.20 of spec/06_radio_sequencer.md. -/
def SEQ_FE_CFG_EN (n : Nat) : Field := ⟨0x53000 + 0x10 * n, 0, 1, 0⟩
def SEQ_FE_CFG_GROUP (n : Nat) : Field := ⟨0x53000 + 0x10 * n, 1, 3, 0⟩
def SEQ_FE_CFG_HALF (n : Nat) : Field := ⟨0x53000 + 0x10 * n, 4, 1, 0⟩
def SEQ_FE_CFG_FUNC (n : Nat) : Field := ⟨0x53000 + 0x10 * n, 5, 3, 0⟩
def SEQ_FE_CFG_LVL_IDLE (n : Nat) : Field := ⟨0x53000 + 0x10 * n, 8, 1, 0⟩
def SEQ_FE_CFG_LVL_LISTEN (n : Nat) : Field := ⟨0x53000 + 0x10 * n, 9, 1, 0⟩
def SEQ_FE_CFG_LVL_DL (n : Nat) : Field := ⟨0x53000 + 0x10 * n, 10, 1, 0⟩
def SEQ_FE_CFG_LVL_UL (n : Nat) : Field := ⟨0x53000 + 0x10 * n, 11, 1, 0⟩
def SEQ_FE_CFG_LVL_GUARD (n : Nat) : Field := ⟨0x53000 + 0x10 * n, 12, 1, 0⟩
def SEQ_FE_CFG_LVL_SAFE (n : Nat) : Field := ⟨0x53000 + 0x10 * n, 13, 1, 0⟩
/-! SEQ_FE_OFS_TX: Table 6.21 of spec/06_radio_sequencer.md. -/
def SEQ_FE_OFS_TX_OFS_DL (n : Nat) : Field := ⟨0x53004 + 0x10 * n, 0, 12, 0⟩
def SEQ_FE_OFS_TX_OFS_UL (n : Nat) : Field := ⟨0x53004 + 0x10 * n, 16, 12, 0⟩
/-! SEQ_FE_OFS_RS: Table 6.21 of spec/06_radio_sequencer.md. -/
def SEQ_FE_OFS_RS_OFS_GUARD (n : Nat) : Field := ⟨0x53008 + 0x10 * n, 0, 12, 0⟩
def SEQ_FE_OFS_RS_OFS_REST (n : Nat) : Field := ⟨0x53008 + 0x10 * n, 16, 12, 0⟩
/-! SEQ_FE_STATUS: Table 6.21 of spec/06_radio_sequencer.md. -/
def SEQ_FE_STATUS_LEVEL (n : Nat) : Field := ⟨0x5300c + 0x10 * n, 0, 1, 0⟩
def SEQ_FE_STATUS_EDGES (n : Nat) : Field := ⟨0x5300c + 0x10 * n, 16, 16, 0⟩
/-! SEQ_DIV_CFG: Table 6.22 of spec/06_radio_sequencer.md. -/
def SEQ_DIV_CFG_EN (n : Nat) : Field := ⟨0x54000 + 0x10 * n, 0, 1, 0⟩
def SEQ_DIV_CFG_GROUP (n : Nat) : Field := ⟨0x54000 + 0x10 * n, 1, 3, 0⟩
def SEQ_DIV_CFG_CONFIRM (n : Nat) : Field := ⟨0x54000 + 0x10 * n, 4, 4, 4⟩
def SEQ_DIV_CFG_MIN_BURSTS (n : Nat) : Field := ⟨0x54000 + 0x10 * n, 8, 8, 16⟩
/-! SEQ_DIV_STATUS: Table 6.22 of spec/06_radio_sequencer.md. -/
def SEQ_DIV_STATUS_SEL (n : Nat) : Field := ⟨0x54008 + 0x10 * n, 0, 1, 0⟩
def SEQ_DIV_STATUS_PENDING (n : Nat) : Field := ⟨0x54008 + 0x10 * n, 1, 1, 0⟩
def SEQ_DIV_STATUS_SWITCHES (n : Nat) : Field := ⟨0x54008 + 0x10 * n, 8, 8, 0⟩
/-! SEQ_DIV_LEVELS: Table 6.22 of spec/06_radio_sequencer.md. -/
def SEQ_DIV_LEVELS_LVL_EVEN (n : Nat) : Field := ⟨0x5400c + 0x10 * n, 0, 16, 32768⟩
def SEQ_DIV_LEVELS_LVL_ODD (n : Nat) : Field := ⟨0x5400c + 0x10 * n, 16, 16, 32768⟩
/-! SEQ_MM_CFG: Table 6.23 of spec/06_radio_sequencer.md. -/
def SEQ_MM_CFG_EN (n : Nat) : Field := ⟨0x55000 + 0x20 * n, 0, 1, 0⟩
def SEQ_MM_CFG_MUX_EN (n : Nat) : Field := ⟨0x55000 + 0x20 * n, 1, 1, 0⟩
def SEQ_MM_CFG_PORTS (n : Nat) : Field := ⟨0x55000 + 0x20 * n, 2, 8, 0⟩
def SEQ_MM_CFG_MUX_FE (n : Nat) : Field := ⟨0x55000 + 0x20 * n, 10, 5, 0⟩
def SEQ_MM_CFG_DWELL (n : Nat) : Field := ⟨0x55000 + 0x20 * n, 15, 12, 64⟩
/-! SEQ_MM_THR: Table 6.23 of spec/06_radio_sequencer.md. -/
def SEQ_MM_THR_RL_MIN (n : Nat) : Field := ⟨0x55008 + 0x20 * n, 0, 8, 100⟩
def SEQ_MM_THR_RL_HYST (n : Nat) : Field := ⟨0x55008 + 0x20 * n, 8, 8, 30⟩
def SEQ_MM_THR_MM_PERSIST (n : Nat) : Field := ⟨0x55008 + 0x20 * n, 16, 4, 4⟩
def SEQ_MM_THR_CPL_OFS (n : Nat) : Field := ⟨0x55008 + 0x20 * n, 20, 12, 0⟩
/-! SEQ_MM_SEARCH: Table 6.23 of spec/06_radio_sequencer.md. -/
def SEQ_MM_SEARCH_SETTLE (n : Nat) : Field := ⟨0x55010 + 0x20 * n, 0, 8, 8⟩
def SEQ_MM_SEARCH_MEAS (n : Nat) : Field := ⟨0x55010 + 0x20 * n, 8, 8, 16⟩
def SEQ_MM_SEARCH_SEARCH_ATTN (n : Nat) : Field := ⟨0x55010 + 0x20 * n, 16, 8, 60⟩
def SEQ_MM_SEARCH_FWD_MIN (n : Nat) : Field := ⟨0x55010 + 0x20 * n, 24, 8, 60⟩
/-! SEQ_MM_STATUS: Table 6.23 of spec/06_radio_sequencer.md. -/
def SEQ_MM_STATUS_PORT (n : Nat) : Field := ⟨0x55018 + 0x20 * n, 0, 3, 0⟩
def SEQ_MM_STATUS_SEARCHING (n : Nat) : Field := ⟨0x55018 + 0x20 * n, 3, 1, 0⟩
def SEQ_MM_STATUS_RL (n : Nat) : Field := ⟨0x55018 + 0x20 * n, 8, 8, 0⟩
/-! SEQ_TUN_CFG: Table 6.24 of spec/06_radio_sequencer.md. -/
def SEQ_TUN_CFG_EN (n : Nat) : Field := ⟨0x56000 + 0x10 * n, 0, 1, 0⟩
def SEQ_TUN_CFG_BUS (n : Nat) : Field := ⟨0x56000 + 0x10 * n, 1, 1, 0⟩
def SEQ_TUN_CFG_USID (n : Nat) : Field := ⟨0x56000 + 0x10 * n, 2, 4, 0⟩
def SEQ_TUN_CFG_EXT (n : Nat) : Field := ⟨0x56000 + 0x10 * n, 6, 1, 0⟩
def SEQ_TUN_CFG_ADDR (n : Nat) : Field := ⟨0x56000 + 0x10 * n, 8, 8, 0⟩
def SEQ_TUN_CFG_CODE_LO (n : Nat) : Field := ⟨0x56000 + 0x10 * n, 16, 8, 0⟩
def SEQ_TUN_CFG_CODE_HI (n : Nat) : Field := ⟨0x56000 + 0x10 * n, 24, 8, 0⟩
/-! SEQ_TUN_STEP: Table 6.24 of spec/06_radio_sequencer.md. -/
def SEQ_TUN_STEP_STEP (n : Nat) : Field := ⟨0x56008 + 0x10 * n, 0, 8, 1⟩
def SEQ_TUN_STEP_CODE_INIT (n : Nat) : Field := ⟨0x56008 + 0x10 * n, 8, 8, 0⟩
def SEQ_TUN_STEP_SEARCH_MAX (n : Nat) : Field := ⟨0x56008 + 0x10 * n, 16, 16, 4096⟩
/-! SEQ_TUN_STATUS: Table 6.24 of spec/06_radio_sequencer.md. -/
def SEQ_TUN_STATUS_CODE (n : Nat) : Field := ⟨0x56100 + 0x4 * n, 0, 8, 0⟩
def SEQ_TUN_STATUS_RL_BEST (n : Nat) : Field := ⟨0x56100 + 0x4 * n, 8, 8, 0⟩
def SEQ_TUN_STATUS_STATE (n : Nat) : Field := ⟨0x56100 + 0x4 * n, 16, 3, 0⟩
def SEQ_TUN_STATUS_SEARCHES (n : Nat) : Field := ⟨0x56100 + 0x4 * n, 24, 8, 0⟩
/-! SEQ_PORT_CTRL: Table 6.25 of spec/06_radio_sequencer.md. -/
def SEQ_PORT_CTRL_RETRY : Field := ⟨0x56140, 0, 8, 0⟩
/-! SEQ_PORT_MUTED: Table 6.25 of spec/06_radio_sequencer.md. -/
def SEQ_PORT_MUTED_MUTED : Field := ⟨0x56144, 0, 8, 0⟩
/-! SEQ_RFFE_CMD_OP: Table 6.26 of spec/06_radio_sequencer.md. -/
def SEQ_RFFE_CMD_OP_KIND (n i : Nat) : Field := ⟨0x57000 + 0x200 * n + 0x8 * i, 0, 2, 0⟩
def SEQ_RFFE_CMD_OP_USID (n i : Nat) : Field := ⟨0x57000 + 0x200 * n + 0x8 * i, 2, 4, 0⟩
def SEQ_RFFE_CMD_OP_ADDR (n i : Nat) : Field := ⟨0x57000 + 0x200 * n + 0x8 * i, 6, 8, 0⟩
def SEQ_RFFE_CMD_OP_DATA (n i : Nat) : Field := ⟨0x57000 + 0x200 * n + 0x8 * i, 14, 8, 0⟩
/-! SEQ_RFFE_CMD_AT: Table 6.26 of spec/06_radio_sequencer.md. -/
def SEQ_RFFE_CMD_AT_EN (n i : Nat) : Field := ⟨0x57004 + 0x200 * n + 0x8 * i, 0, 1, 0⟩
def SEQ_RFFE_CMD_AT_EVENT (n i : Nat) : Field := ⟨0x57004 + 0x200 * n + 0x8 * i, 1, 5, 0⟩
def SEQ_RFFE_CMD_AT_OFS (n i : Nat) : Field := ⟨0x57004 + 0x200 * n + 0x8 * i, 6, 12, 0⟩
/-! GAU_STATUS: Table 9.6 of spec/09_gauge.md. -/
def GAU_STATUS_SEQ_BUSY : Field := ⟨0x60000, 0, 4, 0⟩
def GAU_STATUS_CAL_BUSY : Field := ⟨0x60000, 4, 4, 0⟩
def GAU_STATUS_CAL_VALID : Field := ⟨0x60000, 8, 4, 0⟩
/-! GAU_WIN_FLAG0: Table 9.7 of spec/09_gauge.md. -/
def GAU_WIN_FLAG0_FLAG : Field := ⟨0x60004, 0, 32, 0⟩
/-! GAU_WIN_FLAG1: Table 9.7 of spec/09_gauge.md. -/
def GAU_WIN_FLAG1_FLAG : Field := ⟨0x60008, 0, 32, 0⟩
/-! GAU_SEQ: Table 9.8 of spec/09_gauge.md. -/
def GAU_SEQ_EN (n : Nat) : Field := ⟨0x60100 + 0x40 * n, 0, 1, 0⟩
def GAU_SEQ_LEN (n : Nat) : Field := ⟨0x60100 + 0x40 * n, 1, 5, 1⟩
def GAU_SEQ_TRIG_SRC (n : Nat) : Field := ⟨0x60100 + 0x40 * n, 6, 2, 0⟩
def GAU_SEQ_PWM_LINE (n : Nat) : Field := ⟨0x60100 + 0x40 * n, 8, 4, 0⟩
def GAU_SEQ_DELAY (n : Nat) : Field := ⟨0x60100 + 0x40 * n, 12, 12, 0⟩
/-! GAU_PERIOD: Table 9.9 of spec/09_gauge.md. -/
def GAU_PERIOD_PERIOD (n : Nat) : Field := ⟨0x60108 + 0x40 * n, 0, 16, 1⟩
/-! GAU_CTRL: Table 9.10 of spec/09_gauge.md. -/
def GAU_CTRL_SELF_CAL (n : Nat) : Field := ⟨0x6010c + 0x40 * n, 0, 1, 0⟩
def GAU_CTRL_INJ_GO (n : Nat) : Field := ⟨0x6010c + 0x40 * n, 1, 1, 0⟩
def GAU_CTRL_INJ_ENTRY (n : Nat) : Field := ⟨0x6010c + 0x40 * n, 2, 4, 0⟩
/-! GAU_STATE: Table 9.11 of spec/09_gauge.md. -/
def GAU_STATE_STATE (n : Nat) : Field := ⟨0x60110 + 0x40 * n, 0, 2, 0⟩
def GAU_STATE_ENTRY (n : Nat) : Field := ⟨0x60110 + 0x40 * n, 2, 4, 0⟩
def GAU_STATE_CAL_VALID (n : Nat) : Field := ⟨0x60110 + 0x40 * n, 6, 1, 0⟩
def GAU_STATE_CAL_FAILED (n : Nat) : Field := ⟨0x60110 + 0x40 * n, 7, 1, 0⟩
/-! GAU_COUNT: Table 9.12 of spec/09_gauge.md. -/
def GAU_COUNT_INJ_DROP (n : Nat) : Field := ⟨0x60114 + 0x40 * n, 0, 16, 0⟩
def GAU_COUNT_TRIG_MISS (n : Nat) : Field := ⟨0x60114 + 0x40 * n, 16, 8, 0⟩
def GAU_COUNT_LATE (n : Nat) : Field := ⟨0x60114 + 0x40 * n, 24, 8, 0⟩
/-! GAU_CAL_OFFSET: Table 9.13 of spec/09_gauge.md. -/
def GAU_CAL_OFFSET_OFFSET (n : Nat) : Field := ⟨0x60118 + 0x40 * n, 0, 12, 0⟩
/-! GAU_CAL_GAIN: Table 9.13 of spec/09_gauge.md. -/
def GAU_CAL_GAIN_GAIN (n : Nat) : Field := ⟨0x6011c + 0x40 * n, 0, 16, 32768⟩
/-! GAU_ENT_CFG: Table 9.14 of spec/09_gauge.md. -/
def GAU_ENT_CFG_INPUT (n i : Nat) : Field := ⟨0x61000 + 0x100 * n + 0x10 * i, 0, 6, 0⟩
def GAU_ENT_CFG_GAIN (n i : Nat) : Field := ⟨0x61000 + 0x100 * n + 0x10 * i, 6, 2, 0⟩
def GAU_ENT_CFG_SAMP (n i : Nat) : Field := ⟨0x61000 + 0x100 * n + 0x10 * i, 8, 6, 2⟩
def GAU_ENT_CFG_ACC_N (n i : Nat) : Field := ⟨0x61000 + 0x100 * n + 0x10 * i, 14, 4, 0⟩
def GAU_ENT_CFG_WIN_EN (n i : Nat) : Field := ⟨0x61000 + 0x100 * n + 0x10 * i, 18, 1, 0⟩
/-! GAU_ENT_WIN: Table 9.15 of spec/09_gauge.md. -/
def GAU_ENT_WIN_WIN_LO (n i : Nat) : Field := ⟨0x61008 + 0x100 * n + 0x10 * i, 0, 12, 0⟩
def GAU_ENT_WIN_WIN_HI (n i : Nat) : Field := ⟨0x61008 + 0x100 * n + 0x10 * i, 12, 12, 4095⟩
def GAU_ENT_WIN_HYST (n i : Nat) : Field := ⟨0x61008 + 0x100 * n + 0x10 * i, 24, 8, 0⟩
/-! GAU_ENT_ACC: Table 9.16 of spec/09_gauge.md. -/
def GAU_ENT_ACC_SUM (n i : Nat) : Field := ⟨0x62000 + 0x100 * n + 0x10 * i, 0, 22, 0⟩
def GAU_ENT_ACC_OVR (n i : Nat) : Field := ⟨0x62000 + 0x100 * n + 0x10 * i, 22, 1, 0⟩
def GAU_ENT_ACC_SETTLING (n i : Nat) : Field := ⟨0x62000 + 0x100 * n + 0x10 * i, 23, 1, 0⟩
def GAU_ENT_ACC_NEW (n i : Nat) : Field := ⟨0x62000 + 0x100 * n + 0x10 * i, 24, 1, 0⟩
def GAU_ENT_ACC_OVERWRITTEN (n i : Nat) : Field := ⟨0x62000 + 0x100 * n + 0x10 * i, 25, 1, 0⟩
def GAU_ENT_ACC_N (n i : Nat) : Field := ⟨0x62000 + 0x100 * n + 0x10 * i, 26, 4, 0⟩
/-! GAU_ENT_STATE: Table 9.17 of spec/09_gauge.md. -/
def GAU_ENT_STATE_WIN (n i : Nat) : Field := ⟨0x62004 + 0x100 * n + 0x10 * i, 0, 2, 0⟩
def GAU_ENT_STATE_LAST_OVR (n i : Nat) : Field := ⟨0x62004 + 0x100 * n + 0x10 * i, 2, 1, 0⟩
def GAU_ENT_STATE_LAST_SETTLING (n i : Nat) : Field := ⟨0x62004 + 0x100 * n + 0x10 * i, 3, 1, 0⟩
def GAU_ENT_STATE_PARTIAL (n i : Nat) : Field := ⟨0x62004 + 0x100 * n + 0x10 * i, 4, 10, 0⟩
def GAU_ENT_STATE_COMPLETIONS (n i : Nat) : Field := ⟨0x62004 + 0x100 * n + 0x10 * i, 16, 8, 0⟩
/-! GAU_ENT_TRACK: Table 9.18 of spec/09_gauge.md. -/
def GAU_ENT_TRACK_MIN (n i : Nat) : Field := ⟨0x62008 + 0x100 * n + 0x10 * i, 0, 12, 4095⟩
def GAU_ENT_TRACK_MAX (n i : Nat) : Field := ⟨0x62008 + 0x100 * n + 0x10 * i, 16, 12, 0⟩
/-! PWM_STATUS: Table 10.6 of spec/10_drive_pwm.md. -/
def PWM_STATUS_RUNNING : Field := ⟨0x70000, 0, 1, 0⟩
def PWM_STATUS_FROZEN : Field := ⟨0x70000, 1, 1, 0⟩
def PWM_STATUS_CLK_DRIVE : Field := ⟨0x70000, 2, 1, 0⟩
def PWM_STATUS_TRIPPED : Field := ⟨0x70000, 3, 8, 0⟩
def PWM_STATUS_MASKED : Field := ⟨0x70000, 11, 8, 0⟩
/-! PWM_LOAD: Table 10.7 of spec/10_drive_pwm.md. -/
def PWM_LOAD_LOAD_ALL : Field := ⟨0x70004, 0, 9, 0⟩
/-! PWM_LOAD_PENDING: Table 10.7 of spec/10_drive_pwm.md. -/
def PWM_LOAD_PENDING_PENDING : Field := ⟨0x70008, 0, 9, 0⟩
/-! PWM_PERIOD: Table 10.8 of spec/10_drive_pwm.md. -/
def PWM_PERIOD_PERIOD_INIT : Field := ⟨0x7000c, 0, 12, 640⟩
/-! PWM_PERIOD_STG: Table 10.8 of spec/10_drive_pwm.md. -/
def PWM_PERIOD_STG_PERIOD_STG : Field := ⟨0x70010, 0, 12, 640⟩
def PWM_PERIOD_STG_PERIOD_NOW : Field := ⟨0x70010, 16, 12, 640⟩
/-! PWM_FLAGS: Table 10.9 of spec/10_drive_pwm.md. -/
def PWM_FLAGS_CLAMP : Field := ⟨0x70014, 0, 8, 0⟩
def PWM_FLAGS_MIN : Field := ⟨0x70014, 8, 8, 0⟩
def PWM_FLAGS_TRIP : Field := ⟨0x70014, 16, 4, 0⟩
def PWM_FLAGS_CLK_LOSS : Field := ⟨0x70014, 20, 1, 0⟩
def PWM_FLAGS_FROZE : Field := ⟨0x70014, 21, 1, 0⟩
/-! PWM_TRIP_STATUS: Table 10.10 of spec/10_drive_pwm.md. -/
def PWM_TRIP_STATUS_LIVE : Field := ⟨0x70018, 0, 4, 0⟩
def PWM_TRIP_STATUS_LATCHED : Field := ⟨0x70018, 4, 4, 0⟩
def PWM_TRIP_STATUS_CLEAR : Field := ⟨0x70018, 8, 4, 0⟩
/-! PWM_TRIP_COUNT: Table 10.10 of spec/10_drive_pwm.md. -/
def PWM_TRIP_COUNT_ACTIVATIONS : Field := ⟨0x7001c, 0, 24, 0⟩
def PWM_TRIP_COUNT_REFUSED : Field := ⟨0x7001c, 24, 8, 0⟩
/-! PWM_IRQ_CFG: Table 10.12 of spec/10_drive_pwm.md. -/
def PWM_IRQ_CFG_PAIR : Field := ⟨0x70020, 0, 3, 0⟩
def PWM_IRQ_CFG_ZERO : Field := ⟨0x70020, 3, 1, 0⟩
def PWM_IRQ_CFG_TOP : Field := ⟨0x70020, 4, 1, 0⟩
def PWM_IRQ_CFG_CMPA : Field := ⟨0x70020, 5, 1, 0⟩
def PWM_IRQ_CFG_CMPB : Field := ⟨0x70020, 6, 1, 0⟩
def PWM_IRQ_CFG_PRESCALE : Field := ⟨0x70020, 7, 4, 0⟩
/-! PWM_IRQ_STATUS: Table 10.12 of spec/10_drive_pwm.md. -/
def PWM_IRQ_STATUS_FLAG : Field := ⟨0x70028, 0, 1, 0⟩
def PWM_IRQ_STATUS_OVERRUN : Field := ⟨0x70028, 16, 16, 0⟩
/-! PWM_TRIP_CFG: Table 10.11 of spec/10_drive_pwm.md. -/
def PWM_TRIP_CFG_GROUP (n : Nat) : Field := ⟨0x70040 + 0x4 * n, 0, 16, 0⟩
def PWM_TRIP_CFG_EN (n : Nat) : Field := ⟨0x70040 + 0x4 * n, 16, 1, 0⟩
def PWM_TRIP_CFG_POL (n : Nat) : Field := ⟨0x70040 + 0x4 * n, 17, 1, 0⟩
def PWM_TRIP_CFG_FILT (n : Nat) : Field := ⟨0x70040 + 0x4 * n, 18, 2, 0⟩
def PWM_TRIP_CFG_LATCH (n : Nat) : Field := ⟨0x70040 + 0x4 * n, 20, 1, 1⟩
/-! PWM_MASK_ON: Table 10.13 of spec/10_drive_pwm.md. -/
def PWM_MASK_ON_EN (n : Nat) : Field := ⟨0x70100 + 0x10 * n, 0, 1, 0⟩
def PWM_MASK_ON_ON_EVENT (n : Nat) : Field := ⟨0x70100 + 0x10 * n, 1, 5, 0⟩
def PWM_MASK_ON_ON_DELAY (n : Nat) : Field := ⟨0x70100 + 0x10 * n, 6, 12, 0⟩
/-! PWM_MASK_OFF: Table 10.13 of spec/10_drive_pwm.md. -/
def PWM_MASK_OFF_OFF_EVENT (n : Nat) : Field := ⟨0x70104 + 0x10 * n, 0, 5, 0⟩
def PWM_MASK_OFF_OFF_DELAY (n : Nat) : Field := ⟨0x70104 + 0x10 * n, 5, 12, 0⟩
/-! PWM_MASK_OUT: Table 10.13 of spec/10_drive_pwm.md. -/
def PWM_MASK_OUT_OUTPUTS (n : Nat) : Field := ⟨0x70108 + 0x10 * n, 0, 16, 0⟩
/-! PWM_TRG_CFG: Table 10.14 of spec/10_drive_pwm.md. -/
def PWM_TRG_CFG_EN (n : Nat) : Field := ⟨0x70300 + 0x4 * n, 0, 1, 0⟩
def PWM_TRG_CFG_PAIR (n : Nat) : Field := ⟨0x70300 + 0x4 * n, 1, 3, 0⟩
def PWM_TRG_CFG_EVENT (n : Nat) : Field := ⟨0x70300 + 0x4 * n, 4, 2, 0⟩
def PWM_TRG_CFG_PRESCALE (n : Nat) : Field := ⟨0x70300 + 0x4 * n, 6, 4, 0⟩
def PWM_TRG_CFG_DELAY (n : Nat) : Field := ⟨0x70300 + 0x4 * n, 10, 10, 0⟩
/-! PWM_TRG_STATUS: Table 10.14 of spec/10_drive_pwm.md. -/
def PWM_TRG_STATUS_RAISED : Field := ⟨0x70380, 0, 16, 0⟩
def PWM_TRG_STATUS_MISSED : Field := ⟨0x70380, 16, 16, 0⟩
/-! PWM_PAIR_CFG: Table 10.15 of spec/10_drive_pwm.md. -/
def PWM_PAIR_CFG_EN (n : Nat) : Field := ⟨0x70400 + 0x20 * n, 0, 1, 0⟩
def PWM_PAIR_CFG_OWNER (n : Nat) : Field := ⟨0x70400 + 0x20 * n, 1, 1, 0⟩
def PWM_PAIR_CFG_MIN_ON (n : Nat) : Field := ⟨0x70400 + 0x20 * n, 2, 8, 0⟩
def PWM_PAIR_CFG_MIN_OFF (n : Nat) : Field := ⟨0x70400 + 0x20 * n, 10, 8, 0⟩
def PWM_PAIR_CFG_MSTATE_A (n : Nat) : Field := ⟨0x70400 + 0x20 * n, 18, 2, 0⟩
def PWM_PAIR_CFG_MSTATE_B (n : Nat) : Field := ⟨0x70400 + 0x20 * n, 20, 2, 0⟩
def PWM_PAIR_CFG_TSTATE_A (n : Nat) : Field := ⟨0x70400 + 0x20 * n, 22, 1, 0⟩
def PWM_PAIR_CFG_TSTATE_B (n : Nat) : Field := ⟨0x70400 + 0x20 * n, 23, 1, 0⟩
/-! PWM_PAIR_INIT: Table 10.16 of spec/10_drive_pwm.md. -/
def PWM_PAIR_INIT_CMPA_INIT (n : Nat) : Field := ⟨0x70404 + 0x20 * n, 0, 12, 0⟩
def PWM_PAIR_INIT_CMPB_INIT (n : Nat) : Field := ⟨0x70404 + 0x20 * n, 16, 12, 0⟩
/-! PWM_PAIR_EDGE_INIT: Table 10.17 of spec/10_drive_pwm.md. -/
def PWM_PAIR_EDGE_INIT_DT_A (n : Nat) : Field := ⟨0x70408 + 0x20 * n, 0, 8, 0⟩
def PWM_PAIR_EDGE_INIT_DT_B (n : Nat) : Field := ⟨0x70408 + 0x20 * n, 8, 8, 0⟩
def PWM_PAIR_EDGE_INIT_FINE_A (n : Nat) : Field := ⟨0x70408 + 0x20 * n, 16, 4, 0⟩
def PWM_PAIR_EDGE_INIT_FINE_B (n : Nat) : Field := ⟨0x70408 + 0x20 * n, 20, 4, 0⟩
/-! PWM_PAIR_CMP_STG: Table 10.16 of spec/10_drive_pwm.md. -/
def PWM_PAIR_CMP_STG_CMPA (n : Nat) : Field := ⟨0x7040c + 0x20 * n, 0, 12, 0⟩
def PWM_PAIR_CMP_STG_CMPB (n : Nat) : Field := ⟨0x7040c + 0x20 * n, 16, 12, 0⟩
/-! PWM_PAIR_EDGE_STG: Table 10.17 of spec/10_drive_pwm.md. -/
def PWM_PAIR_EDGE_STG_DT_A (n : Nat) : Field := ⟨0x70410 + 0x20 * n, 0, 8, 0⟩
def PWM_PAIR_EDGE_STG_DT_B (n : Nat) : Field := ⟨0x70410 + 0x20 * n, 8, 8, 0⟩
def PWM_PAIR_EDGE_STG_FINE_A (n : Nat) : Field := ⟨0x70410 + 0x20 * n, 16, 4, 0⟩
def PWM_PAIR_EDGE_STG_FINE_B (n : Nat) : Field := ⟨0x70410 + 0x20 * n, 20, 4, 0⟩
/-! PWM_PAIR_CMP_NOW: Table 10.16 of spec/10_drive_pwm.md. -/
def PWM_PAIR_CMP_NOW_CMPA_NOW (n : Nat) : Field := ⟨0x70414 + 0x20 * n, 0, 12, 0⟩
def PWM_PAIR_CMP_NOW_CMPB_NOW (n : Nat) : Field := ⟨0x70414 + 0x20 * n, 16, 12, 0⟩
/-! PWM_PAIR_EDGE_NOW: Table 10.17 of spec/10_drive_pwm.md. -/
def PWM_PAIR_EDGE_NOW_DT_A (n : Nat) : Field := ⟨0x70418 + 0x20 * n, 0, 8, 0⟩
def PWM_PAIR_EDGE_NOW_DT_B (n : Nat) : Field := ⟨0x70418 + 0x20 * n, 8, 8, 0⟩
def PWM_PAIR_EDGE_NOW_FINE_A (n : Nat) : Field := ⟨0x70418 + 0x20 * n, 16, 4, 0⟩
def PWM_PAIR_EDGE_NOW_FINE_B (n : Nat) : Field := ⟨0x70418 + 0x20 * n, 20, 4, 0⟩
/-! PWM_PAIR_COUNT: Table 10.18 of spec/10_drive_pwm.md. -/
def PWM_PAIR_COUNT_MIN_SKIPS (n : Nat) : Field := ⟨0x7041c + 0x20 * n, 0, 16, 0⟩
def PWM_PAIR_COUNT_OWNED_DROPS (n : Nat) : Field := ⟨0x7041c + 0x20 * n, 16, 8, 0⟩
def PWM_PAIR_COUNT_CLAMPS (n : Nat) : Field := ⟨0x7041c + 0x20 * n, 24, 8, 0⟩
/-! CTL_STATUS: Table 11.5 of spec/11_control_engine.md. -/
def CTL_STATUS_HALTED : Field := ⟨0x80000, 0, 1, 0⟩
def CTL_STATUS_HALT_OK : Field := ⟨0x80000, 1, 1, 0⟩
def CTL_STATUS_RUNNING : Field := ⟨0x80000, 2, 8, 0⟩
def CTL_STATUS_RAMPING : Field := ⟨0x80000, 10, 8, 0⟩
def CTL_STATUS_LVL_LOOPS : Field := ⟨0x80000, 24, 8, 0⟩
/-! CTL_FLAGS: Table 11.6 of spec/11_control_engine.md. -/
def CTL_FLAGS_DEADLINE : Field := ⟨0x80004, 0, 8, 0⟩
def CTL_FLAGS_PLAUS : Field := ⟨0x80004, 8, 8, 0⟩
def CTL_FLAGS_SAT : Field := ⟨0x80004, 16, 8, 0⟩
def CTL_FLAGS_LVL_OVR : Field := ⟨0x80004, 24, 1, 0⟩
/-! CTL_DEBUG: Table 11.7 of spec/11_control_engine.md. -/
def CTL_DEBUG_HALT : Field := ⟨0x80008, 0, 1, 0⟩
def CTL_DEBUG_STEP : Field := ⟨0x80008, 1, 1, 0⟩
def CTL_DEBUG_REFUSED : Field := ⟨0x80008, 8, 8, 0⟩
/-! CTL_COUNT: Table 11.7 of spec/11_control_engine.md. -/
def CTL_COUNT_MISSES : Field := ⟨0x8000c, 0, 16, 0⟩
def CTL_COUNT_LVL_OVERRUNS : Field := ⟨0x8000c, 16, 16, 0⟩
/-! CTL_LOOP_CFG: Table 11.8 of spec/11_control_engine.md. -/
def CTL_LOOP_CFG_EN (n : Nat) : Field := ⟨0x81000 + 0x100 * n, 0, 1, 0⟩
def CTL_LOOP_CFG_ORDER (n : Nat) : Field := ⟨0x81000 + 0x100 * n, 1, 1, 0⟩
def CTL_LOOP_CFG_PAIR (n : Nat) : Field := ⟨0x81000 + 0x100 * n, 2, 3, 0⟩
def CTL_LOOP_CFG_FB_GAU (n : Nat) : Field := ⟨0x81000 + 0x100 * n, 5, 2, 0⟩
def CTL_LOOP_CFG_FB_ENT (n : Nat) : Field := ⟨0x81000 + 0x100 * n, 7, 4, 0⟩
def CTL_LOOP_CFG_VIN_GAU (n : Nat) : Field := ⟨0x81000 + 0x100 * n, 11, 2, 0⟩
def CTL_LOOP_CFG_VIN_ENT (n : Nat) : Field := ⟨0x81000 + 0x100 * n, 13, 4, 0⟩
def CTL_LOOP_CFG_FF_EN (n : Nat) : Field := ⟨0x81000 + 0x100 * n, 17, 1, 0⟩
def CTL_LOOP_CFG_VIN_INJ (n : Nat) : Field := ⟨0x81000 + 0x100 * n, 18, 1, 0⟩
def CTL_LOOP_CFG_PL_EN (n : Nat) : Field := ⟨0x81000 + 0x100 * n, 19, 1, 0⟩
/-! CTL_LOOP_SP: Table 11.9 of spec/11_control_engine.md. -/
def CTL_LOOP_SP_SP_INIT (n : Nat) : Field := ⟨0x81004 + 0x100 * n, 0, 16, 0⟩
def CTL_LOOP_SP_SAFE_SP (n : Nat) : Field := ⟨0x81004 + 0x100 * n, 16, 16, 0⟩
/-! CTL_LOOP_SP_LIM: Table 11.9 of spec/11_control_engine.md. -/
def CTL_LOOP_SP_LIM_SP_MIN (n : Nat) : Field := ⟨0x81008 + 0x100 * n, 0, 16, 0⟩
def CTL_LOOP_SP_LIM_SP_MAX (n : Nat) : Field := ⟨0x81008 + 0x100 * n, 16, 16, 0⟩
/-! CTL_LOOP_RAMP: Table 11.9 of spec/11_control_engine.md. -/
def CTL_LOOP_RAMP_SLEW (n : Nat) : Field := ⟨0x8100c + 0x100 * n, 0, 16, 16⟩
def CTL_LOOP_RAMP_VIN_NOM (n : Nat) : Field := ⟨0x8100c + 0x100 * n, 16, 16, 0⟩
/-! CTL_LOOP_DUTY_LIM: Table 11.9 of spec/11_control_engine.md. -/
def CTL_LOOP_DUTY_LIM_DUTY_MIN (n : Nat) : Field := ⟨0x81010 + 0x100 * n, 0, 13, 0⟩
def CTL_LOOP_DUTY_LIM_DUTY_MAX (n : Nat) : Field := ⟨0x81010 + 0x100 * n, 16, 13, 0⟩
/-! CTL_LOOP_COEF: Table 11.10 of spec/11_control_engine.md. -/
def CTL_LOOP_COEF_COEF (n i : Nat) : Field := ⟨0x81014 + 0x100 * n + 0x4 * i, 0, 20, 0⟩
/-! CTL_LOOP_PLANT: Table 11.10 of spec/11_control_engine.md. -/
def CTL_LOOP_PLANT_PLANT_GAIN (n : Nat) : Field := ⟨0x81030 + 0x100 * n, 0, 16, 0⟩
def CTL_LOOP_PLANT_ALPHA (n : Nat) : Field := ⟨0x81030 + 0x100 * n, 16, 16, 0⟩
/-! CTL_LOOP_CHECK: Table 11.10 of spec/11_control_engine.md. -/
def CTL_LOOP_CHECK_PL_THR (n : Nat) : Field := ⟨0x81034 + 0x100 * n, 0, 16, 0⟩
def CTL_LOOP_CHECK_PL_K (n : Nat) : Field := ⟨0x81034 + 0x100 * n, 16, 8, 4⟩
def CTL_LOOP_CHECK_SAT_K (n : Nat) : Field := ⟨0x81034 + 0x100 * n, 24, 8, 0⟩
/-! CTL_LOOP_STATUS: Table 11.11 of spec/11_control_engine.md. -/
def CTL_LOOP_STATUS_RUNNING (n : Nat) : Field := ⟨0x81080 + 0x100 * n, 0, 1, 0⟩
def CTL_LOOP_STATUS_RAMPING (n : Nat) : Field := ⟨0x81080 + 0x100 * n, 1, 1, 0⟩
def CTL_LOOP_STATUS_AT_MIN (n : Nat) : Field := ⟨0x81080 + 0x100 * n, 2, 1, 0⟩
def CTL_LOOP_STATUS_AT_MAX (n : Nat) : Field := ⟨0x81080 + 0x100 * n, 3, 1, 0⟩
def CTL_LOOP_STATUS_FF_FALLBACK (n : Nat) : Field := ⟨0x81080 + 0x100 * n, 4, 1, 0⟩
def CTL_LOOP_STATUS_PLAUS (n : Nat) : Field := ⟨0x81080 + 0x100 * n, 5, 1, 0⟩
def CTL_LOOP_STATUS_SAT (n : Nat) : Field := ⟨0x81080 + 0x100 * n, 6, 1, 0⟩
def CTL_LOOP_STATUS_MISSED_LAST (n : Nat) : Field := ⟨0x81080 + 0x100 * n, 7, 1, 0⟩
def CTL_LOOP_STATUS_OVR_SKIP (n : Nat) : Field := ⟨0x81080 + 0x100 * n, 8, 1, 0⟩
def CTL_LOOP_STATUS_DUTY_NOW (n : Nat) : Field := ⟨0x81080 + 0x100 * n, 16, 13, 0⟩
/-! CTL_LOOP_MEAS: Table 11.11 of spec/11_control_engine.md. -/
def CTL_LOOP_MEAS_Y (n : Nat) : Field := ⟨0x81084 + 0x100 * n, 0, 16, 0⟩
def CTL_LOOP_MEAS_RAMP_SP (n : Nat) : Field := ⟨0x81084 + 0x100 * n, 16, 16, 0⟩
/-! CTL_LOOP_TARGET: Table 11.11 of spec/11_control_engine.md. -/
def CTL_LOOP_TARGET_T (n : Nat) : Field := ⟨0x81088 + 0x100 * n, 0, 16, 0⟩
def CTL_LOOP_TARGET_Y_PRED (n : Nat) : Field := ⟨0x81088 + 0x100 * n, 16, 16, 0⟩
/-! CTL_LOOP_COUNT: Table 11.11 of spec/11_control_engine.md. -/
def CTL_LOOP_COUNT_MISSES (n : Nat) : Field := ⟨0x8108c + 0x100 * n, 0, 8, 0⟩
def CTL_LOOP_COUNT_PLAUS_EVENTS (n : Nat) : Field := ⟨0x8108c + 0x100 * n, 8, 8, 0⟩
def CTL_LOOP_COUNT_SAT_EVENTS (n : Nat) : Field := ⟨0x8108c + 0x100 * n, 16, 8, 0⟩
def CTL_LOOP_COUNT_OVR_SKIPS (n : Nat) : Field := ⟨0x8108c + 0x100 * n, 24, 8, 0⟩
/-! CTL_LVL_CFG: Table 11.12 of spec/11_control_engine.md. -/
def CTL_LVL_CFG_LVL_EN (n : Nat) : Field := ⟨0x84000 + 0x20 * n, 0, 1, 0⟩
def CTL_LVL_CFG_LVL_TARGET (n : Nat) : Field := ⟨0x84000 + 0x20 * n, 1, 16, 0⟩
def CTL_LVL_CFG_FF_GAIN (n : Nat) : Field := ⟨0x84000 + 0x20 * n, 17, 8, 128⟩
/-! CTL_LVL_COEF: Table 11.10 of spec/11_control_engine.md. -/
def CTL_LVL_COEF_COEF (n i : Nat) : Field := ⟨0x84004 + 0x20 * n + 0x4 * i, 0, 20, 0⟩
/-! CTL_LVL_STATUS: Table 11.12 of spec/11_control_engine.md. -/
def CTL_LVL_STATUS_RUNNING (n : Nat) : Field := ⟨0x84018 + 0x20 * n, 0, 1, 0⟩
def CTL_LVL_STATUS_FROZEN (n : Nat) : Field := ⟨0x84018 + 0x20 * n, 1, 1, 0⟩
def CTL_LVL_STATUS_CLAMPED (n : Nat) : Field := ⟨0x84018 + 0x20 * n, 2, 1, 0⟩
def CTL_LVL_STATUS_OVERRUN (n : Nat) : Field := ⟨0x84018 + 0x20 * n, 3, 1, 0⟩
def CTL_LVL_STATUS_G_CMD (n : Nat) : Field := ⟨0x84018 + 0x20 * n, 16, 16, 64936⟩
/-! CTL_LVL_OUT: Table 11.12 of spec/11_control_engine.md. -/
def CTL_LVL_OUT_IN_REF (n : Nat) : Field := ⟨0x8401c + 0x20 * n, 0, 16, 32768⟩
def CTL_LVL_OUT_ERR (n : Nat) : Field := ⟨0x8401c + 0x20 * n, 16, 16, 0⟩
/-! FLT_STATUS_LO: Table 12.9 of spec/12_faults.md. -/
def FLT_STATUS_LO_STATUS : Field := ⟨0x90000, 0, 32, 0⟩
/-! FLT_STATUS_HI: Table 12.9 of spec/12_faults.md. -/
def FLT_STATUS_HI_STATUS : Field := ⟨0x90004, 0, 15, 0⟩
/-! FLT_LIVE_LO: Table 12.9 of spec/12_faults.md. -/
def FLT_LIVE_LO_LIVE : Field := ⟨0x90008, 0, 32, 0⟩
/-! FLT_LIVE_HI: Table 12.9 of spec/12_faults.md. -/
def FLT_LIVE_HI_LIVE : Field := ⟨0x9000c, 0, 15, 0⟩
/-! FLT_SEVERE_LO: Table 12.9 of spec/12_faults.md. -/
def FLT_SEVERE_LO_SEVERE : Field := ⟨0x90010, 0, 32, 0⟩
/-! FLT_SEVERE_HI: Table 12.9 of spec/12_faults.md. -/
def FLT_SEVERE_HI_SEVERE : Field := ⟨0x90014, 0, 15, 0⟩
/-! FLT_PIN_LO: Table 12.9 of spec/12_faults.md. -/
def FLT_PIN_LO_PIN : Field := ⟨0x90018, 0, 32, 0⟩
/-! FLT_PIN_HI: Table 12.9 of spec/12_faults.md. -/
def FLT_PIN_HI_PIN : Field := ⟨0x9001c, 0, 15, 0⟩
/-! FLT_IRQ_LO: Table 12.9 of spec/12_faults.md. -/
def FLT_IRQ_LO_IRQ : Field := ⟨0x90020, 0, 32, 0⟩
/-! FLT_IRQ_HI: Table 12.9 of spec/12_faults.md. -/
def FLT_IRQ_HI_IRQ : Field := ⟨0x90024, 0, 15, 0⟩
/-! FLT_CLEAR_REFUSED: Table 12.10 of spec/12_faults.md. -/
def FLT_CLEAR_REFUSED_CLEAR_REFUSED : Field := ⟨0x90028, 0, 16, 0⟩
/-! FLT_RESET: Table 12.10 of spec/12_faults.md. -/
def FLT_RESET_LAST_SOURCE : Field := ⟨0x9002c, 0, 6, 0⟩
def FLT_RESET_CHIP_SEEN : Field := ⟨0x9002c, 6, 1, 0⟩
def FLT_RESET_SUPPRESSED : Field := ⟨0x9002c, 8, 8, 0⟩
def FLT_RESET_BLOCK_RESETS : Field := ⟨0x9002c, 16, 8, 0⟩
def FLT_RESET_RECENT : Field := ⟨0x9002c, 24, 2, 0⟩
/-! FLT_ALIVE: Table 12.11 of spec/12_faults.md. -/
def FLT_ALIVE_LEVEL : Field := ⟨0x90030, 0, 1, 0⟩
def FLT_ALIVE_STOPPED : Field := ⟨0x90030, 1, 1, 1⟩
def FLT_ALIVE_STOPS : Field := ⟨0x90030, 16, 16, 0⟩
/-! FLT_INJECT: Table 12.12 of spec/12_faults.md. -/
def FLT_INJECT_ARM : Field := ⟨0x90034, 0, 1, 0⟩
def FLT_INJECT_CHECKER : Field := ⟨0x90034, 1, 3, 0⟩
def FLT_INJECT_BITS : Field := ⟨0x90034, 4, 1, 0⟩
def FLT_INJECT_INDEX : Field := ⟨0x90034, 5, 8, 0⟩
def FLT_INJECT_ARMED : Field := ⟨0x90034, 13, 1, 0⟩
/-! FLT_INJ_COUNT: Table 12.12 of spec/12_faults.md. -/
def FLT_INJ_COUNT_INJECTED : Field := ⟨0x90038, 0, 16, 0⟩
def FLT_INJ_COUNT_REFUSED : Field := ⟨0x90038, 16, 16, 0⟩
/-! FLT_SRC_CLASS: Table 12.13 of spec/12_faults.md. -/
def FLT_SRC_CLASS_N (n : Nat) : Field := ⟨0x91000 + 0x40 * n, 0, 8, 4⟩
def FLT_SRC_CLASS_W (n : Nat) : Field := ⟨0x91000 + 0x40 * n, 8, 16, 500⟩
/-! FLT_SRC_REACT: Table 12.13 of spec/12_faults.md. -/
def FLT_SRC_REACT_MINOR (n : Nat) : Field := ⟨0x91008 + 0x40 * n, 0, 5, 1⟩
def FLT_SRC_REACT_SEVERE (n : Nat) : Field := ⟨0x91008 + 0x40 * n, 8, 5, 17⟩
/-! FLT_SRC_FIRST_LO: Table 12.14 of spec/12_faults.md. -/
def FLT_SRC_FIRST_LO_TURN (n : Nat) : Field := ⟨0x91010 + 0x40 * n, 0, 32, 0⟩
/-! FLT_SRC_FIRST_HI: Table 12.14 of spec/12_faults.md. -/
def FLT_SRC_FIRST_HI_TURN (n : Nat) : Field := ⟨0x91014 + 0x40 * n, 0, 16, 0⟩
def FLT_SRC_FIRST_HI_FC (n : Nat) : Field := ⟨0x91014 + 0x40 * n, 16, 12, 0⟩
/-! FLT_SRC_LAST_LO: Table 12.14 of spec/12_faults.md. -/
def FLT_SRC_LAST_LO_TURN (n : Nat) : Field := ⟨0x91018 + 0x40 * n, 0, 32, 0⟩
/-! FLT_SRC_LAST_HI: Table 12.14 of spec/12_faults.md. -/
def FLT_SRC_LAST_HI_TURN (n : Nat) : Field := ⟨0x9101c + 0x40 * n, 0, 16, 0⟩
def FLT_SRC_LAST_HI_FC (n : Nat) : Field := ⟨0x9101c + 0x40 * n, 16, 12, 0⟩
/-! FLT_SRC_COUNT: Table 12.14 of spec/12_faults.md. -/
def FLT_SRC_COUNT_COUNT (n : Nat) : Field := ⟨0x91020 + 0x40 * n, 0, 16, 0⟩
def FLT_SRC_COUNT_WINDOW (n : Nat) : Field := ⟨0x91020 + 0x40 * n, 16, 8, 0⟩
def FLT_SRC_COUNT_OPEN (n : Nat) : Field := ⟨0x91020 + 0x40 * n, 24, 1, 0⟩
/-! LOG_STATUS: Table 13.8 of spec/13_event_recorder.md. -/
def LOG_STATUS_RECORDS : Field := ⟨0xa0000, 0, 14, 1⟩
def LOG_STATUS_FROZEN : Field := ⟨0xa0000, 14, 1, 0⟩
def LOG_STATUS_QUEUED : Field := ⟨0xa0000, 15, 7, 0⟩
def LOG_STATUS_BANKS_OK : Field := ⟨0xa0000, 22, 6, 32⟩
def LOG_STATUS_FULL : Field := ⟨0xa0000, 28, 1, 0⟩
def LOG_STATUS_WITNESS_ONLY : Field := ⟨0xa0000, 29, 1, 0⟩
/-! LOG_CTRL: Table 13.9 of spec/13_event_recorder.md. -/
def LOG_CTRL_CLEAR : Field := ⟨0xa0004, 0, 1, 0⟩
def LOG_CTRL_FREEZE : Field := ⟨0xa0004, 1, 1, 0⟩
def LOG_CTRL_THAW : Field := ⟨0xa0004, 2, 1, 0⟩
/-! LOG_NEXT_SEQ: Table 13.10 of spec/13_event_recorder.md. -/
def LOG_NEXT_SEQ_NEXT_SEQ : Field := ⟨0xa0008, 0, 32, 1⟩
/-! LOG_OLDEST_SEQ: Table 13.10 of spec/13_event_recorder.md. -/
def LOG_OLDEST_SEQ_OLDEST_SEQ : Field := ⟨0xa000c, 0, 32, 0⟩
/-! LOG_COUNT: Table 13.11 of spec/13_event_recorder.md. -/
def LOG_COUNT_DROPPED : Field := ⟨0xa0010, 0, 16, 0⟩
def LOG_COUNT_QUEUE_LOST : Field := ⟨0xa0010, 16, 8, 0⟩
/-! LOG_ECC_COUNT: Table 13.11 of spec/13_event_recorder.md. -/
def LOG_ECC_COUNT_CORRECTED : Field := ⟨0xa0014, 0, 16, 0⟩
def LOG_ECC_COUNT_UNCORRECTED : Field := ⟨0xa0014, 16, 16, 0⟩
/-! LOG_BANK_RETIRED: Table 13.12 of spec/13_event_recorder.md. -/
def LOG_BANK_RETIRED_RETIRED : Field := ⟨0xa0018, 0, 32, 0⟩
/-! LOG_IRQ: Table 13.12 of spec/13_event_recorder.md. -/
def LOG_IRQ_MIN_SEV : Field := ⟨0xa001c, 0, 3, 6⟩
def LOG_IRQ_EN : Field := ⟨0xa001c, 3, 1, 0⟩
def LOG_IRQ_FLAG : Field := ⟨0xa001c, 4, 1, 0⟩
/-! LOG_RD_SEQ: Table 13.13 of spec/13_event_recorder.md. -/
def LOG_RD_SEQ_SEQ : Field := ⟨0xa0020, 0, 32, 0⟩
/-! LOG_RD_DATA: Table 13.13 of spec/13_event_recorder.md. -/
def LOG_RD_DATA_DATA (n : Nat) : Field := ⟨0xa0024 + 0x4 * n, 0, 32, 0⟩
/-! LOG_WITNESS: Table 13.14 of spec/13_event_recorder.md. -/
def LOG_WITNESS_CODE (n : Nat) : Field := ⟨0xa0050 + 0x4 * n, 0, 9, 0⟩
def LOG_WITNESS_SEVERITY (n : Nat) : Field := ⟨0xa0050 + 0x4 * n, 9, 3, 0⟩
def LOG_WITNESS_UNIT (n : Nat) : Field := ⟨0xa0050 + 0x4 * n, 12, 4, 0⟩
def LOG_WITNESS_BANK (n : Nat) : Field := ⟨0xa0050 + 0x4 * n, 16, 5, 0⟩
def LOG_WITNESS_SEQ_LO (n : Nat) : Field := ⟨0xa0050 + 0x4 * n, 21, 11, 0⟩
/-! LOG_WITNESS_COUNT: Table 13.14 of spec/13_event_recorder.md. -/
def LOG_WITNESS_COUNT_WITNESS_ONLY : Field := ⟨0xa0060, 0, 32, 0⟩
/-! LOG_WRAPS: Table 13.10 of spec/13_event_recorder.md. -/
def LOG_WRAPS_WRAPS : Field := ⟨0xa0064, 0, 16, 0⟩
/-! LOG_RATE: Table 13.15 of spec/13_event_recorder.md. -/
def LOG_RATE_CAP (n : Nat) : Field := ⟨0xa1000 + 0x4 * n, 0, 8, 16⟩
def LOG_RATE_REFILL (n : Nat) : Field := ⟨0xa1000 + 0x4 * n, 8, 8, 4⟩
def LOG_RATE_SUPPRESSED (n : Nat) : Field := ⟨0xa1000 + 0x4 * n, 16, 16, 0⟩
/-! SEC_STATUS: Table 14.14 of spec/14_chuck_security.md. -/
def SEC_STATUS_LIFECYCLE : Field := ⟨0xb0000, 0, 3, 0⟩
def SEC_STATUS_SESSION : Field := ⟨0xb0000, 3, 1, 0⟩
def SEC_STATUS_SELF_TEST : Field := ⟨0xb0000, 4, 2, 0⟩
def SEC_STATUS_TAMPER_LATCHED : Field := ⟨0xb0000, 6, 1, 0⟩
def SEC_STATUS_COUNTER_EXHAUSTED : Field := ⟨0xb0000, 7, 1, 0⟩
def SEC_STATUS_BUSY : Field := ⟨0xb0000, 8, 1, 0⟩
def SEC_STATUS_UNLOCK_BLOCKED : Field := ⟨0xb0000, 9, 1, 0⟩
def SEC_STATUS_SEALED_CAL : Field := ⟨0xb0000, 10, 2, 0⟩
/-! SEC_SERIAL: Table 14.15 of spec/14_chuck_security.md. -/
def SEC_SERIAL_SERIAL (n : Nat) : Field := ⟨0xb0004 + 0x4 * n, 0, 32, 0⟩
/-! SEC_COUNTER: Table 14.15 of spec/14_chuck_security.md. -/
def SEC_COUNTER_C : Field := ⟨0xb000c, 0, 11, 0⟩
def SEC_COUNTER_ROWS_USED : Field := ⟨0xb000c, 16, 5, 0⟩
def SEC_COUNTER_KEYS_USED : Field := ⟨0xb000c, 24, 4, 0⟩
/-! SEC_KEY_STATE: Table 14.15 of spec/14_chuck_security.md. -/
def SEC_KEY_STATE_SLOT0 : Field := ⟨0xb0010, 0, 2, 0⟩
def SEC_KEY_STATE_SLOT1 : Field := ⟨0xb0010, 2, 2, 0⟩
def SEC_KEY_STATE_SLOT2 : Field := ⟨0xb0010, 4, 2, 0⟩
def SEC_KEY_STATE_SLOT3 : Field := ⟨0xb0010, 6, 2, 0⟩
def SEC_KEY_STATE_SLOT4 : Field := ⟨0xb0010, 8, 2, 0⟩
def SEC_KEY_STATE_SLOT5 : Field := ⟨0xb0010, 10, 2, 0⟩
def SEC_KEY_STATE_SLOT6 : Field := ⟨0xb0010, 12, 2, 0⟩
def SEC_KEY_STATE_SLOT7 : Field := ⟨0xb0010, 14, 2, 0⟩
def SEC_KEY_STATE_SERVICE : Field := ⟨0xb0010, 16, 2, 0⟩
/-! SEC_CFG: Table 14.16 of spec/14_chuck_security.md. -/
def SEC_CFG_MESH_EN : Field := ⟨0xb0014, 0, 1, 1⟩
def SEC_CFG_GLITCH_EN : Field := ⟨0xb0014, 1, 1, 1⟩
/-! SEC_TOKENS: Table 14.16 of spec/14_chuck_security.md. -/
def SEC_TOKENS_HELD : Field := ⟨0xb0018, 0, 7, 0⟩
def SEC_TOKENS_REJECTS : Field := ⟨0xb0018, 8, 8, 0⟩
def SEC_TOKENS_ACCEPTS : Field := ⟨0xb0018, 16, 8, 0⟩
/-! SEC_LAST_VERDICT: Table 14.16 of spec/14_chuck_security.md. -/
def SEC_LAST_VERDICT_REASON : Field := ⟨0xb001c, 0, 4, 0⟩
def SEC_LAST_VERDICT_OPERATION : Field := ⟨0xb001c, 4, 2, 0⟩
/-! SEC_TOKEN_SEL: Table 14.17 of spec/14_chuck_security.md. -/
def SEC_TOKEN_SEL_INDEX : Field := ⟨0xb0020, 0, 6, 0⟩
def SEC_TOKEN_SEL_RELEASE : Field := ⟨0xb0020, 8, 1, 0⟩
/-! SEC_TOKEN_DIG: Table 14.17 of spec/14_chuck_security.md. -/
def SEC_TOKEN_DIG_DIGEST (n : Nat) : Field := ⟨0xb0024 + 0x4 * n, 0, 32, 0⟩
/-! SEC_TOKEN_META: Table 14.17 of spec/14_chuck_security.md. -/
def SEC_TOKEN_META_VALID : Field := ⟨0xb002c, 0, 1, 0⟩
def SEC_TOKEN_META_DL : Field := ⟨0xb002c, 1, 1, 0⟩
def SEC_TOKEN_META_UL : Field := ⟨0xb002c, 2, 1, 0⟩
def SEC_TOKEN_META_KEY_SLOT : Field := ⟨0xb002c, 3, 3, 0⟩
def SEC_TOKEN_META_VERSION : Field := ⟨0xb002c, 16, 16, 0⟩
/-! SEC_TOKEN_OP: Table 14.17 of spec/14_chuck_security.md. -/
def SEC_TOKEN_OP_OPERATOR : Field := ⟨0xb0030, 0, 32, 0⟩
/-! SEC_TOKEN_TURN_LO: Table 14.17 of spec/14_chuck_security.md. -/
def SEC_TOKEN_TURN_LO_ACCEPT_TURN : Field := ⟨0xb0034, 0, 32, 0⟩
/-! SEC_TOKEN_TURN_HI: Table 14.17 of spec/14_chuck_security.md. -/
def SEC_TOKEN_TURN_HI_ACCEPT_TURN : Field := ⟨0xb0038, 0, 16, 0⟩
/-! SEC_PROV_CTRL: Table 14.18 of spec/14_chuck_security.md. -/
def SEC_PROV_CTRL_GO : Field := ⟨0xb0040, 0, 1, 0⟩
def SEC_PROV_CTRL_BUSY : Field := ⟨0xb0040, 1, 1, 0⟩
def SEC_PROV_CTRL_RESULT : Field := ⟨0xb0040, 4, 4, 0⟩
/-! SEC_DEBUG: Table 14.18 of spec/14_chuck_security.md. -/
def SEC_DEBUG_GRANTS : Field := ⟨0xb0044, 0, 4, 0⟩
def SEC_DEBUG_AUTH_FAILS : Field := ⟨0xb0044, 4, 4, 0⟩
def SEC_DEBUG_UNITS_LEFT : Field := ⟨0xb0044, 8, 16, 0⟩
/-! SEC_TAMPER: Table 14.18 of spec/14_chuck_security.md. -/
def SEC_TAMPER_MESH : Field := ⟨0xb0048, 0, 1, 0⟩
def SEC_TAMPER_RAIL : Field := ⟨0xb0048, 1, 1, 0⟩
def SEC_TAMPER_OSC : Field := ⟨0xb0048, 2, 1, 0⟩
def SEC_TAMPER_COUNT : Field := ⟨0xb0048, 16, 16, 0⟩
/-! SEC_IRQ: Table 14.18 of spec/14_chuck_security.md. -/
def SEC_IRQ_EN : Field := ⟨0xb004c, 0, 1, 0⟩
def SEC_IRQ_VERDICT : Field := ⟨0xb004c, 1, 1, 0⟩
def SEC_IRQ_WITHDRAW : Field := ⟨0xb004c, 2, 1, 0⟩
def SEC_IRQ_SESSION_END : Field := ⟨0xb004c, 3, 1, 0⟩
def SEC_IRQ_TAMPER : Field := ⟨0xb004c, 4, 1, 0⟩
/-! SEC_PROV_DATA: Table 14.18 of spec/14_chuck_security.md. -/
def SEC_PROV_DATA_DATA (n : Nat) : Field := ⟨0xb0100 + 0x4 * n, 0, 32, 0⟩
/-! SEC_SLOT_CAP: Table 14.19 of spec/14_chuck_security.md. -/
def SEC_SLOT_CAP_CAP (n : Nat) : Field := ⟨0xb1000 + 0x4 * n, 0, 16, 1200⟩
def SEC_SLOT_CAP_TOKEN (n : Nat) : Field := ⟨0xb1000 + 0x4 * n, 16, 6, 0⟩
def SEC_SLOT_CAP_NONE (n : Nat) : Field := ⟨0xb1000 + 0x4 * n, 22, 1, 1⟩
/-! PWR_STATE: Table 15.13 of spec/15_power_clocks_reset.md. -/
def PWR_STATE_STATE : Field := ⟨0xc0000, 0, 3, 0⟩
def PWR_STATE_PREV : Field := ⟨0xc0000, 3, 3, 0⟩
def PWR_STATE_BOOT_CAUSE : Field := ⟨0xc0000, 6, 2, 1⟩
def PWR_STATE_SAFE_CAUSE : Field := ⟨0xc0000, 8, 9, 0⟩
/-! PWR_SUPPLY: Table 15.14 of spec/15_power_clocks_reset.md. -/
def PWR_SUPPLY_VIN_UV : Field := ⟨0xc0004, 0, 1, 0⟩
def PWR_SUPPLY_VIN_OV : Field := ⟨0xc0004, 1, 1, 0⟩
def PWR_SUPPLY_RAIL_UV : Field := ⟨0xc0004, 2, 5, 0⟩
def PWR_SUPPLY_UV_EVENTS : Field := ⟨0xc0004, 16, 8, 0⟩
def PWR_SUPPLY_RAIL_EVENTS : Field := ⟨0xc0004, 24, 8, 0⟩
/-! PWR_TEMP: Table 15.14 of spec/15_power_clocks_reset.md. -/
def PWR_TEMP_TEMP_WARN : Field := ⟨0xc0008, 0, 8, 115⟩
def PWR_TEMP_HOTTEST : Field := ⟨0xc0008, 8, 10, 0⟩
def PWR_TEMP_DIE : Field := ⟨0xc0008, 18, 2, 0⟩
/-! CLK_STATUS: Table 15.14 of spec/15_power_clocks_reset.md. -/
def CLK_STATUS_REF_OK : Field := ⟨0xc000c, 0, 1, 0⟩
def CLK_STATUS_FAB_LOCK : Field := ⟨0xc000c, 1, 1, 0⟩
def CLK_STATUS_AON_OK : Field := ⟨0xc000c, 2, 1, 1⟩
end F

/-- Rows of the ID registers. -/
def regsID : List RegRow := [
  -- ID_PART
  ⟨0x0, 1, 0x4, 1, 0x4, .all, [⟨0, 16, 0, .ro⟩]⟩]
/-- Rows of the HIF registers. -/
def regsHIF0 : List RegRow := [
  -- HIF_STATUS
  ⟨0x1000, 1, 0x4, 1, 0x4, .all, [⟨0, 1, 0, .ro⟩, ⟨1, 3, 0, .ro⟩, ⟨4, 3, 0, .ro⟩, ⟨8, 6, 0, .ro⟩, ⟨14, 9, 0, .ro⟩, ⟨23, 1, 0, .ro⟩]⟩,
  -- HIF_CTRL
  ⟨0x1004, 1, 0x4, 1, 0x4, .all, [⟨0, 1, 0, .rw⟩, ⟨1, 1, 0, .wo⟩]⟩,
  -- HIF_DB_ADDR_LO
  ⟨0x1008, 1, 0x4, 1, 0x4, .all, [⟨6, 26, 0, .rw⟩]⟩,
  -- HIF_DB_ADDR_HI
  ⟨0x100c, 1, 0x4, 1, 0x4, .all, [⟨0, 32, 0, .rw⟩]⟩,
  -- HIF_XLATE_LO
  ⟨0x1010, 1, 0x4, 1, 0x4, .all, [⟨0, 32, 0, .ro⟩]⟩,
  -- HIF_XLATE_HI
  ⟨0x1014, 1, 0x4, 1, 0x4, .all, [⟨0, 16, 0, .ro⟩, ⟨16, 2, 0, .ro⟩, ⟨18, 3, 0, .ro⟩]⟩,
  -- HIF_ERR_COUNT
  ⟨0x1018, 1, 0x4, 1, 0x4, .all, [⟨0, 16, 0, .rc⟩, ⟨16, 16, 0, .rc⟩]⟩,
  -- HIF_ORPHAN
  ⟨0x101c, 1, 0x4, 1, 0x4, .all, [⟨0, 1, 0, .wo⟩, ⟨16, 16, 0, .rc⟩]⟩,
  -- HIF_LINK
  ⟨0x1020, 1, 0x4, 1, 0x4, .all, [⟨0, 16, 0, .rc⟩, ⟨16, 16, 0, .rc⟩]⟩,
  -- HIF_TRAP
  ⟨0x1024, 1, 0x4, 1, 0x4, .all, [⟨0, 1, 0, .w1c⟩, ⟨1, 1, 0, .ro⟩, ⟨16, 16, 0, .rc⟩]⟩,
  -- HIF_IRQ_MAP
  ⟨0x1028, 2, 0x4, 1, 0x4, .all, [⟨0, 6, 0, .rw⟩, ⟨7, 1, 0, .rw⟩, ⟨8, 6, 0, .rw⟩, ⟨15, 1, 0, .rw⟩, ⟨16, 6, 0, .rw⟩, ⟨23, 1, 0, .rw⟩, ⟨24, 6, 0, .rw⟩, ⟨31, 1, 0, .rw⟩]⟩,
  -- HIF_ABORT
  ⟨0x1030, 1, 0x4, 1, 0x4, .all, [⟨0, 16, 0, .ro⟩, ⟨16, 16, 0, .ro⟩]⟩,
  -- HIF_HWT_CMD
  ⟨0x1040, 1, 0x4, 1, 0x4, .all, [⟨0, 10, 0, .rw⟩, ⟨10, 2, 0, .wo⟩, ⟨12, 1, 0, .ro⟩, ⟨13, 2, 0, .ro⟩, ⟨16, 11, 0, .ro⟩]⟩,
  -- HIF_HWT_VA
  ⟨0x1044, 1, 0x4, 1, 0x4, .all, [⟨0, 32, 0, .rw⟩]⟩,
  -- HIF_HWT_PA_LO
  ⟨0x1048, 1, 0x4, 1, 0x4, .all, [⟨0, 32, 0, .rw⟩]⟩,
  -- HIF_HWT_PA_HI
  ⟨0x104c, 1, 0x4, 1, 0x4, .all, [⟨0, 16, 0, .rw⟩, ⟨16, 1, 0, .rw⟩, ⟨17, 1, 0, .rw⟩, ⟨18, 1, 0, .rw⟩, ⟨19, 1, 0, .rw⟩]⟩,
  -- HIF_SQ_BASE_LO
  ⟨0x1100, 8, 0x20, 1, 0x4, .all, [⟨12, 20, 0, .rw⟩]⟩,
  -- HIF_SQ_BASE_HI
  ⟨0x1104, 8, 0x20, 1, 0x4, .all, [⟨0, 32, 0, .rw⟩]⟩,
  -- HIF_SQ_CFG
  ⟨0x1108, 8, 0x20, 1, 0x4, .all, [⟨0, 1, 0, .rw⟩, ⟨1, 4, 4, .rw⟩, ⟨5, 2, 0, .rw⟩, ⟨7, 3, 0, .rw⟩]⟩,
  -- HIF_SQ_STATUS
  ⟨0x110c, 8, 0x20, 1, 0x4, .all, [⟨0, 16, 0, .ro⟩, ⟨16, 3, 0, .ro⟩, ⟨19, 1, 0, .ro⟩, ⟨20, 1, 0, .ro⟩]⟩,
  -- HIF_SQ_TAIL_SEEN
  ⟨0x1110, 8, 0x20, 1, 0x4, .all, [⟨0, 16, 0, .ro⟩]⟩,
  -- HIF_CQ_BASE_LO
  ⟨0x1200, 8, 0x20, 1, 0x4, .all, [⟨12, 20, 0, .rw⟩]⟩,
  -- HIF_CQ_BASE_HI
  ⟨0x1204, 8, 0x20, 1, 0x4, .all, [⟨0, 32, 0, .rw⟩]⟩,
  -- HIF_CQ_CFG
  ⟨0x1208, 8, 0x20, 1, 0x4, .all, [⟨0, 1, 0, .rw⟩, ⟨1, 4, 4, .rw⟩, ⟨5, 6, 0, .rw⟩, ⟨11, 1, 0, .rw⟩, ⟨12, 8, 0, .rw⟩, ⟨20, 8, 0, .rw⟩]⟩]
/-- Rows of the HIF registers. -/
def regsHIF1 : List RegRow := [
  -- HIF_CQ_STATUS
  ⟨0x120c, 8, 0x20, 1, 0x4, .all, [⟨0, 16, 0, .ro⟩, ⟨16, 1, 1, .ro⟩, ⟨17, 9, 0, .ro⟩]⟩,
  -- HIF_CQ_HEAD_SEEN
  ⟨0x1210, 8, 0x20, 1, 0x4, .all, [⟨0, 16, 0, .ro⟩]⟩,
  -- HIF_MSIX_ADDR_LO
  ⟨0x1800, 64, 0x10, 1, 0x4, .all, [⟨0, 32, 0, .rw⟩]⟩,
  -- HIF_MSIX_ADDR_HI
  ⟨0x1804, 64, 0x10, 1, 0x4, .all, [⟨0, 32, 0, .rw⟩]⟩,
  -- HIF_MSIX_DATA
  ⟨0x1808, 64, 0x10, 1, 0x4, .all, [⟨0, 32, 0, .rw⟩]⟩,
  -- HIF_MSIX_CTRL
  ⟨0x180c, 64, 0x10, 1, 0x4, .all, [⟨0, 1, 1, .rw⟩]⟩,
  -- HIF_MSIX_PBA
  ⟨0x1c00, 2, 0x4, 1, 0x4, .all, [⟨0, 32, 0, .ro⟩]⟩]
/-- Rows of the TB registers. -/
def regsTB : List RegRow := [
  -- TB_TURN_LO
  ⟨0x2000, 1, 0x4, 1, 0x4, .all, [⟨0, 32, 0, .ro⟩]⟩,
  -- TB_TURN_HI
  ⟨0x2004, 1, 0x4, 1, 0x4, .all, [⟨0, 16, 0, .ro⟩, ⟨16, 16, 0, .ro⟩]⟩,
  -- TB_NOW
  ⟨0x2008, 1, 0x4, 1, 0x4, .all, [⟨0, 12, 0, .ro⟩]⟩,
  -- TB_CLK_LOSS
  ⟨0x200c, 1, 0x4, 1, 0x4, .all, [⟨0, 24, 0, .ro⟩, ⟨24, 8, 0, .rc⟩]⟩,
  -- TB_OVERRUN
  ⟨0x2040, 1, 0x4, 1, 0x4, .all, [⟨0, 1, 0, .w1c⟩, ⟨1, 1, 0, .w1c⟩, ⟨2, 1, 0, .w1c⟩, ⟨16, 16, 0, .rc⟩]⟩]
/-- Rows of the APZ registers. -/
def regsAPZ : List RegRow := [
  -- APZ_CFG
  ⟨0x3000, 1, 0x4, 1, 0x4, .all, [⟨0, 2, 0, .rw⟩, ⟨2, 1, 0, .rw⟩, ⟨3, 1, 0, .rw⟩, ⟨4, 1, 0, .rw⟩, ⟨5, 1, 0, .rw⟩, ⟨6, 1, 0, .rw⟩]⟩,
  -- APZ_STATUS
  ⟨0x3004, 1, 0x4, 1, 0x4, .all, [⟨0, 2, 0, .ro⟩, ⟨2, 4, 0, .ro⟩, ⟨6, 1, 0, .ro⟩, ⟨7, 1, 0, .ro⟩, ⟨8, 1, 0, .ro⟩, ⟨9, 1, 0, .ro⟩, ⟨16, 16, 0, .ro⟩]⟩,
  -- APZ_DELAY
  ⟨0x3008, 1, 0x4, 1, 0x4, .all, [⟨0, 15, 0, .ro⟩, ⟨16, 15, 0, .ro⟩]⟩,
  -- APZ_COUNT
  ⟨0x300c, 1, 0x4, 1, 0x4, .all, [⟨0, 16, 0, .rc⟩, ⟨16, 8, 0, .rc⟩, ⟨24, 8, 0, .rc⟩]⟩]
/-- Rows of the PLAN registers. -/
def regsPLAN : List RegRow := [
  -- PLAN_STATUS
  ⟨0x4000, 1, 0x4, 1, 0x4, .all, [⟨0, 1, 0, .ro⟩, ⟨1, 1, 0, .ro⟩, ⟨2, 1, 0, .ro⟩, ⟨3, 1, 0, .ro⟩, ⟨4, 1, 0, .ro⟩, ⟨5, 2, 0, .ro⟩]⟩,
  -- PLAN_ID_GEN
  ⟨0x4004, 4, 0x4, 1, 0x4, .all, [⟨0, 32, 0, .ro⟩]⟩,
  -- PLAN_SWAP_TURN_LO
  ⟨0x4014, 1, 0x4, 1, 0x4, .all, [⟨0, 32, 0, .ro⟩]⟩,
  -- PLAN_SWAP_TURN_HI
  ⟨0x4018, 1, 0x4, 1, 0x4, .all, [⟨0, 16, 0, .ro⟩]⟩,
  -- PLAN_REJECT
  ⟨0x401c, 1, 0x4, 1, 0x4, .all, [⟨0, 8, 0, .ro⟩, ⟨8, 1, 0, .ro⟩, ⟨9, 2, 0, .ro⟩, ⟨16, 16, 0, .ro⟩]⟩,
  -- PLAN_COUNT
  ⟨0x4020, 1, 0x4, 1, 0x4, .all, [⟨0, 8, 0, .rc⟩, ⟨8, 8, 0, .rc⟩, ⟨16, 8, 0, .rc⟩]⟩,
  -- PLAN_FLAGS
  ⟨0x4024, 1, 0x4, 1, 0x4, .all, [⟨0, 1, 0, .rws⟩, ⟨1, 1, 0, .rws⟩, ⟨8, 1, 0, (.act 0x0 0)⟩, ⟨9, 1, 0, (.act 0x0 1)⟩]⟩,
  -- PLAN_CTRL
  ⟨0x4028, 1, 0x4, 1, 0x4, .all, [⟨0, 1, 0, .wo⟩, ⟨1, 1, 0, .wo⟩, ⟨2, 1, 0, .wo⟩]⟩,
  -- PLAN_BOOT
  ⟨0x402c, 1, 0x4, 1, 0x4, .all, [⟨0, 3, 0, .ro⟩, ⟨3, 3, 0, .ro⟩, ⟨6, 4, 0, .ro⟩, ⟨10, 1, 0, .ro⟩, ⟨11, 1, 0, .ro⟩, ⟨12, 6, 0, .ro⟩]⟩,
  -- PLAN_ECC
  ⟨0x4030, 1, 0x4, 1, 0x4, .all, [⟨0, 16, 0, .rc⟩, ⟨16, 16, 0, .rc⟩]⟩]
/-- Rows of the CVA registers. -/
def regsCVA : List RegRow := [
  -- CVA_STATUS
  ⟨0x10000, 1, 0x4, 1, 0x4, .all, [⟨0, 3, 0, .ro⟩, ⟨3, 3, 0, .ro⟩, ⟨6, 2, 0, .ro⟩, ⟨8, 1, 0, .ro⟩, ⟨9, 4, 0, .ro⟩, ⟨13, 1, 0, .ro⟩, ⟨14, 1, 0, .ro⟩]⟩,
  -- CVA_SYNTH_STATUS
  ⟨0x10004, 2, 0x4, 1, 0x4, .all, [⟨0, 6, 0, .ro⟩, ⟨6, 1, 0, .ro⟩, ⟨8, 8, 0, .rc⟩, ⟨16, 2, 0, .ro⟩]⟩,
  -- CVA_CAL_CTRL
  ⟨0x10010, 1, 0x4, 1, 0x4, .all, [⟨0, 1, 1, .rw⟩]⟩,
  -- CVA_CAL_PROGRESS
  ⟨0x10014, 1, 0x4, 1, 0x4, .all, [⟨0, 16, 0, .ro⟩]⟩,
  -- CVA_CAL_LAST
  ⟨0x10018, 1, 0x4, 1, 0x4, .all, [⟨0, 4, 0, .ro⟩, ⟨4, 2, 0, .ro⟩, ⟨6, 2, 0, .ro⟩]⟩,
  -- CVA_CAL_TURN_LO
  ⟨0x1001c, 1, 0x4, 1, 0x4, .all, [⟨0, 32, 0, .ro⟩]⟩,
  -- CVA_CAL_TURN_HI
  ⟨0x10020, 1, 0x4, 1, 0x4, .all, [⟨0, 16, 0, .ro⟩]⟩,
  -- CVA_ADC_FAIL
  ⟨0x10024, 1, 0x4, 1, 0x4, .all, [⟨0, 20, 0, .ro⟩]⟩,
  -- CVA_DAC_FAIL
  ⟨0x10028, 1, 0x4, 1, 0x4, .all, [⟨0, 16, 0, .ro⟩]⟩,
  -- CVA_OVR_STORM_LIVE
  ⟨0x1002c, 1, 0x4, 1, 0x4, .all, [⟨0, 20, 0, .ro⟩]⟩,
  -- CVA_TEMP
  ⟨0x10030, 3, 0x4, 1, 0x4, .all, [⟨0, 10, 0, .ro⟩]⟩,
  -- CVA_GRADIENT
  ⟨0x1003c, 1, 0x4, 1, 0x4, .all, [⟨0, 9, 0, .ro⟩, ⟨16, 9, 0, .rc⟩]⟩,
  -- CVA_ADC_CFG
  ⟨0x10100, 20, 0x10, 1, 0x4, .adc, [⟨0, 1, 0, .rws⟩, ⟨1, 1, 0, (.act 0x0 0)⟩]⟩,
  -- CVA_ADC_OVR
  ⟨0x10104, 20, 0x10, 1, 0x4, .adc, [⟨0, 16, 0, .rc⟩, ⟨16, 9, 0, .ro⟩]⟩,
  -- CVA_ADC_CAL
  ⟨0x10108, 20, 0x10, 1, 0x4, .adc, [⟨0, 8, 0, .ro⟩, ⟨8, 8, 0, .ro⟩, ⟨16, 12, 0, .ro⟩]⟩,
  -- CVA_ADC_STATUS
  ⟨0x1010c, 20, 0x10, 1, 0x4, .adc, [⟨0, 1, 0, .ro⟩, ⟨1, 1, 0, .ro⟩, ⟨2, 1, 0, .ro⟩, ⟨3, 1, 0, .ro⟩, ⟨4, 4, 0, .ro⟩]⟩,
  -- CVA_DAC_CFG
  ⟨0x10400, 16, 0x10, 1, 0x4, .dac, [⟨0, 1, 0, .rws⟩, ⟨1, 1, 0, (.act 0x0 0)⟩, ⟨2, 1, 0, .rws⟩, ⟨3, 1, 0, (.act 0x0 2)⟩]⟩,
  -- CVA_DAC_STATUS
  ⟨0x10404, 16, 0x10, 1, 0x4, .dac, [⟨0, 1, 1, .ro⟩, ⟨1, 1, 0, .ro⟩, ⟨2, 1, 0, .ro⟩, ⟨3, 1, 0, .ro⟩, ⟨4, 1, 0, .ro⟩, ⟨5, 1, 1, .ro⟩, ⟨6, 1, 0, .ro⟩, ⟨7, 1, 0, .ro⟩]⟩]
/-- Rows of the FAB registers. -/
def regsFAB : List RegRow := [
  -- FAB_STATUS
  ⟨0x20000, 1, 0x4, 1, 0x4, .all, [⟨0, 4, 0, .ro⟩, ⟨4, 1, 0, .ro⟩, ⟨5, 4, 0, .ro⟩, ⟨16, 8, 0, .ro⟩]⟩,
  -- FAB_ECC_COUNT
  ⟨0x20004, 1, 0x4, 1, 0x4, .all, [⟨0, 16, 0, .rc⟩, ⟨16, 16, 0, .rc⟩]⟩,
  -- FAB_SLIP
  ⟨0x20008, 1, 0x4, 1, 0x4, .all, [⟨0, 4, 0, .w1c⟩, ⟨4, 1, 0, .w1c⟩, ⟨16, 16, 0, .rc⟩]⟩,
  -- FAB_DOVETAIL_FILL
  ⟨0x2000c, 1, 0x4, 1, 0x4, .all, [⟨0, 4, 0, .ro⟩, ⟨8, 4, 0, .ro⟩, ⟨16, 4, 0, .ro⟩, ⟨24, 4, 0, .ro⟩]⟩,
  -- FAB_TILE_RETIRED
  ⟨0x20010, 5, 0x4, 1, 0x4, .all, [⟨0, 32, 0, .ro⟩]⟩,
  -- FAB_CAP_STATUS
  ⟨0x20030, 1, 0x4, 1, 0x4, .all, [⟨0, 8, 0, .ro⟩, ⟨8, 1, 0, .ro⟩]⟩,
  -- FAB_ROUTE
  ⟨0x20400, 256, 0x4, 1, 0x4, .fport, [⟨0, 8, 0, .rws⟩, ⟨8, 1, 1, .rws⟩, ⟨16, 8, 0, (.act 0x0 0)⟩, ⟨24, 1, 1, (.act 0x0 8)⟩]⟩]
/-- Rows of the CHZ registers. -/
def regsCHZ : List RegRow := [
  -- CHZ_COMB_CFG
  ⟨0x28000, 16, 0x4, 1, 0x4, .comb, [⟨0, 8, 0, .rws⟩, ⟨16, 8, 0, (.act 0x0 0)⟩]⟩,
  -- CHZ_COMB_SAT
  ⟨0x28040, 16, 0x4, 1, 0x4, .comb, [⟨0, 16, 0, .rc⟩]⟩,
  -- CHZ_SLOT_CFG
  ⟨0x29000, 128, 0x40, 1, 0x4, .slot, [⟨0, 1, 0, .rws⟩, ⟨1, 5, 0, .rws⟩, ⟨6, 3, 0, .rws⟩, ⟨9, 2, 0, .rws⟩, ⟨11, 2, 0, .rws⟩, ⟨13, 1, 0, .rws⟩, ⟨14, 1, 0, .rws⟩]⟩,
  -- CHZ_SLOT_FREQ
  ⟨0x29004, 128, 0x40, 1, 0x4, .slot, [⟨0, 32, 0, .rws⟩]⟩,
  -- CHZ_SLOT_FREQ_ACT
  ⟨0x29008, 128, 0x40, 1, 0x4, .slot, [⟨0, 32, 0, (.act 0x4 0)⟩]⟩,
  -- CHZ_SLOT_BW
  ⟨0x2900c, 128, 0x40, 1, 0x4, .slot, [⟨0, 16, 0, .rws⟩, ⟨16, 16, 0, (.act 0x0 0)⟩]⟩,
  -- CHZ_SLOT_GAIN_LIM
  ⟨0x29010, 128, 0x40, 1, 0x4, .slot, [⟨0, 16, 64936, .rws⟩, ⟨16, 16, 64936, .rws⟩]⟩,
  -- CHZ_SLOT_GAIN_LIM_ACT
  ⟨0x29014, 128, 0x40, 1, 0x4, .slot, [⟨0, 16, 64936, (.act 0x4 0)⟩, ⟨16, 16, 64936, (.act 0x4 16)⟩]⟩,
  -- CHZ_SLOT_GAIN
  ⟨0x29018, 128, 0x40, 1, 0x4, .slot, [⟨0, 16, 64936, .rws⟩, ⟨16, 16, 64936, .ro⟩]⟩,
  -- CHZ_SLOT_COMB
  ⟨0x2901c, 128, 0x40, 1, 0x4, .slot, [⟨0, 16, 0, .rws⟩, ⟨16, 16, 0, (.act 0x0 0)⟩]⟩,
  -- CHZ_SLOT_STATUS
  ⟨0x29020, 128, 0x40, 1, 0x4, .slot, [⟨0, 8, 0, .ro⟩, ⟨8, 1, 1, .ro⟩, ⟨9, 1, 0, .ro⟩, ⟨10, 1, 0, .ro⟩, ⟨11, 1, 0, .ro⟩, ⟨12, 1, 0, .ro⟩, ⟨13, 1, 0, .ro⟩, ⟨14, 1, 0, .ro⟩, ⟨15, 1, 0, .ro⟩, ⟨16, 1, 0, .ro⟩, ⟨17, 1, 0, .ro⟩, ⟨18, 1, 0, .ro⟩]⟩,
  -- CHZ_SLOT_LEVEL
  ⟨0x29024, 128, 0x40, 1, 0x4, .slot, [⟨0, 16, 32768, .ro⟩, ⟨16, 16, 32768, .ro⟩]⟩,
  -- CHZ_SLOT_PEAK
  ⟨0x29028, 128, 0x40, 1, 0x4, .slot, [⟨0, 16, 32768, .ro⟩, ⟨16, 10, 0, .ro⟩]⟩,
  -- CHZ_SLOT_CFG_ACT
  ⟨0x2902c, 128, 0x40, 1, 0x4, .slot, [⟨0, 1, 0, (.act 0x2c 0)⟩, ⟨1, 5, 0, (.act 0x2c 1)⟩, ⟨6, 3, 0, (.act 0x2c 6)⟩, ⟨9, 2, 0, (.act 0x2c 9)⟩, ⟨11, 2, 0, (.act 0x2c 11)⟩, ⟨13, 1, 0, (.act 0x2c 13)⟩, ⟨14, 1, 0, (.act 0x2c 14)⟩]⟩]
/-- Rows of the GOUGE registers. -/
def regsGOUGE : List RegRow := [
  -- GOUGE_STATUS
  ⟨0x30000, 1, 0x4, 1, 0x4, .all, [⟨0, 4, 0, .ro⟩, ⟨4, 1, 0, .ro⟩, ⟨16, 8, 0, .ro⟩]⟩,
  -- GOUGE_TAPS_USED
  ⟨0x30004, 1, 0x4, 1, 0x4, .all, [⟨0, 20, 0, .ro⟩]⟩,
  -- GOUGE_UNITS_USED
  ⟨0x30008, 1, 0x4, 1, 0x4, .all, [⟨0, 26, 0, .ro⟩]⟩,
  -- GOUGE_TAPS_SHADOW
  ⟨0x3000c, 1, 0x4, 1, 0x4, .all, [⟨0, 20, 0, .ro⟩]⟩,
  -- GOUGE_UNITS_SHADOW
  ⟨0x30010, 1, 0x4, 1, 0x4, .all, [⟨0, 26, 0, .ro⟩]⟩,
  -- GOUGE_ECC_COUNT
  ⟨0x30014, 1, 0x4, 1, 0x4, .all, [⟨0, 16, 0, .rc⟩, ⟨16, 16, 0, .rc⟩]⟩,
  -- GOUGE_CFG
  ⟨0x30018, 1, 0x4, 1, 0x4, .all, [⟨0, 8, 16, .rws⟩, ⟨8, 8, 16, .rws⟩, ⟨16, 4, 3, .rws⟩, ⟨20, 6, 10, .rws⟩]⟩,
  -- GOUGE_CFG_ACT
  ⟨0x3001c, 1, 0x4, 1, 0x4, .all, [⟨0, 8, 16, (.act 0x4 0)⟩, ⟨8, 8, 16, (.act 0x4 8)⟩, ⟨16, 4, 3, (.act 0x4 16)⟩, ⟨20, 6, 10, (.act 0x4 20)⟩]⟩,
  -- GOUGE_LANE_RETIRED
  ⟨0x30020, 5, 0x4, 1, 0x4, .all, [⟨0, 32, 0, .ro⟩]⟩,
  -- GOUGE_SLOT_ALLOC
  ⟨0x31000, 128, 0x40, 1, 0x4, .slot, [⟨0, 8, 0, .rws⟩, ⟨8, 13, 0, .rws⟩, ⟨21, 1, 1, .rws⟩, ⟨22, 6, 4, .rws⟩, ⟨28, 1, 0, .rws⟩]⟩,
  -- GOUGE_SLOT_ALLOC_ACT
  ⟨0x31004, 128, 0x40, 1, 0x4, .slot, [⟨0, 8, 0, (.act 0x4 0)⟩, ⟨8, 13, 0, (.act 0x4 8)⟩, ⟨21, 1, 1, (.act 0x4 21)⟩, ⟨22, 6, 4, (.act 0x4 22)⟩, ⟨28, 1, 0, (.act 0x4 28)⟩]⟩,
  -- GOUGE_SLOT_ADAPT
  ⟨0x31008, 128, 0x40, 1, 0x4, .slot, [⟨0, 16, 4096, .rws⟩, ⟨16, 16, 16384, .rws⟩]⟩,
  -- GOUGE_SLOT_ADAPT_ACT
  ⟨0x3100c, 128, 0x40, 1, 0x4, .slot, [⟨0, 16, 4096, (.act 0x4 0)⟩, ⟨16, 16, 16384, (.act 0x4 16)⟩]⟩,
  -- GOUGE_SLOT_PROBE
  ⟨0x31010, 128, 0x40, 1, 0x4, .slot, [⟨0, 13, 512, .rws⟩, ⟨16, 6, 40, .rws⟩]⟩,
  -- GOUGE_SLOT_PROBE_ACT
  ⟨0x31014, 128, 0x40, 1, 0x4, .slot, [⟨0, 13, 512, (.act 0x4 0)⟩, ⟨16, 6, 40, (.act 0x4 16)⟩]⟩,
  -- GOUGE_SLOT_LIMITS
  ⟨0x31018, 128, 0x40, 1, 0x4, .slot, [⟨0, 11, 0, .rws⟩, ⟨12, 9, 450, .rws⟩, ⟨24, 4, 4, .rws⟩]⟩,
  -- GOUGE_SLOT_LIMITS_ACT
  ⟨0x3101c, 128, 0x40, 1, 0x4, .slot, [⟨0, 11, 0, (.act 0x4 0)⟩, ⟨12, 9, 450, (.act 0x4 12)⟩, ⟨24, 4, 4, (.act 0x4 24)⟩]⟩,
  -- GOUGE_SLOT_CTRL
  ⟨0x31020, 128, 0x40, 1, 0x4, .slot, [⟨0, 1, 0, .rw⟩, ⟨1, 1, 0, .wo⟩, ⟨2, 1, 0, .wo⟩]⟩,
  -- GOUGE_SLOT_STATUS
  ⟨0x31024, 128, 0x40, 1, 0x4, .slot, [⟨0, 3, 0, .ro⟩, ⟨3, 1, 0, .ro⟩, ⟨4, 1, 0, .ro⟩, ⟨5, 1, 0, .ro⟩, ⟨6, 1, 0, .ro⟩, ⟨7, 1, 0, .ro⟩, ⟨8, 1, 0, .ro⟩, ⟨9, 1, 0, .ro⟩, ⟨10, 1, 0, .ro⟩, ⟨11, 1, 0, .ro⟩, ⟨12, 1, 0, .ro⟩, ⟨13, 2, 0, .ro⟩, ⟨15, 1, 0, .ro⟩, ⟨16, 8, 0, .ro⟩, ⟨24, 1, 0, .ro⟩]⟩,
  -- GOUGE_SLOT_REPORT
  ⟨0x31028, 128, 0x40, 1, 0x4, .slot, [⟨0, 16, 0, .ro⟩, ⟨16, 16, 0, .ro⟩]⟩,
  -- GOUGE_SLOT_ESTIMATE
  ⟨0x3102c, 128, 0x40, 1, 0x4, .slot, [⟨0, 16, 0, .ro⟩, ⟨16, 16, 0, .ro⟩]⟩,
  -- GOUGE_SLOT_CKPT
  ⟨0x31030, 128, 0x40, 1, 0x4, .slot, [⟨0, 1, 0, .ro⟩, ⟨8, 8, 0, .rc⟩, ⟨16, 16, 0, .ro⟩]⟩]
/-- Rows of the GRD registers. -/
def regsGRD0 : List RegRow := [
  -- GRD_STATUS
  ⟨0x40000, 1, 0x4, 1, 0x4, .all, [⟨0, 1, 0, .ro⟩, ⟨1, 1, 0, .ro⟩, ⟨2, 1, 0, .ro⟩, ⟨3, 1, 0, .ro⟩, ⟨4, 1, 0, .ro⟩, ⟨5, 1, 0, .ro⟩, ⟨6, 1, 0, .ro⟩, ⟨16, 8, 0, .ro⟩, ⟨24, 8, 0, .ro⟩]⟩,
  -- GRD_CFG
  ⟨0x40004, 1, 0x4, 1, 0x4, .all, [⟨0, 4, 4, .rws⟩, ⟨4, 4, 2, .rws⟩, ⟨8, 4, 3, .rws⟩, ⟨12, 8, 122, .rws⟩, ⟨20, 1, 0, .rws⟩]⟩,
  -- GRD_CFG_ACT
  ⟨0x40008, 1, 0x4, 1, 0x4, .all, [⟨0, 4, 4, (.act 0x4 0)⟩, ⟨4, 4, 2, (.act 0x4 4)⟩, ⟨8, 4, 3, (.act 0x4 8)⟩, ⟨12, 8, 122, (.act 0x4 12)⟩, ⟨20, 1, 0, (.act 0x4 20)⟩]⟩,
  -- GRD_HOLD
  ⟨0x4000c, 1, 0x4, 1, 0x4, .all, [⟨0, 16, 500, .rws⟩, ⟨16, 16, 5000, .rws⟩]⟩,
  -- GRD_HOLD_ACT
  ⟨0x40010, 1, 0x4, 1, 0x4, .all, [⟨0, 16, 500, (.act 0x4 0)⟩, ⟨16, 16, 5000, (.act 0x4 16)⟩]⟩,
  -- GRD_LATCH
  ⟨0x40014, 1, 0x4, 1, 0x4, .all, [⟨0, 1, 0, .wo⟩, ⟨1, 2, 0, .ro⟩, ⟨8, 8, 0, .rc⟩]⟩,
  -- GRD_LATCH_TURN_LO
  ⟨0x40018, 1, 0x4, 1, 0x4, .all, [⟨0, 32, 0, .ro⟩]⟩,
  -- GRD_LATCH_TURN_HI
  ⟨0x4001c, 1, 0x4, 1, 0x4, .all, [⟨0, 16, 0, .ro⟩]⟩,
  -- GRD_LATCH_SLOTS
  ⟨0x40020, 4, 0x4, 1, 0x4, .all, [⟨0, 32, 0, .ro⟩]⟩,
  -- GRD_KILL
  ⟨0x40030, 1, 0x4, 1, 0x4, .all, [⟨0, 16, 0, .rc⟩, ⟨16, 16, 0, .rc⟩]⟩,
  -- GRD_ACTIONS
  ⟨0x40034, 1, 0x4, 1, 0x4, .all, [⟨0, 16, 0, .rc⟩, ⟨16, 16, 0, .rc⟩]⟩,
  -- GRD_EM_CFG
  ⟨0x40800, 16, 0x10, 1, 0x4, .em, [⟨0, 1, 0, .rws⟩, ⟨1, 4, 0, .rws⟩, ⟨5, 7, 45, .rws⟩, ⟨12, 8, 70, .rws⟩, ⟨20, 4, 2, .rws⟩]⟩,
  -- GRD_EM_CFG_ACT
  ⟨0x40804, 16, 0x10, 1, 0x4, .em, [⟨0, 1, 0, (.act 0x4 0)⟩, ⟨1, 4, 0, (.act 0x4 1)⟩, ⟨5, 7, 45, (.act 0x4 5)⟩, ⟨12, 8, 70, (.act 0x4 12)⟩, ⟨20, 4, 2, (.act 0x4 20)⟩]⟩,
  -- GRD_EM_STATUS
  ⟨0x40808, 16, 0x10, 1, 0x4, .em, [⟨0, 1, 0, .ro⟩, ⟨1, 1, 0, .ro⟩, ⟨2, 1, 0, .ro⟩, ⟨3, 7, 0, .ro⟩, ⟨16, 8, 0, .ro⟩]⟩,
  -- GRD_EM_COUNT
  ⟨0x4080c, 16, 0x10, 1, 0x4, .em, [⟨0, 16, 0, .rc⟩]⟩,
  -- GRD_SLOT_CFG
  ⟨0x41000, 128, 0x40, 1, 0x4, .slot, [⟨0, 9, 150, .rws⟩, ⟨9, 13, 0, .rws⟩, ⟨22, 7, 0, .rws⟩, ⟨29, 1, 0, .rws⟩, ⟨30, 1, 0, .rws⟩]⟩,
  -- GRD_SLOT_CFG_ACT
  ⟨0x41004, 128, 0x40, 1, 0x4, .slot, [⟨0, 9, 150, (.act 0x4 0)⟩, ⟨9, 13, 0, (.act 0x4 9)⟩, ⟨22, 7, 0, (.act 0x4 22)⟩, ⟨29, 1, 0, (.act 0x4 29)⟩, ⟨30, 1, 0, (.act 0x4 30)⟩]⟩,
  -- GRD_SLOT_THR
  ⟨0x41008, 128, 0x40, 1, 0x4, .slot, [⟨0, 6, 12, .rws⟩, ⟨6, 6, 10, .rws⟩, ⟨12, 8, 6, .rws⟩, ⟨20, 8, 16, .rws⟩]⟩,
  -- GRD_SLOT_THR_ACT
  ⟨0x4100c, 128, 0x40, 1, 0x4, .slot, [⟨0, 6, 12, (.act 0x4 0)⟩, ⟨6, 6, 10, (.act 0x4 6)⟩, ⟨12, 8, 6, (.act 0x4 12)⟩, ⟨20, 8, 16, (.act 0x4 20)⟩]⟩,
  -- GRD_SLOT_LEVELS
  ⟨0x41010, 128, 0x40, 1, 0x4, .slot, [⟨0, 12, 3096, .rws⟩, ⟨12, 4, 4, .rws⟩, ⟨16, 4, 4, .rws⟩, ⟨20, 12, 625, .rws⟩]⟩,
  -- GRD_SLOT_LEVELS_ACT
  ⟨0x41014, 128, 0x40, 1, 0x4, .slot, [⟨0, 12, 3096, (.act 0x4 0)⟩, ⟨12, 4, 4, (.act 0x4 12)⟩, ⟨16, 4, 4, (.act 0x4 16)⟩, ⟨20, 12, 625, (.act 0x4 20)⟩]⟩,
  -- GRD_SLOT_STATUS
  ⟨0x41018, 128, 0x40, 1, 0x4, .slot, [⟨0, 3, 0, .ro⟩, ⟨3, 1, 0, .ro⟩, ⟨4, 1, 0, .ro⟩, ⟨5, 1, 0, .ro⟩, ⟨6, 1, 0, .ro⟩, ⟨7, 1, 0, .ro⟩, ⟨8, 1, 0, .ro⟩, ⟨9, 1, 0, .ro⟩, ⟨10, 1, 0, .ro⟩, ⟨16, 16, 0, .ro⟩]⟩,
  -- GRD_SLOT_LIMIT
  ⟨0x4101c, 128, 0x40, 1, 0x4, .slot, [⟨0, 16, 32768, .ro⟩, ⟨16, 16, 32768, .ro⟩]⟩,
  -- GRD_SLOT_NOISE
  ⟨0x41020, 128, 0x40, 1, 0x4, .slot, [⟨0, 16, 32768, .ro⟩, ⟨16, 16, 32768, .ro⟩]⟩]
/-- Rows of the GRD registers. -/
def regsGRD1 : List RegRow := [
  -- GRD_SLOT_COUNT
  ⟨0x41024, 128, 0x40, 1, 0x4, .slot, [⟨0, 8, 0, .rc⟩, ⟨8, 8, 0, .rc⟩, ⟨16, 8, 0, .rc⟩]⟩,
  -- GRD_SLOT_OSC
  ⟨0x41028, 128, 0x40, 1, 0x4, .slot, [⟨0, 16, 32768, .ro⟩]⟩]
/-- Rows of the SEQ registers. -/
def regsSEQ0 : List RegRow := [
  -- SEQ_STATUS
  ⟨0x50000, 1, 0x4, 1, 0x4, .all, [⟨0, 8, 0, .ro⟩, ⟨8, 8, 0, .ro⟩, ⟨16, 8, 0, .ro⟩, ⟨24, 1, 0, .ro⟩, ⟨25, 1, 0, .ro⟩]⟩,
  -- SEQ_RFFE_CFG
  ⟨0x50004, 1, 0x4, 1, 0x4, .all, [⟨0, 3, 4, .rws⟩, ⟨3, 1, 0, .rws⟩, ⟨4, 3, 4, .rws⟩, ⟨7, 1, 0, .rws⟩, ⟨8, 1, 0, .rws⟩, ⟨9, 1, 0, .rws⟩]⟩,
  -- SEQ_RFFE_CFG_ACT
  ⟨0x50008, 1, 0x4, 1, 0x4, .all, [⟨0, 3, 4, (.act 0x4 0)⟩, ⟨3, 1, 0, (.act 0x4 3)⟩, ⟨4, 3, 4, (.act 0x4 4)⟩, ⟨7, 1, 0, (.act 0x4 7)⟩, ⟨8, 1, 0, (.act 0x4 8)⟩, ⟨9, 1, 0, (.act 0x4 9)⟩]⟩,
  -- SEQ_RFFE_STATUS
  ⟨0x5000c, 1, 0x4, 1, 0x4, .all, [⟨0, 8, 0, .rc⟩, ⟨8, 8, 0, .rc⟩, ⟨16, 8, 0, .rc⟩, ⟨24, 8, 0, .rc⟩]⟩,
  -- SEQ_RFFE_HCMD
  ⟨0x50010, 1, 0x4, 1, 0x4, .all, [⟨0, 1, 0, .wo⟩, ⟨1, 1, 0, .rw⟩, ⟨2, 3, 0, .rw⟩, ⟨5, 4, 0, .rw⟩, ⟨9, 8, 0, .rw⟩, ⟨17, 8, 0, .rw⟩, ⟨25, 1, 0, .ro⟩, ⟨26, 1, 0, .ro⟩]⟩,
  -- SEQ_RFFE_HDATA
  ⟨0x50014, 1, 0x4, 1, 0x4, .all, [⟨0, 8, 0, .ro⟩]⟩,
  -- SEQ_DG_CFG
  ⟨0x50100, 8, 0x40, 1, 0x4, .all, [⟨0, 1, 0, .rws⟩, ⟨1, 1, 0, .rws⟩, ⟨2, 1, 1, .rws⟩, ⟨3, 2, 0, .rws⟩, ⟨5, 7, 0, .rws⟩, ⟨12, 6, 0, .rws⟩]⟩,
  -- SEQ_DG_CFG_ACT
  ⟨0x50104, 8, 0x40, 1, 0x4, .all, [⟨0, 1, 0, (.act 0x4 0)⟩, ⟨1, 1, 0, (.act 0x4 1)⟩, ⟨2, 1, 1, (.act 0x4 2)⟩, ⟨3, 2, 0, (.act 0x4 3)⟩, ⟨5, 7, 0, (.act 0x4 5)⟩, ⟨12, 6, 0, (.act 0x4 12)⟩]⟩,
  -- SEQ_DG_PERIOD
  ⟨0x50108, 8, 0x40, 1, 0x4, .all, [⟨0, 25, 7680000, .rws⟩]⟩,
  -- SEQ_DG_PERIOD_ACT
  ⟨0x5010c, 8, 0x40, 1, 0x4, .all, [⟨0, 25, 7680000, (.act 0x4 0)⟩]⟩,
  -- SEQ_DG_SYNC
  ⟨0x50110, 8, 0x40, 1, 0x4, .all, [⟨0, 8, 16, .rws⟩, ⟨8, 4, 3, .rws⟩, ⟨12, 6, 12, .rws⟩]⟩,
  -- SEQ_DG_SYNC_ACT
  ⟨0x50114, 8, 0x40, 1, 0x4, .all, [⟨0, 8, 16, (.act 0x4 0)⟩, ⟨8, 4, 3, (.act 0x4 8)⟩, ⟨12, 6, 12, (.act 0x4 12)⟩]⟩,
  -- SEQ_DG_SYNC_OFS
  ⟨0x50118, 8, 0x40, 1, 0x4, .all, [⟨0, 32, 0, .rws⟩]⟩,
  -- SEQ_DG_SYNC_OFS_ACT
  ⟨0x5011c, 8, 0x40, 1, 0x4, .all, [⟨0, 32, 0, (.act 0x4 0)⟩]⟩,
  -- SEQ_DG_LIMITS
  ⟨0x50120, 8, 0x40, 1, 0x4, .all, [⟨0, 16, 5000, .rws⟩, ⟨16, 16, 100, .rws⟩]⟩,
  -- SEQ_DG_LIMITS_ACT
  ⟨0x50124, 8, 0x40, 1, 0x4, .all, [⟨0, 16, 5000, (.act 0x4 0)⟩, ⟨16, 16, 100, (.act 0x4 16)⟩]⟩,
  -- SEQ_DG_LOSS
  ⟨0x50128, 8, 0x40, 1, 0x4, .all, [⟨0, 16, 400, .rws⟩, ⟨16, 8, 4, .rws⟩]⟩,
  -- SEQ_DG_LOSS_ACT
  ⟨0x5012c, 8, 0x40, 1, 0x4, .all, [⟨0, 16, 400, (.act 0x4 0)⟩, ⟨16, 8, 4, (.act 0x4 16)⟩]⟩,
  -- SEQ_DG_STATUS
  ⟨0x50130, 8, 0x40, 1, 0x4, .all, [⟨0, 3, 0, .ro⟩, ⟨3, 3, 0, .ro⟩, ⟨6, 3, 0, .ro⟩, ⟨9, 1, 0, .ro⟩, ⟨10, 1, 0, .ro⟩, ⟨11, 2, 0, .ro⟩, ⟨16, 16, 0, .ro⟩]⟩,
  -- SEQ_DG_COUNT
  ⟨0x50134, 8, 0x40, 1, 0x4, .all, [⟨0, 8, 0, .rc⟩, ⟨8, 8, 0, .rc⟩, ⟨16, 8, 0, .rc⟩, ⟨24, 8, 0, .rc⟩]⟩,
  -- SEQ_DG_SYNC_ERR
  ⟨0x50138, 8, 0x40, 1, 0x4, .all, [⟨0, 16, 0, .ro⟩, ⟨16, 16, 0, .ro⟩]⟩,
  -- SEQ_DG_PAT_START
  ⟨0x51000, 8, 0x100, 32, 0x8, .all, [⟨0, 25, 0, .rws⟩, ⟨25, 2, 0, .rws⟩]⟩,
  -- SEQ_DG_PAT_LEN
  ⟨0x51004, 8, 0x100, 32, 0x8, .all, [⟨0, 25, 0, .rws⟩]⟩,
  -- SEQ_DG_PAT_START_ACT
  ⟨0x51800, 8, 0x100, 32, 0x8, .all, [⟨0, 25, 0, (.act 0x800 0)⟩, ⟨25, 2, 0, (.act 0x800 25)⟩]⟩]
/-- Rows of the SEQ registers. -/
def regsSEQ1 : List RegRow := [
  -- SEQ_DG_PAT_LEN_ACT
  ⟨0x51804, 8, 0x100, 32, 0x8, .all, [⟨0, 25, 0, (.act 0x800 0)⟩]⟩,
  -- SEQ_SLOT_GRP
  ⟨0x52000, 128, 0x4, 1, 0x4, .slot, [⟨0, 3, 0, .rws⟩, ⟨8, 3, 0, (.act 0x0 0)⟩]⟩,
  -- SEQ_FE_CFG
  ⟨0x53000, 32, 0x10, 1, 0x4, .all, [⟨0, 1, 0, .rws⟩, ⟨1, 3, 0, .rws⟩, ⟨4, 1, 0, .rws⟩, ⟨5, 3, 0, .rws⟩, ⟨8, 1, 0, .rws⟩, ⟨9, 1, 0, .rws⟩, ⟨10, 1, 0, .rws⟩, ⟨11, 1, 0, .rws⟩, ⟨12, 1, 0, .rws⟩, ⟨13, 1, 0, .rws⟩]⟩,
  -- SEQ_FE_OFS_TX
  ⟨0x53004, 32, 0x10, 1, 0x4, .all, [⟨0, 12, 0, .rws⟩, ⟨16, 12, 0, .rws⟩]⟩,
  -- SEQ_FE_OFS_RS
  ⟨0x53008, 32, 0x10, 1, 0x4, .all, [⟨0, 12, 0, .rws⟩, ⟨16, 12, 0, .rws⟩]⟩,
  -- SEQ_FE_STATUS
  ⟨0x5300c, 32, 0x10, 1, 0x4, .all, [⟨0, 1, 0, .ro⟩, ⟨16, 16, 0, .rc⟩]⟩,
  -- SEQ_FE_CFG_ACT
  ⟨0x53200, 32, 0x10, 1, 0x4, .all, [⟨0, 1, 0, (.act 0x200 0)⟩, ⟨1, 3, 0, (.act 0x200 1)⟩, ⟨4, 1, 0, (.act 0x200 4)⟩, ⟨5, 3, 0, (.act 0x200 5)⟩, ⟨8, 1, 0, (.act 0x200 8)⟩, ⟨9, 1, 0, (.act 0x200 9)⟩, ⟨10, 1, 0, (.act 0x200 10)⟩, ⟨11, 1, 0, (.act 0x200 11)⟩, ⟨12, 1, 0, (.act 0x200 12)⟩, ⟨13, 1, 0, (.act 0x200 13)⟩]⟩,
  -- SEQ_FE_OFS_TX_ACT
  ⟨0x53204, 32, 0x10, 1, 0x4, .all, [⟨0, 12, 0, (.act 0x200 0)⟩, ⟨16, 12, 0, (.act 0x200 16)⟩]⟩,
  -- SEQ_FE_OFS_RS_ACT
  ⟨0x53208, 32, 0x10, 1, 0x4, .all, [⟨0, 12, 0, (.act 0x200 0)⟩, ⟨16, 12, 0, (.act 0x200 16)⟩]⟩,
  -- SEQ_DIV_CFG
  ⟨0x54000, 4, 0x10, 1, 0x4, .div, [⟨0, 1, 0, .rws⟩, ⟨1, 3, 0, .rws⟩, ⟨4, 4, 4, .rws⟩, ⟨8, 8, 16, .rws⟩]⟩,
  -- SEQ_DIV_CFG_ACT
  ⟨0x54004, 4, 0x10, 1, 0x4, .div, [⟨0, 1, 0, (.act 0x4 0)⟩, ⟨1, 3, 0, (.act 0x4 1)⟩, ⟨4, 4, 4, (.act 0x4 4)⟩, ⟨8, 8, 16, (.act 0x4 8)⟩]⟩,
  -- SEQ_DIV_STATUS
  ⟨0x54008, 4, 0x10, 1, 0x4, .div, [⟨0, 1, 0, .ro⟩, ⟨1, 1, 0, .ro⟩, ⟨8, 8, 0, .rc⟩]⟩,
  -- SEQ_DIV_LEVELS
  ⟨0x5400c, 4, 0x10, 1, 0x4, .div, [⟨0, 16, 32768, .ro⟩, ⟨16, 16, 32768, .ro⟩]⟩,
  -- SEQ_MM_CFG
  ⟨0x55000, 4, 0x20, 1, 0x4, .mm, [⟨0, 1, 0, .rws⟩, ⟨1, 1, 0, .rws⟩, ⟨2, 8, 0, .rws⟩, ⟨10, 5, 0, .rws⟩, ⟨15, 12, 64, .rws⟩]⟩,
  -- SEQ_MM_CFG_ACT
  ⟨0x55004, 4, 0x20, 1, 0x4, .mm, [⟨0, 1, 0, (.act 0x4 0)⟩, ⟨1, 1, 0, (.act 0x4 1)⟩, ⟨2, 8, 0, (.act 0x4 2)⟩, ⟨10, 5, 0, (.act 0x4 10)⟩, ⟨15, 12, 64, (.act 0x4 15)⟩]⟩,
  -- SEQ_MM_THR
  ⟨0x55008, 4, 0x20, 1, 0x4, .mm, [⟨0, 8, 100, .rws⟩, ⟨8, 8, 30, .rws⟩, ⟨16, 4, 4, .rws⟩, ⟨20, 12, 0, .rws⟩]⟩,
  -- SEQ_MM_THR_ACT
  ⟨0x5500c, 4, 0x20, 1, 0x4, .mm, [⟨0, 8, 100, (.act 0x4 0)⟩, ⟨8, 8, 30, (.act 0x4 8)⟩, ⟨16, 4, 4, (.act 0x4 16)⟩, ⟨20, 12, 0, (.act 0x4 20)⟩]⟩,
  -- SEQ_MM_SEARCH
  ⟨0x55010, 4, 0x20, 1, 0x4, .mm, [⟨0, 8, 8, .rws⟩, ⟨8, 8, 16, .rws⟩, ⟨16, 8, 60, .rws⟩, ⟨24, 8, 60, .rws⟩]⟩,
  -- SEQ_MM_SEARCH_ACT
  ⟨0x55014, 4, 0x20, 1, 0x4, .mm, [⟨0, 8, 8, (.act 0x4 0)⟩, ⟨8, 8, 16, (.act 0x4 8)⟩, ⟨16, 8, 60, (.act 0x4 16)⟩, ⟨24, 8, 60, (.act 0x4 24)⟩]⟩,
  -- SEQ_MM_STATUS
  ⟨0x55018, 4, 0x20, 1, 0x4, .mm, [⟨0, 3, 0, .ro⟩, ⟨3, 1, 0, .ro⟩, ⟨8, 8, 0, .ro⟩]⟩,
  -- SEQ_TUN_CFG
  ⟨0x56000, 8, 0x10, 1, 0x4, .sport, [⟨0, 1, 0, .rws⟩, ⟨1, 1, 0, .rws⟩, ⟨2, 4, 0, .rws⟩, ⟨6, 1, 0, .rws⟩, ⟨8, 8, 0, .rws⟩, ⟨16, 8, 0, .rws⟩, ⟨24, 8, 0, .rws⟩]⟩,
  -- SEQ_TUN_CFG_ACT
  ⟨0x56004, 8, 0x10, 1, 0x4, .sport, [⟨0, 1, 0, (.act 0x4 0)⟩, ⟨1, 1, 0, (.act 0x4 1)⟩, ⟨2, 4, 0, (.act 0x4 2)⟩, ⟨6, 1, 0, (.act 0x4 6)⟩, ⟨8, 8, 0, (.act 0x4 8)⟩, ⟨16, 8, 0, (.act 0x4 16)⟩, ⟨24, 8, 0, (.act 0x4 24)⟩]⟩,
  -- SEQ_TUN_STEP
  ⟨0x56008, 8, 0x10, 1, 0x4, .sport, [⟨0, 8, 1, .rws⟩, ⟨8, 8, 0, .rws⟩, ⟨16, 16, 4096, .rws⟩]⟩,
  -- SEQ_TUN_STEP_ACT
  ⟨0x5600c, 8, 0x10, 1, 0x4, .sport, [⟨0, 8, 1, (.act 0x4 0)⟩, ⟨8, 8, 0, (.act 0x4 8)⟩, ⟨16, 16, 4096, (.act 0x4 16)⟩]⟩]
/-- Rows of the SEQ registers. -/
def regsSEQ2 : List RegRow := [
  -- SEQ_TUN_STATUS
  ⟨0x56100, 8, 0x4, 1, 0x4, .sport, [⟨0, 8, 0, .ro⟩, ⟨8, 8, 0, .ro⟩, ⟨16, 3, 0, .ro⟩, ⟨24, 8, 0, .rc⟩]⟩,
  -- SEQ_PORT_CTRL
  ⟨0x56140, 1, 0x4, 1, 0x4, .all, [⟨0, 8, 0, .wo⟩]⟩,
  -- SEQ_PORT_MUTED
  ⟨0x56144, 1, 0x4, 1, 0x4, .all, [⟨0, 8, 0, .ro⟩]⟩,
  -- SEQ_RFFE_CMD_OP
  ⟨0x57000, 2, 0x200, 64, 0x8, .all, [⟨0, 2, 0, .rws⟩, ⟨2, 4, 0, .rws⟩, ⟨6, 8, 0, .rws⟩, ⟨14, 8, 0, .rws⟩]⟩,
  -- SEQ_RFFE_CMD_AT
  ⟨0x57004, 2, 0x200, 64, 0x8, .all, [⟨0, 1, 0, .rws⟩, ⟨1, 5, 0, .rws⟩, ⟨6, 12, 0, .rws⟩]⟩,
  -- SEQ_RFFE_CMD_OP_ACT
  ⟨0x57400, 2, 0x200, 64, 0x8, .all, [⟨0, 2, 0, (.act 0x400 0)⟩, ⟨2, 4, 0, (.act 0x400 2)⟩, ⟨6, 8, 0, (.act 0x400 6)⟩, ⟨14, 8, 0, (.act 0x400 14)⟩]⟩,
  -- SEQ_RFFE_CMD_AT_ACT
  ⟨0x57404, 2, 0x200, 64, 0x8, .all, [⟨0, 1, 0, (.act 0x400 0)⟩, ⟨1, 5, 0, (.act 0x400 1)⟩, ⟨6, 12, 0, (.act 0x400 6)⟩]⟩]
/-- Rows of the GAU registers. -/
def regsGAU : List RegRow := [
  -- GAU_STATUS
  ⟨0x60000, 1, 0x4, 1, 0x4, .all, [⟨0, 4, 0, .ro⟩, ⟨4, 4, 0, .ro⟩, ⟨8, 4, 0, .ro⟩]⟩,
  -- GAU_WIN_FLAG0
  ⟨0x60004, 1, 0x4, 1, 0x4, .all, [⟨0, 32, 0, .w1c⟩]⟩,
  -- GAU_WIN_FLAG1
  ⟨0x60008, 1, 0x4, 1, 0x4, .all, [⟨0, 32, 0, .w1c⟩]⟩,
  -- GAU_SEQ
  ⟨0x60100, 4, 0x40, 1, 0x4, .all, [⟨0, 1, 0, .rws⟩, ⟨1, 5, 1, .rws⟩, ⟨6, 2, 0, .rws⟩, ⟨8, 4, 0, .rws⟩, ⟨12, 12, 0, .rws⟩]⟩,
  -- GAU_SEQ_ACT
  ⟨0x60104, 4, 0x40, 1, 0x4, .all, [⟨0, 1, 0, (.act 0x4 0)⟩, ⟨1, 5, 1, (.act 0x4 1)⟩, ⟨6, 2, 0, (.act 0x4 6)⟩, ⟨8, 4, 0, (.act 0x4 8)⟩, ⟨12, 12, 0, (.act 0x4 12)⟩]⟩,
  -- GAU_PERIOD
  ⟨0x60108, 4, 0x40, 1, 0x4, .all, [⟨0, 16, 1, .rws⟩, ⟨16, 16, 1, (.act 0x0 0)⟩]⟩,
  -- GAU_CTRL
  ⟨0x6010c, 4, 0x40, 1, 0x4, .all, [⟨0, 1, 0, .wo⟩, ⟨1, 1, 0, .wo⟩, ⟨2, 4, 0, .rw⟩]⟩,
  -- GAU_STATE
  ⟨0x60110, 4, 0x40, 1, 0x4, .all, [⟨0, 2, 0, .ro⟩, ⟨2, 4, 0, .ro⟩, ⟨6, 1, 0, .ro⟩, ⟨7, 1, 0, .ro⟩]⟩,
  -- GAU_COUNT
  ⟨0x60114, 4, 0x40, 1, 0x4, .all, [⟨0, 16, 0, .rc⟩, ⟨16, 8, 0, .rc⟩, ⟨24, 8, 0, .rc⟩]⟩,
  -- GAU_CAL_OFFSET
  ⟨0x60118, 4, 0x40, 1, 0x4, .all, [⟨0, 12, 0, .ro⟩]⟩,
  -- GAU_CAL_GAIN
  ⟨0x6011c, 4, 0x40, 1, 0x4, .all, [⟨0, 16, 32768, .ro⟩]⟩,
  -- GAU_ENT_CFG
  ⟨0x61000, 4, 0x100, 16, 0x10, .all, [⟨0, 6, 0, .rws⟩, ⟨6, 2, 0, .rws⟩, ⟨8, 6, 2, .rws⟩, ⟨14, 4, 0, .rws⟩, ⟨18, 1, 0, .rws⟩]⟩,
  -- GAU_ENT_CFG_ACT
  ⟨0x61004, 4, 0x100, 16, 0x10, .all, [⟨0, 6, 0, (.act 0x4 0)⟩, ⟨6, 2, 0, (.act 0x4 6)⟩, ⟨8, 6, 2, (.act 0x4 8)⟩, ⟨14, 4, 0, (.act 0x4 14)⟩, ⟨18, 1, 0, (.act 0x4 18)⟩]⟩,
  -- GAU_ENT_WIN
  ⟨0x61008, 4, 0x100, 16, 0x10, .all, [⟨0, 12, 0, .rws⟩, ⟨12, 12, 4095, .rws⟩, ⟨24, 8, 0, .rws⟩]⟩,
  -- GAU_ENT_WIN_ACT
  ⟨0x6100c, 4, 0x100, 16, 0x10, .all, [⟨0, 12, 0, (.act 0x4 0)⟩, ⟨12, 12, 4095, (.act 0x4 12)⟩, ⟨24, 8, 0, (.act 0x4 24)⟩]⟩,
  -- GAU_ENT_ACC
  ⟨0x62000, 4, 0x100, 16, 0x10, .all, [⟨0, 22, 0, .ro⟩, ⟨22, 1, 0, .ro⟩, ⟨23, 1, 0, .ro⟩, ⟨24, 1, 0, .rc⟩, ⟨25, 1, 0, .rc⟩, ⟨26, 4, 0, .ro⟩]⟩,
  -- GAU_ENT_STATE
  ⟨0x62004, 4, 0x100, 16, 0x10, .all, [⟨0, 2, 0, .ro⟩, ⟨2, 1, 0, .ro⟩, ⟨3, 1, 0, .ro⟩, ⟨4, 10, 0, .ro⟩, ⟨16, 8, 0, .ro⟩]⟩,
  -- GAU_ENT_TRACK
  ⟨0x62008, 4, 0x100, 16, 0x10, .all, [⟨0, 12, 4095, .rc⟩, ⟨16, 12, 0, .rc⟩]⟩]
/-- Rows of the PWM registers. -/
def regsPWM0 : List RegRow := [
  -- PWM_STATUS
  ⟨0x70000, 1, 0x4, 1, 0x4, .all, [⟨0, 1, 0, .ro⟩, ⟨1, 1, 0, .ro⟩, ⟨2, 1, 0, .ro⟩, ⟨3, 8, 0, .ro⟩, ⟨11, 8, 0, .ro⟩]⟩,
  -- PWM_LOAD
  ⟨0x70004, 1, 0x4, 1, 0x4, .all, [⟨0, 9, 0, .wo⟩]⟩,
  -- PWM_LOAD_PENDING
  ⟨0x70008, 1, 0x4, 1, 0x4, .all, [⟨0, 9, 0, .ro⟩]⟩,
  -- PWM_PERIOD
  ⟨0x7000c, 1, 0x4, 1, 0x4, .all, [⟨0, 12, 640, .rws⟩, ⟨16, 12, 640, (.act 0x0 0)⟩]⟩,
  -- PWM_PERIOD_STG
  ⟨0x70010, 1, 0x4, 1, 0x4, .all, [⟨0, 12, 640, .rw⟩, ⟨16, 12, 640, .ro⟩]⟩,
  -- PWM_FLAGS
  ⟨0x70014, 1, 0x4, 1, 0x4, .all, [⟨0, 8, 0, .w1c⟩, ⟨8, 8, 0, .w1c⟩, ⟨16, 4, 0, .w1c⟩, ⟨20, 1, 0, .w1c⟩, ⟨21, 1, 0, .w1c⟩]⟩,
  -- PWM_TRIP_STATUS
  ⟨0x70018, 1, 0x4, 1, 0x4, .all, [⟨0, 4, 0, .ro⟩, ⟨4, 4, 0, .ro⟩, ⟨8, 4, 0, .wo⟩]⟩,
  -- PWM_TRIP_COUNT
  ⟨0x7001c, 1, 0x4, 1, 0x4, .all, [⟨0, 24, 0, .rc⟩, ⟨24, 8, 0, .rc⟩]⟩,
  -- PWM_IRQ_CFG
  ⟨0x70020, 1, 0x4, 1, 0x4, .all, [⟨0, 3, 0, .rws⟩, ⟨3, 1, 0, .rws⟩, ⟨4, 1, 0, .rws⟩, ⟨5, 1, 0, .rws⟩, ⟨6, 1, 0, .rws⟩, ⟨7, 4, 0, .rws⟩]⟩,
  -- PWM_IRQ_CFG_ACT
  ⟨0x70024, 1, 0x4, 1, 0x4, .all, [⟨0, 3, 0, (.act 0x4 0)⟩, ⟨3, 1, 0, (.act 0x4 3)⟩, ⟨4, 1, 0, (.act 0x4 4)⟩, ⟨5, 1, 0, (.act 0x4 5)⟩, ⟨6, 1, 0, (.act 0x4 6)⟩, ⟨7, 4, 0, (.act 0x4 7)⟩]⟩,
  -- PWM_IRQ_STATUS
  ⟨0x70028, 1, 0x4, 1, 0x4, .all, [⟨0, 1, 0, .w1c⟩, ⟨16, 16, 0, .rc⟩]⟩,
  -- PWM_TRIP_CFG
  ⟨0x70040, 4, 0x4, 1, 0x4, .all, [⟨0, 16, 0, .rws⟩, ⟨16, 1, 0, .rws⟩, ⟨17, 1, 0, .rws⟩, ⟨18, 2, 0, .rws⟩, ⟨20, 1, 1, .rws⟩]⟩,
  -- PWM_TRIP_CFG_ACT
  ⟨0x70050, 4, 0x4, 1, 0x4, .all, [⟨0, 16, 0, (.act 0x10 0)⟩, ⟨16, 1, 0, (.act 0x10 16)⟩, ⟨17, 1, 0, (.act 0x10 17)⟩, ⟨18, 2, 0, (.act 0x10 18)⟩, ⟨20, 1, 1, (.act 0x10 20)⟩]⟩,
  -- PWM_MASK_ON
  ⟨0x70100, 8, 0x10, 1, 0x4, .all, [⟨0, 1, 0, .rws⟩, ⟨1, 5, 0, .rws⟩, ⟨6, 12, 0, .rws⟩]⟩,
  -- PWM_MASK_OFF
  ⟨0x70104, 8, 0x10, 1, 0x4, .all, [⟨0, 5, 0, .rws⟩, ⟨5, 12, 0, .rws⟩]⟩,
  -- PWM_MASK_OUT
  ⟨0x70108, 8, 0x10, 1, 0x4, .all, [⟨0, 16, 0, .rws⟩]⟩,
  -- PWM_MASK_ON_ACT
  ⟨0x70200, 8, 0x10, 1, 0x4, .all, [⟨0, 1, 0, (.act 0x100 0)⟩, ⟨1, 5, 0, (.act 0x100 1)⟩, ⟨6, 12, 0, (.act 0x100 6)⟩]⟩,
  -- PWM_MASK_OFF_ACT
  ⟨0x70204, 8, 0x10, 1, 0x4, .all, [⟨0, 5, 0, (.act 0x100 0)⟩, ⟨5, 12, 0, (.act 0x100 5)⟩]⟩,
  -- PWM_MASK_OUT_ACT
  ⟨0x70208, 8, 0x10, 1, 0x4, .all, [⟨0, 16, 0, (.act 0x100 0)⟩]⟩,
  -- PWM_TRG_CFG
  ⟨0x70300, 16, 0x4, 1, 0x4, .all, [⟨0, 1, 0, .rws⟩, ⟨1, 3, 0, .rws⟩, ⟨4, 2, 0, .rws⟩, ⟨6, 4, 0, .rws⟩, ⟨10, 10, 0, .rws⟩]⟩,
  -- PWM_TRG_CFG_ACT
  ⟨0x70340, 16, 0x4, 1, 0x4, .all, [⟨0, 1, 0, (.act 0x40 0)⟩, ⟨1, 3, 0, (.act 0x40 1)⟩, ⟨4, 2, 0, (.act 0x40 4)⟩, ⟨6, 4, 0, (.act 0x40 6)⟩, ⟨10, 10, 0, (.act 0x40 10)⟩]⟩,
  -- PWM_TRG_STATUS
  ⟨0x70380, 1, 0x4, 1, 0x4, .all, [⟨0, 16, 0, .ro⟩, ⟨16, 16, 0, .rc⟩]⟩,
  -- PWM_PAIR_CFG
  ⟨0x70400, 8, 0x20, 1, 0x4, .all, [⟨0, 1, 0, .rws⟩, ⟨1, 1, 0, .rws⟩, ⟨2, 8, 0, .rws⟩, ⟨10, 8, 0, .rws⟩, ⟨18, 2, 0, .rws⟩, ⟨20, 2, 0, .rws⟩, ⟨22, 1, 0, .rws⟩, ⟨23, 1, 0, .rws⟩]⟩,
  -- PWM_PAIR_INIT
  ⟨0x70404, 8, 0x20, 1, 0x4, .all, [⟨0, 12, 0, .rws⟩, ⟨16, 12, 0, .rws⟩]⟩]
/-- Rows of the PWM registers. -/
def regsPWM1 : List RegRow := [
  -- PWM_PAIR_EDGE_INIT
  ⟨0x70408, 8, 0x20, 1, 0x4, .all, [⟨0, 8, 0, .rws⟩, ⟨8, 8, 0, .rws⟩, ⟨16, 4, 0, .rws⟩, ⟨20, 4, 0, .rws⟩]⟩,
  -- PWM_PAIR_CMP_STG
  ⟨0x7040c, 8, 0x20, 1, 0x4, .all, [⟨0, 12, 0, .rw⟩, ⟨16, 12, 0, .rw⟩]⟩,
  -- PWM_PAIR_EDGE_STG
  ⟨0x70410, 8, 0x20, 1, 0x4, .all, [⟨0, 8, 0, .rw⟩, ⟨8, 8, 0, .rw⟩, ⟨16, 4, 0, .rw⟩, ⟨20, 4, 0, .rw⟩]⟩,
  -- PWM_PAIR_CMP_NOW
  ⟨0x70414, 8, 0x20, 1, 0x4, .all, [⟨0, 12, 0, .ro⟩, ⟨16, 12, 0, .ro⟩]⟩,
  -- PWM_PAIR_EDGE_NOW
  ⟨0x70418, 8, 0x20, 1, 0x4, .all, [⟨0, 8, 0, .ro⟩, ⟨8, 8, 0, .ro⟩, ⟨16, 4, 0, .ro⟩, ⟨20, 4, 0, .ro⟩]⟩,
  -- PWM_PAIR_COUNT
  ⟨0x7041c, 8, 0x20, 1, 0x4, .all, [⟨0, 16, 0, .rc⟩, ⟨16, 8, 0, .rc⟩, ⟨24, 8, 0, .rc⟩]⟩,
  -- PWM_PAIR_CFG_ACT
  ⟨0x70500, 8, 0x20, 1, 0x4, .all, [⟨0, 1, 0, (.act 0x100 0)⟩, ⟨1, 1, 0, (.act 0x100 1)⟩, ⟨2, 8, 0, (.act 0x100 2)⟩, ⟨10, 8, 0, (.act 0x100 10)⟩, ⟨18, 2, 0, (.act 0x100 18)⟩, ⟨20, 2, 0, (.act 0x100 20)⟩, ⟨22, 1, 0, (.act 0x100 22)⟩, ⟨23, 1, 0, (.act 0x100 23)⟩]⟩,
  -- PWM_PAIR_INIT_ACT
  ⟨0x70504, 8, 0x20, 1, 0x4, .all, [⟨0, 12, 0, (.act 0x100 0)⟩, ⟨16, 12, 0, (.act 0x100 16)⟩]⟩,
  -- PWM_PAIR_EDGE_INIT_ACT
  ⟨0x70508, 8, 0x20, 1, 0x4, .all, [⟨0, 8, 0, (.act 0x100 0)⟩, ⟨8, 8, 0, (.act 0x100 8)⟩, ⟨16, 4, 0, (.act 0x100 16)⟩, ⟨20, 4, 0, (.act 0x100 20)⟩]⟩]
/-- Rows of the CTL registers. -/
def regsCTL0 : List RegRow := [
  -- CTL_STATUS
  ⟨0x80000, 1, 0x4, 1, 0x4, .all, [⟨0, 1, 0, .ro⟩, ⟨1, 1, 0, .ro⟩, ⟨2, 8, 0, .ro⟩, ⟨10, 8, 0, .ro⟩, ⟨24, 8, 0, .ro⟩]⟩,
  -- CTL_FLAGS
  ⟨0x80004, 1, 0x4, 1, 0x4, .all, [⟨0, 8, 0, .w1c⟩, ⟨8, 8, 0, .w1c⟩, ⟨16, 8, 0, .w1c⟩, ⟨24, 1, 0, .w1c⟩]⟩,
  -- CTL_DEBUG
  ⟨0x80008, 1, 0x4, 1, 0x4, .all, [⟨0, 1, 0, .rw⟩, ⟨1, 1, 0, .wo⟩, ⟨8, 8, 0, .rc⟩]⟩,
  -- CTL_COUNT
  ⟨0x8000c, 1, 0x4, 1, 0x4, .all, [⟨0, 16, 0, .rc⟩, ⟨16, 16, 0, .rc⟩]⟩,
  -- CTL_LOOP_CFG
  ⟨0x81000, 8, 0x100, 1, 0x4, .all, [⟨0, 1, 0, .rws⟩, ⟨1, 1, 0, .rws⟩, ⟨2, 3, 0, .rws⟩, ⟨5, 2, 0, .rws⟩, ⟨7, 4, 0, .rws⟩, ⟨11, 2, 0, .rws⟩, ⟨13, 4, 0, .rws⟩, ⟨17, 1, 0, .rws⟩, ⟨18, 1, 0, .rws⟩, ⟨19, 1, 0, .rws⟩]⟩,
  -- CTL_LOOP_SP
  ⟨0x81004, 8, 0x100, 1, 0x4, .all, [⟨0, 16, 0, .rws⟩, ⟨16, 16, 0, .rws⟩]⟩,
  -- CTL_LOOP_SP_LIM
  ⟨0x81008, 8, 0x100, 1, 0x4, .all, [⟨0, 16, 0, .rws⟩, ⟨16, 16, 0, .rws⟩]⟩,
  -- CTL_LOOP_RAMP
  ⟨0x8100c, 8, 0x100, 1, 0x4, .all, [⟨0, 16, 16, .rws⟩, ⟨16, 16, 0, .rws⟩]⟩,
  -- CTL_LOOP_DUTY_LIM
  ⟨0x81010, 8, 0x100, 1, 0x4, .all, [⟨0, 13, 0, .rws⟩, ⟨16, 13, 0, .rws⟩]⟩,
  -- CTL_LOOP_COEF
  ⟨0x81014, 8, 0x100, 7, 0x4, .all, [⟨0, 20, 0, .rws⟩]⟩,
  -- CTL_LOOP_PLANT
  ⟨0x81030, 8, 0x100, 1, 0x4, .all, [⟨0, 16, 0, .rws⟩, ⟨16, 16, 0, .rws⟩]⟩,
  -- CTL_LOOP_CHECK
  ⟨0x81034, 8, 0x100, 1, 0x4, .all, [⟨0, 16, 0, .rws⟩, ⟨16, 8, 4, .rws⟩, ⟨24, 8, 0, .rws⟩]⟩,
  -- CTL_LOOP_CFG_ACT
  ⟨0x81040, 8, 0x100, 1, 0x4, .all, [⟨0, 1, 0, (.act 0x40 0)⟩, ⟨1, 1, 0, (.act 0x40 1)⟩, ⟨2, 3, 0, (.act 0x40 2)⟩, ⟨5, 2, 0, (.act 0x40 5)⟩, ⟨7, 4, 0, (.act 0x40 7)⟩, ⟨11, 2, 0, (.act 0x40 11)⟩, ⟨13, 4, 0, (.act 0x40 13)⟩, ⟨17, 1, 0, (.act 0x40 17)⟩, ⟨18, 1, 0, (.act 0x40 18)⟩, ⟨19, 1, 0, (.act 0x40 19)⟩]⟩,
  -- CTL_LOOP_SP_ACT
  ⟨0x81044, 8, 0x100, 1, 0x4, .all, [⟨0, 16, 0, (.act 0x40 0)⟩, ⟨16, 16, 0, (.act 0x40 16)⟩]⟩,
  -- CTL_LOOP_SP_LIM_ACT
  ⟨0x81048, 8, 0x100, 1, 0x4, .all, [⟨0, 16, 0, (.act 0x40 0)⟩, ⟨16, 16, 0, (.act 0x40 16)⟩]⟩,
  -- CTL_LOOP_RAMP_ACT
  ⟨0x8104c, 8, 0x100, 1, 0x4, .all, [⟨0, 16, 16, (.act 0x40 0)⟩, ⟨16, 16, 0, (.act 0x40 16)⟩]⟩,
  -- CTL_LOOP_DUTY_LIM_ACT
  ⟨0x81050, 8, 0x100, 1, 0x4, .all, [⟨0, 13, 0, (.act 0x40 0)⟩, ⟨16, 13, 0, (.act 0x40 16)⟩]⟩,
  -- CTL_LOOP_COEF_ACT
  ⟨0x81054, 8, 0x100, 7, 0x4, .all, [⟨0, 20, 0, (.act 0x40 0)⟩]⟩,
  -- CTL_LOOP_PLANT_ACT
  ⟨0x81070, 8, 0x100, 1, 0x4, .all, [⟨0, 16, 0, (.act 0x40 0)⟩, ⟨16, 16, 0, (.act 0x40 16)⟩]⟩,
  -- CTL_LOOP_CHECK_ACT
  ⟨0x81074, 8, 0x100, 1, 0x4, .all, [⟨0, 16, 0, (.act 0x40 0)⟩, ⟨16, 8, 4, (.act 0x40 16)⟩, ⟨24, 8, 0, (.act 0x40 24)⟩]⟩,
  -- CTL_LOOP_STATUS
  ⟨0x81080, 8, 0x100, 1, 0x4, .all, [⟨0, 1, 0, .ro⟩, ⟨1, 1, 0, .ro⟩, ⟨2, 1, 0, .ro⟩, ⟨3, 1, 0, .ro⟩, ⟨4, 1, 0, .ro⟩, ⟨5, 1, 0, .ro⟩, ⟨6, 1, 0, .ro⟩, ⟨7, 1, 0, .ro⟩, ⟨8, 1, 0, .ro⟩, ⟨16, 13, 0, .ro⟩]⟩,
  -- CTL_LOOP_MEAS
  ⟨0x81084, 8, 0x100, 1, 0x4, .all, [⟨0, 16, 0, .ro⟩, ⟨16, 16, 0, .ro⟩]⟩,
  -- CTL_LOOP_TARGET
  ⟨0x81088, 8, 0x100, 1, 0x4, .all, [⟨0, 16, 0, .ro⟩, ⟨16, 16, 0, .ro⟩]⟩,
  -- CTL_LOOP_COUNT
  ⟨0x8108c, 8, 0x100, 1, 0x4, .all, [⟨0, 8, 0, .rc⟩, ⟨8, 8, 0, .rc⟩, ⟨16, 8, 0, .rc⟩, ⟨24, 8, 0, .rc⟩]⟩]
/-- Rows of the CTL registers. -/
def regsCTL1 : List RegRow := [
  -- CTL_LVL_CFG
  ⟨0x84000, 128, 0x20, 1, 0x4, .slot, [⟨0, 1, 0, .rws⟩, ⟨1, 16, 0, .rws⟩, ⟨17, 8, 128, .rws⟩]⟩,
  -- CTL_LVL_COEF
  ⟨0x84004, 128, 0x20, 5, 0x4, .slot, [⟨0, 20, 0, .rws⟩]⟩,
  -- CTL_LVL_STATUS
  ⟨0x84018, 128, 0x20, 1, 0x4, .slot, [⟨0, 1, 0, .ro⟩, ⟨1, 1, 0, .ro⟩, ⟨2, 1, 0, .ro⟩, ⟨3, 1, 0, .ro⟩, ⟨16, 16, 64936, .ro⟩]⟩,
  -- CTL_LVL_OUT
  ⟨0x8401c, 128, 0x20, 1, 0x4, .slot, [⟨0, 16, 32768, .ro⟩, ⟨16, 16, 0, .ro⟩]⟩,
  -- CTL_LVL_CFG_ACT
  ⟨0x86000, 128, 0x20, 1, 0x4, .slot, [⟨0, 1, 0, (.act 0x2000 0)⟩, ⟨1, 16, 0, (.act 0x2000 1)⟩, ⟨17, 8, 128, (.act 0x2000 17)⟩]⟩,
  -- CTL_LVL_COEF_ACT
  ⟨0x86004, 128, 0x20, 5, 0x4, .slot, [⟨0, 20, 0, (.act 0x2000 0)⟩]⟩]
/-- Rows of the FLT registers. -/
def regsFLT : List RegRow := [
  -- FLT_STATUS_LO
  ⟨0x90000, 1, 0x4, 1, 0x4, .all, [⟨0, 32, 0, .w1c⟩]⟩,
  -- FLT_STATUS_HI
  ⟨0x90004, 1, 0x4, 1, 0x4, .all, [⟨0, 15, 0, .w1c⟩]⟩,
  -- FLT_LIVE_LO
  ⟨0x90008, 1, 0x4, 1, 0x4, .all, [⟨0, 32, 0, .ro⟩]⟩,
  -- FLT_LIVE_HI
  ⟨0x9000c, 1, 0x4, 1, 0x4, .all, [⟨0, 15, 0, .ro⟩]⟩,
  -- FLT_SEVERE_LO
  ⟨0x90010, 1, 0x4, 1, 0x4, .all, [⟨0, 32, 0, .ro⟩]⟩,
  -- FLT_SEVERE_HI
  ⟨0x90014, 1, 0x4, 1, 0x4, .all, [⟨0, 15, 0, .ro⟩]⟩,
  -- FLT_PIN_LO
  ⟨0x90018, 1, 0x4, 1, 0x4, .all, [⟨0, 32, 0, .ro⟩]⟩,
  -- FLT_PIN_HI
  ⟨0x9001c, 1, 0x4, 1, 0x4, .all, [⟨0, 15, 0, .ro⟩]⟩,
  -- FLT_IRQ_LO
  ⟨0x90020, 1, 0x4, 1, 0x4, .all, [⟨0, 32, 0, .w1c⟩]⟩,
  -- FLT_IRQ_HI
  ⟨0x90024, 1, 0x4, 1, 0x4, .all, [⟨0, 15, 0, .w1c⟩]⟩,
  -- FLT_CLEAR_REFUSED
  ⟨0x90028, 1, 0x4, 1, 0x4, .all, [⟨0, 16, 0, .rc⟩]⟩,
  -- FLT_RESET
  ⟨0x9002c, 1, 0x4, 1, 0x4, .all, [⟨0, 6, 0, .ro⟩, ⟨6, 1, 0, .ro⟩, ⟨8, 8, 0, .rc⟩, ⟨16, 8, 0, .rc⟩, ⟨24, 2, 0, .ro⟩]⟩,
  -- FLT_ALIVE
  ⟨0x90030, 1, 0x4, 1, 0x4, .all, [⟨0, 1, 0, .ro⟩, ⟨1, 1, 1, .ro⟩, ⟨16, 16, 0, .rc⟩]⟩,
  -- FLT_INJECT
  ⟨0x90034, 1, 0x4, 1, 0x4, .all, [⟨0, 1, 0, .wo⟩, ⟨1, 3, 0, .rw⟩, ⟨4, 1, 0, .rw⟩, ⟨5, 8, 0, .rw⟩, ⟨13, 1, 0, .ro⟩]⟩,
  -- FLT_INJ_COUNT
  ⟨0x90038, 1, 0x4, 1, 0x4, .all, [⟨0, 16, 0, .rc⟩, ⟨16, 16, 0, .rc⟩]⟩,
  -- FLT_SRC_CLASS
  ⟨0x91000, 47, 0x40, 1, 0x4, .all, [⟨0, 8, 4, .rws⟩, ⟨8, 16, 500, .rws⟩]⟩,
  -- FLT_SRC_CLASS_ACT
  ⟨0x91004, 47, 0x40, 1, 0x4, .all, [⟨0, 8, 4, (.act 0x4 0)⟩, ⟨8, 16, 500, (.act 0x4 8)⟩]⟩,
  -- FLT_SRC_REACT
  ⟨0x91008, 47, 0x40, 1, 0x4, .all, [⟨0, 5, 1, .rws⟩, ⟨8, 5, 17, .rws⟩]⟩,
  -- FLT_SRC_REACT_ACT
  ⟨0x9100c, 47, 0x40, 1, 0x4, .all, [⟨0, 5, 1, (.act 0x4 0)⟩, ⟨8, 5, 17, (.act 0x4 8)⟩]⟩,
  -- FLT_SRC_FIRST_LO
  ⟨0x91010, 47, 0x40, 1, 0x4, .all, [⟨0, 32, 0, .ro⟩]⟩,
  -- FLT_SRC_FIRST_HI
  ⟨0x91014, 47, 0x40, 1, 0x4, .all, [⟨0, 16, 0, .ro⟩, ⟨16, 12, 0, .ro⟩]⟩,
  -- FLT_SRC_LAST_LO
  ⟨0x91018, 47, 0x40, 1, 0x4, .all, [⟨0, 32, 0, .ro⟩]⟩,
  -- FLT_SRC_LAST_HI
  ⟨0x9101c, 47, 0x40, 1, 0x4, .all, [⟨0, 16, 0, .ro⟩, ⟨16, 12, 0, .ro⟩]⟩,
  -- FLT_SRC_COUNT
  ⟨0x91020, 47, 0x40, 1, 0x4, .all, [⟨0, 16, 0, .ro⟩, ⟨16, 8, 0, .ro⟩, ⟨24, 1, 0, .ro⟩]⟩]
/-- Rows of the LOG registers. -/
def regsLOG : List RegRow := [
  -- LOG_STATUS
  ⟨0xa0000, 1, 0x4, 1, 0x4, .all, [⟨0, 14, 1, .ro⟩, ⟨14, 1, 0, .ro⟩, ⟨15, 7, 0, .ro⟩, ⟨22, 6, 32, .ro⟩, ⟨28, 1, 0, .ro⟩, ⟨29, 1, 0, .ro⟩]⟩,
  -- LOG_CTRL
  ⟨0xa0004, 1, 0x4, 1, 0x4, .all, [⟨0, 1, 0, .wo⟩, ⟨1, 1, 0, .wo⟩, ⟨2, 1, 0, .wo⟩]⟩,
  -- LOG_NEXT_SEQ
  ⟨0xa0008, 1, 0x4, 1, 0x4, .all, [⟨0, 32, 1, .ro⟩]⟩,
  -- LOG_OLDEST_SEQ
  ⟨0xa000c, 1, 0x4, 1, 0x4, .all, [⟨0, 32, 0, .ro⟩]⟩,
  -- LOG_COUNT
  ⟨0xa0010, 1, 0x4, 1, 0x4, .all, [⟨0, 16, 0, .rc⟩, ⟨16, 8, 0, .rc⟩]⟩,
  -- LOG_ECC_COUNT
  ⟨0xa0014, 1, 0x4, 1, 0x4, .all, [⟨0, 16, 0, .rc⟩, ⟨16, 16, 0, .rc⟩]⟩,
  -- LOG_BANK_RETIRED
  ⟨0xa0018, 1, 0x4, 1, 0x4, .all, [⟨0, 32, 0, .ro⟩]⟩,
  -- LOG_IRQ
  ⟨0xa001c, 1, 0x4, 1, 0x4, .all, [⟨0, 3, 6, .rw⟩, ⟨3, 1, 0, .rw⟩, ⟨4, 1, 0, .w1c⟩]⟩,
  -- LOG_RD_SEQ
  ⟨0xa0020, 1, 0x4, 1, 0x4, .all, [⟨0, 32, 0, .rw⟩]⟩,
  -- LOG_RD_DATA
  ⟨0xa0024, 8, 0x4, 1, 0x4, .all, [⟨0, 32, 0, .ro⟩]⟩,
  -- LOG_WITNESS
  ⟨0xa0050, 4, 0x4, 1, 0x4, .all, [⟨0, 9, 0, .ro⟩, ⟨9, 3, 0, .ro⟩, ⟨12, 4, 0, .ro⟩, ⟨16, 5, 0, .ro⟩, ⟨21, 11, 0, .ro⟩]⟩,
  -- LOG_WITNESS_COUNT
  ⟨0xa0060, 1, 0x4, 1, 0x4, .all, [⟨0, 32, 0, .ro⟩]⟩,
  -- LOG_WRAPS
  ⟨0xa0064, 1, 0x4, 1, 0x4, .all, [⟨0, 16, 0, .ro⟩]⟩,
  -- LOG_RATE
  ⟨0xa1000, 512, 0x4, 1, 0x4, .all, [⟨0, 8, 16, .rw⟩, ⟨8, 8, 4, .rw⟩, ⟨16, 16, 0, .ro⟩]⟩]
/-- Rows of the SEC registers. -/
def regsSEC : List RegRow := [
  -- SEC_STATUS
  ⟨0xb0000, 1, 0x4, 1, 0x4, .all, [⟨0, 3, 0, .ro⟩, ⟨3, 1, 0, .ro⟩, ⟨4, 2, 0, .ro⟩, ⟨6, 1, 0, .ro⟩, ⟨7, 1, 0, .ro⟩, ⟨8, 1, 0, .ro⟩, ⟨9, 1, 0, .ro⟩, ⟨10, 2, 0, .ro⟩]⟩,
  -- SEC_SERIAL
  ⟨0xb0004, 2, 0x4, 1, 0x4, .all, [⟨0, 32, 0, .ro⟩]⟩,
  -- SEC_COUNTER
  ⟨0xb000c, 1, 0x4, 1, 0x4, .all, [⟨0, 11, 0, .ro⟩, ⟨16, 5, 0, .ro⟩, ⟨24, 4, 0, .ro⟩]⟩,
  -- SEC_KEY_STATE
  ⟨0xb0010, 1, 0x4, 1, 0x4, .all, [⟨0, 2, 0, .ro⟩, ⟨2, 2, 0, .ro⟩, ⟨4, 2, 0, .ro⟩, ⟨6, 2, 0, .ro⟩, ⟨8, 2, 0, .ro⟩, ⟨10, 2, 0, .ro⟩, ⟨12, 2, 0, .ro⟩, ⟨14, 2, 0, .ro⟩, ⟨16, 2, 0, .ro⟩]⟩,
  -- SEC_CFG
  ⟨0xb0014, 1, 0x4, 1, 0x4, .all, [⟨0, 1, 1, .rwl⟩, ⟨1, 1, 1, .rwl⟩]⟩,
  -- SEC_TOKENS
  ⟨0xb0018, 1, 0x4, 1, 0x4, .all, [⟨0, 7, 0, .ro⟩, ⟨8, 8, 0, .rc⟩, ⟨16, 8, 0, .rc⟩]⟩,
  -- SEC_LAST_VERDICT
  ⟨0xb001c, 1, 0x4, 1, 0x4, .all, [⟨0, 4, 0, .ro⟩, ⟨4, 2, 0, .ro⟩]⟩,
  -- SEC_TOKEN_SEL
  ⟨0xb0020, 1, 0x4, 1, 0x4, .all, [⟨0, 6, 0, .rw⟩, ⟨8, 1, 0, .wo⟩]⟩,
  -- SEC_TOKEN_DIG
  ⟨0xb0024, 2, 0x4, 1, 0x4, .all, [⟨0, 32, 0, .ro⟩]⟩,
  -- SEC_TOKEN_META
  ⟨0xb002c, 1, 0x4, 1, 0x4, .all, [⟨0, 1, 0, .ro⟩, ⟨1, 1, 0, .ro⟩, ⟨2, 1, 0, .ro⟩, ⟨3, 3, 0, .ro⟩, ⟨16, 16, 0, .ro⟩]⟩,
  -- SEC_TOKEN_OP
  ⟨0xb0030, 1, 0x4, 1, 0x4, .all, [⟨0, 32, 0, .ro⟩]⟩,
  -- SEC_TOKEN_TURN_LO
  ⟨0xb0034, 1, 0x4, 1, 0x4, .all, [⟨0, 32, 0, .ro⟩]⟩,
  -- SEC_TOKEN_TURN_HI
  ⟨0xb0038, 1, 0x4, 1, 0x4, .all, [⟨0, 16, 0, .ro⟩]⟩,
  -- SEC_PROV_CTRL
  ⟨0xb0040, 1, 0x4, 1, 0x4, .all, [⟨0, 1, 0, .wo⟩, ⟨1, 1, 0, .ro⟩, ⟨4, 4, 0, .ro⟩]⟩,
  -- SEC_DEBUG
  ⟨0xb0044, 1, 0x4, 1, 0x4, .all, [⟨0, 4, 0, .ro⟩, ⟨4, 4, 0, .ro⟩, ⟨8, 16, 0, .ro⟩]⟩,
  -- SEC_TAMPER
  ⟨0xb0048, 1, 0x4, 1, 0x4, .all, [⟨0, 1, 0, .ro⟩, ⟨1, 1, 0, .ro⟩, ⟨2, 1, 0, .ro⟩, ⟨16, 16, 0, .rc⟩]⟩,
  -- SEC_IRQ
  ⟨0xb004c, 1, 0x4, 1, 0x4, .all, [⟨0, 1, 0, .rw⟩, ⟨1, 1, 0, .w1c⟩, ⟨2, 1, 0, .w1c⟩, ⟨3, 1, 0, .w1c⟩, ⟨4, 1, 0, .w1c⟩]⟩,
  -- SEC_PROV_DATA
  ⟨0xb0100, 64, 0x4, 1, 0x4, .all, [⟨0, 32, 0, .rw⟩]⟩,
  -- SEC_SLOT_CAP
  ⟨0xb1000, 128, 0x4, 1, 0x4, .slot, [⟨0, 16, 1200, .ro⟩, ⟨16, 6, 0, .ro⟩, ⟨22, 1, 1, .ro⟩]⟩]
/-- Rows of the PWR registers. -/
def regsPWR : List RegRow := [
  -- PWR_STATE
  ⟨0xc0000, 1, 0x4, 1, 0x4, .all, [⟨0, 3, 0, .ro⟩, ⟨3, 3, 0, .ro⟩, ⟨6, 2, 1, .ro⟩, ⟨8, 9, 0, .ro⟩]⟩,
  -- PWR_SUPPLY
  ⟨0xc0004, 1, 0x4, 1, 0x4, .all, [⟨0, 1, 0, .ro⟩, ⟨1, 1, 0, .ro⟩, ⟨2, 5, 0, .ro⟩, ⟨16, 8, 0, .rc⟩, ⟨24, 8, 0, .rc⟩]⟩,
  -- PWR_TEMP
  ⟨0xc0008, 1, 0x4, 1, 0x4, .all, [⟨0, 8, 115, .rw⟩, ⟨8, 10, 0, .ro⟩, ⟨18, 2, 0, .ro⟩]⟩]
/-- Rows of the CLK registers. -/
def regsCLK : List RegRow := [
  -- CLK_STATUS
  ⟨0xc000c, 1, 0x4, 1, 0x4, .all, [⟨0, 1, 0, .ro⟩, ⟨1, 1, 0, .ro⟩, ⟨2, 1, 1, .ro⟩]⟩]

/-- The whole map (R14). -/
def regTable : List RegRow :=
  regsID ++ regsHIF0 ++ regsHIF1 ++ regsTB ++ regsAPZ ++ regsPLAN ++ regsCVA ++ regsFAB ++ regsCHZ ++ regsGOUGE ++ regsGRD0 ++ regsGRD1 ++ regsSEQ0 ++ regsSEQ1 ++ regsSEQ2 ++ regsGAU ++ regsPWM0 ++ regsPWM1 ++ regsCTL0 ++ regsCTL1 ++ regsFLT ++ regsLOG ++ regsSEC ++ regsPWR ++ regsCLK

end Sys2Proof.Machine
end

