-- ==== Sys2Proof/Machine/Sparse.lean ====
section
/-! DEFINITION. Maps held as lists of (key, value) pairs in one canonical form: keys strictly rising, and no entry
equal to what an unlisted key reads as. The register store, the Plan fields and the image buffer are such lists. -/
namespace Sys2Proof.Machine

/-- What the map holds at `k`; `d` is what an unlisted key reads as. -/
def sparseGet {α : Type} (d : α) : List (Nat × α) → Nat → α
  | [], _ => d
  | e :: t, k => if e.1 = k then e.2 else sparseGet d t k

/-- Remove every entry at `k`. -/
def sparseErase {α : Type} : List (Nat × α) → Nat → List (Nat × α)
  | [], _ => []
  | e :: t, k => if e.1 = k then sparseErase t k else e :: sparseErase t k

/-- Put `v` at `k`, keeping the keys rising. -/
def sparseInsert {α : Type} : List (Nat × α) → Nat → α → List (Nat × α)
  | [], k, v => [(k, v)]
  | e :: t, k, v =>
    if e.1 = k then (k, v) :: t else if k < e.1 then (k, v) :: e :: t else e :: sparseInsert t k v

/-- Write `v` at `k`: writing the value an unlisted key reads as removes the entry. -/
def sparseSet {α : Type} [DecidableEq α] (d : α) (m : List (Nat × α)) (k : Nat) (v : α) : List (Nat × α) :=
  if v = d then sparseErase m k else sparseInsert m k v

/-- Keys strictly rising. -/
def keysRise {α : Type} : List (Nat × α) → Bool
  | [] => true
  | [_] => true
  | a :: b :: t => decide (a.1 < b.1) && keysRise (b :: t)

/-- The canonical form of a map whose unlisted keys read as `d`. -/
def sparseWf {α : Type} [DecidableEq α] (d : α) (m : List (Nat × α)) : Bool :=
  keysRise m && m.all (fun e => decide (e.2 ≠ d))

end Sys2Proof.Machine
end

