-- ==== Sys2Proof/Config.lean ====
section
/-! DEFINITION. What an implementation fixes, and the free values: results the spec leaves open. Every `opaque` below
has no body, so no proof can see a value of it (log entry 1). -/
namespace Sys2Proof.Config

/-- The internal random-bit generator's nonce number `k`, 256 bits (R328, R343; log entry 1). -/
opaque nonce : Nat → BitVec 256
/-- Which of the healthy banks with room a record goes into, when the spec only says a healthy one (R324; log entry 1). -/
opaque bankPick : Nat → Nat
/-- A byte the spec leaves undefined: bytes of a unit cut off by a link loss (R222; log entry 1). -/
opaque openByte : Nat → Nat

/-- The VCO band and the anti-alias code of the nominal built-in factors, which R48 does not give (log entry 1). -/
opaque nominalBand : Nat → Nat
opaque nominalAaf : Nat → Nat
/-- The DC-offset factor of a converter (DAC n as 32 + n) and the interleave factors of an ADC in the nominal built-in set (log entry 1). -/
opaque nominalOfs : Nat → Int
opaque nominalIl : Nat → List Int
/-- Rounding the spec does not state: whether the value between two steps rounds up (R93, R99 to R101, R121, R123; log
entry 1). -/
opaque roundUp : Nat → Bool
/-- Whether a value that lies midway, or between two steps of a 20-bit sample, goes up (R71, R78; log entry 1). -/
opaque tieUp : Int → Bool
/-- Whether a power ratio between two steps of a reading in dB reads the upper one (R70, R100; log entry 1). -/
opaque roundDb : Nat → Nat → Bool
/-- A captured sample that its 20 bits do not hold (R78; log entry 1). -/
opaque openSample : Int → Nat
/-- The 23-bit probe generator (R90), whose polynomial the spec does not give: its seed from the slot index and the Turn at which the phase
began, and its next state; and the probe sample, in units of 2^-19, that a state gives at a PROBE_LEVEL, a bandwidth and a RATE code (log
entry 1). -/
opaque probeSeed : Nat → Nat → Nat
opaque probeNext : Nat → Nat
opaque probeSample : Nat → Nat → Nat → Nat → Int × Int
/-- An estimate of nothing against nothing, or without a reference power (R100; log entry 1). -/
opaque openRatio : Nat → Nat
/-- The isolation reported in TRACK for taps that are all zero, for which R99 gives no value (log entry 1). -/
opaque openIso : Nat → Nat

/-- How long after its event an unscheduled transition reaches the ports, taken modulo 257 fc (R149; log entry 1). -/
opaque portDelay : Nat → Nat

/-- What an unlisted byte of the image buffer reads as (R178: a load at OFFSET 0 clears the buffer to zero; the
content after power-on is a DESIGN CHOICE, log entry 3). -/
def imageUnlisted : Byte := 0

end Sys2Proof.Config
end

