-- ==== Sys2Proof/Machine/State.lean ====
section
/-! DEFINITION. The state of the GW6432, as plain data, and its value right after power-on reset. Everything the register
map names is in `regs` (and, for staged fields, in the two Plans); the structures hold what the chapters give the
machine beside its registers. -/
namespace Sys2Proof.Machine

/-- Register and Plan fields: a canonical sparse map from `Field.key`; an unlisted field reads its reset value. -/
abbrev FMap := List (Nat × Nat)

/-- Names a descriptor in flight: its submission ring and its place in acceptance order, which no other ever has (R202, R213). -/
abbrev DescKey := Nat × Nat

/-- A start-coefficient record or the taps of a lane as it carries them (R112, R113). -/
structure CoefRec where
  slot : Nat
  taps : Nat
  delay : Nat
  /-- The 32 bytes of its header, whose unread fields still tell records apart (R88). -/
  head : List Byte
  coefs : List (Int × Int)
deriving DecidableEq, Repr

/-- A sync template (R177, Table 7.3). -/
structure Template where
  group : Nat
  index : Nat
  samples : List (Int × Int)
deriving DecidableEq, Repr

/-- A Plan: every RWS field, and the records that have no register (R170, R172). -/
structure Plan where
  flds : FMap
  coefs : List CoefRec
  templates : List Template
  /-- SHA-256 digests of the consent tokens the Plan relies on. -/
  consent : List (List Byte)
  planId : Nat
  gen : Nat
deriving DecidableEq, Repr

/-- A fetched descriptor that has no completion yet (R201, R202). -/
structure Desc where
  sq : Nat
  idx : Nat
  tag : Nat
  opcode : Nat
  flags : Nat
  body : List Byte
  turn : TurnNo
  fc : Nat
  /-- Position in acceptance order over all rings. -/
  order : Nat
  started : Bool
  /-- The completion ring of its submission ring. -/
  cq : Fin 8
deriving DecidableEq, Repr

def Desc.key (d : Desc) : DescKey := (d.sq, d.order)

/-- A completion entry before its ring position and phase are known (Table 8.5). -/
structure Cpl where
  tag : Nat
  sqIndex : Nat
  sq : Nat
  opcode : Nat
  status : Nat
  cause : Nat
  turn : TurnNo
  fc : Nat
  result : Nat
  detail : Nat
  flags : Nat
  /-- FLAGS bit 0 of the descriptor: raise the ring's vector. -/
  irq : Bool
  /-- The completion ring it goes to. -/
  cq : Fin 8
deriving DecidableEq, Repr

/-- What the module puts on the link: the model's own record of it, oldest first. -/
inductive LinkMsg where
  /-- A completion entry written to completion ring `cq` at index `idx`: its bus address and its 32 bytes. -/
  | cpl (cq idx pa : Nat) (bytes : List Byte)
  /-- An MSI-X message of a vector. -/
  | msix (vec : Nat)
  /-- Bytes of a transfer unit written at a bus address. -/
  | data (pa : Nat) (bytes : List Byte)
  /-- The answer to a host read of a register. -/
  | read (off value : Nat)
deriving DecidableEq, Repr

/-- What a data transfer carries (R209, R212). -/
inductive XferKind where
  | planLoad (offset : Nat) (last : Bool)
  | token
  | respond
  /-- A write of ready bytes: counters, Gauge records, a snapshot, a challenge. -/
  | bytes (data : List Byte)
  /-- Records of the log, taken unit by unit from the next number. -/
  | log (next : Nat) (lastSeq : Nat)
  /-- A capture: the records are in the capture engine. -/
  | capture (engine : Nat)
deriving DecidableEq, Repr

/-- A data transfer ready or in progress (R219, R220). -/
structure Xfer where
  sq : Nat
  kind : XferKind
  va : Nat
  len : Nat
  pos : Nat
  order : Nat
  /-- A unit of it has been chosen before. -/
  begun : Bool
  /-- It has been pre-empted since its last unit; the transfer that pre-empted it has faulted, and it resumes at the next boundary (Table
  8.8). -/
  preempted : Bool
  waits : Bool
  /-- Bytes read from host memory so far, for a read transfer that submits them. -/
  got : List Byte
deriving DecidableEq, Repr

/-- The unit on the link: its transfer, its length, its bus address and the table entry it was translated through. -/
structure UnitNow where
  sq : Nat
  order : Nat
  len : Nat
  pa : Nat
  entry : Nat
  bytes : List Byte
  /-- The header of a capture, written last (R209). -/
  header : Bool
deriving DecidableEq, Repr

/-- A slot sample (R70, R72, R82, R95, R115): the channel filter's output d, the residual e in units of 2^-38, the reference x and the
gain stage's output y, with what holds of it: dirty; reached by a clipped source sample; since the sample before, the group was in the slot's
transmit state throughout, the slot was muted, or a DAC it feeds was muted or a combiner saturated; and a transition of the group within the
64 fc before. `gate`, `muted` and `dacOff` say the same of the sample's own moment. -/
structure Samp where
  input : Int × Int
  resid : Int × Int
  ref : Int × Int
  out : Int × Int
  dirty : Bool
  ovr : Bool
  tx : Bool
  near : Bool
  mute : Bool
  dac : Bool
  gate : Bool
  muted : Bool
  dacOff : Bool
  /-- An error of the reference history memory has struck its word: it counts as dirty, and as zero in the subtraction (R107). -/
  refBad : Bool
deriving DecidableEq, Repr

/-- The samples of a slot, newest first, as far back as any window of lags reaches (R83, R120); how many of them are of the last completed
Turn; whether the source words of that Turn carried OVR; and whether, at its end, the slot was muted, and a DAC it feeds. -/
structure Path where
  hist : List Samp
  count : Nat
  srcOvr : Bool
  endMute : Bool
  endDac : Bool
deriving DecidableEq, Repr

/-- A record of a capture (R78): the Turn, fc and epoch of the word or sample it begins with, its OVR and DIRTY, and its bytes. -/
structure CapRec where
  turn : TurnNo
  fc : Nat
  epoch : Nat
  ovr : Bool
  dirty : Bool
  bytes : List Byte
deriving DecidableEq, Repr

/-- A capture on one engine (R77 to R80). -/
structure Capture where
  engine : Nat
  sq : Nat
  order : Nat
  addr : Nat
  point : Nat
  kind : Nat
  trigTurn : TurnNo
  want : Nat
  pre : Nat
  timeout : Nat
  armed : TurnNo
  /-- The engine's route is in force, from the first boundary after acceptance (R60): it records from this time on. -/
  from_ : Option Nat
  /-- The trigger's Turn and fc, once it has occurred. -/
  trig : Option (TurnNo × Nat)
  /-- Records kept, oldest first: the most recent PRE_RECORDS before the trigger; how many precede it. -/
  recs : List CapRec
  before : Nat
  /-- Samples of a baseband block not yet full, with what a record of each alone would say; and the time up to which the point is
  recorded. -/
  part : List (CapRec × Int × Int)
  upto : Nat
  ended : Bool
  truncated : Bool
  late : Bool
deriving DecidableEq, Repr

/-- An entry of the Host Window Table (R216): pages are numbers of 64 KiB. -/
structure HwtEntry where
  va : Nat
  pa : Nat
  big : Bool
  rd : Bool
  wr : Bool
  v : Bool
deriving DecidableEq, Repr

/-- The Host Interface beside its registers. -/
structure Hif where
  inflight : List Desc
  nextOrder : Nat
  held : List Cpl
  xfers : List Xfer
  cur : Option UnitNow
  /-- Acceptance order of the transfer whose unit was last on the link (R220). -/
  lastOrder : Nat
  captures : List Capture
  /-- Doorbell-area reads issued and not yet answered (R197). -/
  dbReads : Nat
  /-- Ring served last, per priority 0 to 3 (R201). -/
  served : List Nat
  /-- Per completion ring: completions since its last message, and the Turn of the first unsignalled one. -/
  coal : List (Nat × Option TurnNo)
  hwt : List (Nat × HwtEntry)
  /-- The entry an INVALIDATE waits on (R218). -/
  draining : Option Nat
  /-- The block is held in reset by PERST_N. -/
  perst : Bool
deriving DecidableEq, Repr

/-- An event on its way to the recorder (R313 without its number). -/
structure Evt where
  code : Nat
  sev : Nat
  unit : Nat
  payload : List Byte
deriving DecidableEq, Repr

/-- A record of the log (Table 13.1), with the bank it lies in. -/
structure LogRec where
  seq : Nat
  evt : Evt
  queued : Bool
  prot : Bool
  suppressed : Nat
  bank : Nat
deriving DecidableEq, Repr

/-- The Event Recorder beside its registers. -/
structure Log where
  /-- Records held, in order of writing. -/
  recs : List LogRec
  /-- The holding queue of a freeze: the event and its SUPPRESSED count (R320). -/
  queue : List (Evt × Nat)
  /-- Events lost from the queue since the freeze. -/
  lost : Nat
  /-- Tokens taken from each code's bucket since it was full; unlisted 0 (R318). -/
  spent : List (Nat × Nat)
  /-- LOG_CTRL requests due at the next boundary (R322). -/
  clearReq : Bool
  freezeReq : Bool
  thawReq : Bool
  /-- Turn of the last thaw, whose TURN_MARK stands for one falling due at that boundary (Table 13.4). -/
  thawTurn : Option TurnNo
deriving DecidableEq, Repr

/-- Blocks that a BLOCK_RESET reaction can reset (Table 12.1). -/
inductive Block where
  | converters | fabric | gouge | sequencer | gauge | pwm | control | hif | apzer
deriving DecidableEq, Repr

/-- The Fault Collector beside its registers. -/
structure Flt where
  /-- Source events raised by the blocks and not yet at the collector. -/
  raised : List Nat
  /-- Turn at which the open window of a source started. -/
  winStart : List (Nat × Nat)
  /-- Blocks held in reset now. -/
  held : List Block
  /-- Blocks to be held from the next boundary. -/
  holdNext : List Block
  /-- Turns of the last three chip resets the collector caused (R305). -/
  resets : List TurnNo
  /-- A chip reset is waiting for the descriptors in flight to end: its source. -/
  chipReset : Option Nat
  /-- A SAFE entry in place of a suppressed chip reset is due at the next boundary (R305). -/
  safeDue : Bool
  /-- When a source last latched (R79). -/
  latchAt : Option Nat
deriving DecidableEq, Repr

/-- A pending swap (R184, R185). -/
structure Swap where
  mode : Nat
  target : TurnNo
  /-- The PLAN_SWAP descriptor; none for the swap of an autonomous start. -/
  desc : Option DescKey
  accepted : TurnNo
  /-- Validation has begun: the boundary after acceptance has passed. -/
  validating : Bool
  /-- Validation has ended: the Turn and fc at which it did, and the refusal if any (code, item, OFS_LO). -/
  ended : Option (TurnNo × Nat × Option (Nat × Nat × Nat))
  /-- The Chuck's verdict is final and the swap commits at the next boundary. -/
  commit : Bool
deriving DecidableEq, Repr

/-- Where an image under parse came from. -/
inductive ParseFrom where
  | load (d : DescKey)
  | flash (image : Nat)
  /-- The PLAN_LOAD was ended by a reset; the parse goes on (Table 8.9). -/
  | orphan
deriving DecidableEq, Repr

/-- Plan control beside its registers. -/
structure PlanCtl where
  swap : Option Swap
  parsing : Option ParseFrom
  /-- A passed parse waiting for the boundary (R179). -/
  replace : Option (Plan × ParseFrom)
  /-- PLAN_CTRL effects due at the next boundary. -/
  copyActive : Bool
  clearShadow : Bool
  flashLoad : Bool
  /-- The image buffer: canonical, an unlisted byte reads `Config.imageUnlisted`. -/
  image : List Host.Cell
  /-- Words (byte offset / 4) of the image buffer with an uncorrectable error (R173). -/
  imageBad : List Nat
  /-- A copy of the Active Plan waits for its repair at the next boundary. -/
  repair : Bool
  /-- Both copies are bad: SAFE at the next boundary. -/
  activeLost : Bool
  /-- ACTIVE_VALID is 0 after R173: the SAFE cause PLAN (R356). -/
  lost : Bool
deriving DecidableEq, Repr

/-- Autonomous start or a FLASH_LOAD in progress (R190). -/
inductive FlashStage where
  | idle
  /-- Reading the header. -/
  | header
  /-- Reading the tokens; the Chuck may still be deciding them. -/
  | tokens (count imgA imgB : Nat)
  /-- Reading the image headers. -/
  | heads (imgA imgB : Nat)
  /-- Reading an image (0 A, 1 B), with the other to fall back on. -/
  | image (which : Nat) (other : Option Nat)
  /-- Parsing it. -/
  | parse (which : Nat) (other : Option Nat)
  | swap
  | leaving
  | calAll
deriving DecidableEq, Repr

structure Flash where
  stage : FlashStage
  /-- The sequence goes on to swap and leave STANDBY (flash start), or only loads (FLASH_LOAD). -/
  autostart : Bool
  /-- The module entered RELAY by flash start (R363). -/
  reachedRelay : Bool
  /-- Tokens of the flash with the Chuck and not yet decided. -/
  tokensLeft : Nat
deriving DecidableEq, Repr

/-- An operation with the Chuck (R330). -/
inductive SecOp where
  /-- A token or withdrawal record: from a descriptor, or number `i` of the flash. -/
  | token (rec : List Byte) (desc : Option DescKey) (flash : Option Nat)
  | prov (rec : List Byte)
  | respond (rec : List Byte) (desc : Option DescKey)
deriving DecidableEq, Repr

/-- A held consent token (R335, R337). -/
structure Token where
  index : Nat
  digest : List Byte
  keySlot : Nat
  dl : Bool
  ul : Bool
  operator : Nat
  version : Nat
  serialLo : Nat
  serialHi : Nat
  maxGain : Int
  maxLevel : Int
  nrLimit : Int
  /-- Ranges in kHz: (uplink, lower, upper). -/
  ranges : List (Bool × Nat × Nat)
  acceptTurn : TurnNo
deriving DecidableEq, Repr

/-- A consumed provisioning row (R331). -/
structure OtpRow where
  committed : Bool
  action : Nat
  slot : Nat
  keyHash : List Byte
deriving DecidableEq, Repr

/-- The one-time-programmable memory (Table 14.2). -/
structure Otp where
  serial : Nat
  rootHash : List Byte
  rows : List OtpRow
  /-- Consent-counter bits burned. -/
  counter : Nat
deriving DecidableEq, Repr

/-- A debug challenge (Table 14.8). -/
structure Challenge where
  nonce : BitVec 256
  turn : TurnNo
deriving DecidableEq, Repr

/-- The Chuck beside its registers. -/
structure Sec where
  otp : Otp
  ops : List SecOp
  /-- A withdrawal that has passed its checks burns towards this version (R340). -/
  burning : Option Nat
  /-- A provisioning record that has passed its checks is being written into its row. -/
  committing : Bool
  tokens : List Token
  challenge : Option Challenge
  nonces : Nat
  /-- The open session: its grants and the Turn at which it opened, with its DURATION. -/
  session : Option (Nat × TurnNo × Nat)
  /-- Level cap L of each slot, units of 0.05 dB; unlisted +60.00 dB (R339). -/
  levelCap : List (Nat × Int)
  /-- Withdrawals accepted since the last boundary whose TOKEN_SUBMIT completes at it. -/
  withdrawn : List DescKey
  /-- Digests of consent tokens the Chuck has seen and knows to be withdrawn: erased by a withdrawal, or refused for their
  VERSION (Table 7.4, WITHDRAWN). -/
  gone : List (List Byte)
  /-- Instruction now in force in the JTAG instruction register. -/
  jtag : JtagKind
  /-- Provisioning rows found torn and not yet recorded (R331). -/
  torn : List Nat
deriving DecidableEq, Repr

/-- A STATE_REQUEST that waits (R210). -/
structure StateReq where
  target : Nat
  desc : Option DescKey
deriving DecidableEq, Repr

/-- Power, clocks and spindle beside their registers. -/
structure Pwr where
  /-- The request being carried out. -/
  req : Option StateReq
  /-- A state change at the next boundary: the new state and the cause for its record (0xFF a request). -/
  next : Option (Nat × Nat)
  /-- Synthesisers are starting: STANDBY is being left. -/
  leaving : Bool
  /-- OFF: POR is asserted, or the module is held in reset by RESET_N. -/
  off : Bool
  por : Bool
  resetLow : Bool
  /-- The start-up sequence is running. -/
  starting : Bool
  /-- Turns since the kill went away, with KILL_RESUME (R135). -/
  killClear : Nat
  killPin : Bool
  /-- After a loss of REFCLK met in LISTEN or RELAY: Turns since both synthesisers were LOCKED again (R363). -/
  recover : Option Nat
  /-- The state to return to (PREV at SAFE entry). -/
  before : Nat
  /-- REFCLK is lost: the spindle is frozen (R362). -/
  clkLost : Bool
  /-- SAFE causes that have arisen since the last boundary, a bit each (R356). -/
  safeDue : Nat
  straps : Nat
deriving DecidableEq, Repr

/-- The Apzer Link beside its registers. -/
structure Apz where
  /-- MARK, COUNT, EPOCH, HOP and DELAY frames of the Turn in progress on input 0: arrival fc of MARK in 1/16 fc, the
  sender's low count bits, count and epoch pieces received (mask and value), hop byte, delay pieces. -/
  markAt : Option Nat
  markCount : Nat
  countBits : Nat
  countMask : Nat
  epochBits : Nat
  epochMask : Nat
  hop : Option Nat
  delayBits : Nat
  delayMask : Nat
  /-- Consecutive complete Turns received from an aligned sender. -/
  goodTurns : Nat
  /-- Consecutive Turns with the boundary difference above 2 fc. -/
  offTurns : Nat
  /-- Consecutive Turns a LEADER has received aligned MARKs. -/
  conflictTurns : Nat
  conflict : Bool
  noLeader : Bool
  /-- Turns spent ACQUIRING with APZ_IN0 up and no aligned sender. -/
  acqTurns : Nat
  /-- Valid frames in a row, and invalid frames this Turn, for each input. -/
  valid : List (Nat × Nat)
  invalid : List (Nat × Nat)
  /-- Round-trip measurements in 1/16 fc, newest first, at most 16 (R368). -/
  trips : List Nat
  /-- The last valid frame of each input carried KILL (R372). -/
  killed : List (Nat × Bool)
  /-- When the kills of the pin, APZ_IN0 and APZ_IN1 last began: each is sent in 4 frames at least. -/
  onset : List (Nat × Option Nat)
  /-- When the last valid frame of each input came, as `State.now` counts (R373). -/
  heard : List (Nat × Nat)
deriving DecidableEq, Repr

/-- A synthesiser beside its registers (R43, R44). -/
structure SynthX where
  /-- The acquisition follows a loss of lock, which has been signalled. -/
  lost : Bool
  /-- OSC found no band: no attempt until STANDBY is next left (R50). -/
  oscFailed : Bool
  /-- Streams aligned since the last lock. -/
  aligned : Bool
  lockedAt : TurnNo
deriving DecidableEq, Repr

/-- A foreground calibration (R45 to R51). -/
structure Cal where
  code : Nat
  adc : Nat
  dac : Nat
  synth : Nat
  desc : Option DescKey
  start : TurnNo
  /-- Its measurements have ended; it commits at the next boundary. -/
  ended : Option (Factors × CalFails)
deriving DecidableEq, Repr

/-- The converter array beside its registers. -/
structure Cva where
  synth : List (Nat × SynthX)
  /-- The calibration store (R48); none is empty. -/
  store : Option Factors
  /-- The authenticated sealed factory set. -/
  sealedSet : Option Factors
  cal : Option Cal
  /-- Over-range Turns among the last 256, a bit each, newest lowest; unlisted 0 (R39). -/
  ovr : List (Nat × Nat)
  /-- Turn at which a swap enabled a converter (DAC n as 32 + n), until it settles (R187). -/
  settle : List (Nat × Nat)
  /-- Turn of an ADC's last tracked update (R52). -/
  tracked : List (Nat × Nat)
  /-- The interleave factors as last calibrated or loaded, per ADC: what a tracked update's 1/16 is taken of (R52). -/
  ilCal : List (List Int)
  /-- In this Turn: since when the words of a die's ADCs are dirty (R44, R54, R61); from when, and until when if that is over, they are
  zeros, its synthesiser being out of lock (R59); and when a DAC was muted. -/
  badAt : List (Nat × Nat)
  zeros : List (Nat × Nat × Option Nat)
  muteAt : List (Nat × Nat)
deriving DecidableEq, Repr

/-- A migration to a spare tile (R75). -/
structure TileMig where
  slot : Nat
  fail : TurnNo
  /-- When the tile failed. -/
  since : Nat
  spare : Option Nat
  /-- The copied history failed its check. -/
  bad : Bool
  /-- A swap changed the slot meanwhile: it restarts when the migration ends. -/
  restart : Bool
deriving DecidableEq, Repr

/-- A SLOT_GAIN that waits for its boundary (R207). -/
structure GainReq where
  desc : DescKey
  slot : Nat
  gain : Int
  due : TurnNo
deriving DecidableEq, Repr

/-- The fabric and channeliser beside their registers. -/
structure Fab where
  /-- Spare tile serving a slot; unlisted is the home tile. -/
  tiles : List (Nat × Nat)
  migs : List TileMig
  /-- Turn of a tile's last uncorrectable memory error (R74). -/
  ecc : List (Nat × Nat)
  /-- Coefficient repair per slot: 0 reload due, 1 reloaded and verified, 2 a reload due that will fail, its check bits inverted by an
  injection (R74, R309). -/
  coef : List (Nat × Nat)
  /-- Dovetails slipped, and those re-centred whose DIRTY marking ends at the next boundary (R61). -/
  slipped : List Nat
  recentred : List Nat
  /-- Merge points that saw unequal stamps this Turn, and consecutive such Turns of each (R62). A slot's tile is the slot
  index; combiner k is 128 + k; an emission channel 160 + c; a mismatch channel 192 + m. -/
  mergeNow : List Nat
  mergeRun : List (Nat × Nat)
  /-- Turn at which a filling tile started (R73). -/
  fill : List (Nat × Nat)
  /-- Gain asked for a slot, before the limits of step 3, and staged for the next boundary; unlisted −600. -/
  want : List (Nat × Int)
  next : List (Nat × Int)
  gains : List GainReq
  /-- GAIN requests to complete at the next boundary, each with its slot, and what the slot would have without it: the gain asked
  for before, and that gain as staged. -/
  gainDone : List (DescKey × Nat × Int × Int)
  /-- Slots muted for want of a spare; the level cap L is the Chuck's (Sec.levelCap). -/
  noSpare : List Nat
  /-- When a slot was muted in this Turn. -/
  muteAt : List (Nat × Nat)
  /-- Dirty marks of slots, in converter samples since reset: slot, from, to, and whether OVR made it (R72, R73). -/
  marks : List (Nat × Nat × Nat × Bool)
  /-- Words of an ingress lane of this Turn that an error made dirty, and zeros as well where it lost their content: port, time (R25,
  R63). -/
  badWords : List (Nat × Nat × Bool)
  /-- Merge points that saw unequal stamps in this Turn, with the time (R62). -/
  mergeAt : List (Nat × Nat)
  /-- Capture ports with a route in force, and its ingress port; none for a baseband point (R60). -/
  capRoute : List (Nat × Option Nat)
  paths : List (Nat × Path)
deriving DecidableEq, Repr

/-- A slot's Gouge beside its registers. -/
structure GgSlot where
  /-- Taps in force, and taps staged for the next boundary, in units of 2^-19. -/
  taps : List (Int × Int)
  staged : Option (List (Int × Int))
  delay : Nat
  /-- Turn at which the probe phase began: seeds the probe with the slot index (R90). -/
  phaseStart : TurnNo
  /-- Valid Turns of the present phase. -/
  validTurns : Nat
  /-- Isolation measured by the delay search. -/
  searchIso : Option Nat
  frozenRun : Nat
  /-- The step of this Turn is frozen. -/
  frozen : Bool
  /-- C_REP is 0 in this Turn (R98, R107). -/
  zeroRep : Bool
  /-- Residual and input power of the last 16 valid Turns; tap energies of the last 64 (R102). -/
  powers : List (Nat × Nat)
  energies : List Nat
  satRun : Nat
  /-- Taps are to be restored at the next boundary; a divergence is the cause. -/
  restore : Bool
  diverged : Bool
  /-- Valid Turns since the last restore after a divergence. -/
  sinceRestore : Option Nat
  /-- An indicator has fired since the last checkpoint (R103). -/
  indicator : Bool
  ckptTaps : List (Int × Int)
  ckptDelay : Nat
  /-- REPROBE at the next boundary: from zero, and whether it is the Guard's own request (R110, R130). -/
  reprobe : Option (Bool × Bool)
  /-- The next record is the first of a newly enabled slot (R99). -/
  first : Bool
  /-- The record in the fc 0 snapshot: ISO, C_REP, VALID. -/
  snap : Nat × Nat × Bool
  /-- START as it was when the lane started (R88); VALID has been 1 since (R101). -/
  startBit : Bool
  wasValid : Bool
  /-- The 23-bit probe generator (R90). -/
  lfsr : Nat
  /-- Δh of the last valid Turns of R100, newest first: per tap a numerator, over one denominator. -/
  misalign : List (List (Int × Int) × Nat)
  /-- An uncorrectable accumulator error has frozen this Turn (R107). -/
  eccFrozen : Bool
  /-- `validTurns` when a checkpoint last fell due (R103). -/
  ckptDue : Nat
deriving DecidableEq, Repr

/-- A migration to a spare lane (R108). -/
structure LaneMig where
  slot : Nat
  /-- Turn of the failure, or of the last failed self-check. -/
  fail : TurnNo
  spare : Option Nat
  /-- Restarts of the tile and of the lane that a swap asks for meanwhile, and whether it newly enables the slot. -/
  tile : Bool
  lane : Bool
  first : Bool
deriving DecidableEq, Repr

/-- The Gouge beside its registers. -/
structure Gouge where
  slots : List (Nat × GgSlot)
  lanes : List (Nat × Nat)
  migs : List LaneMig
  /-- Turn of a lane's last uncorrectable accumulator error (R107). -/
  ecc : List (Nat × Nat)
  noSpare : List Nat
  /-- A snapshot accepted and not yet copied: its descriptor, slots, address, and acceptance Turn (R111). -/
  snap : Option (DescKey × List Nat × Nat × TurnNo)
  /-- Turn of the last snapshot copy. -/
  copyAt : Option TurnNo
  /-- FREEZE bits in force. -/
  hostFreeze : List Nat
  /-- Restarts (slot, tile, lane, newly enabled) due at the boundary after a lane migration. -/
  restarts : List (Nat × Bool × Bool × Bool)
deriving DecidableEq, Repr

/-- A slot's Guard state beside its registers (R131). -/
structure GdSlot where
  /-- BACKOFF in 0.1 dB, the end of its hold while one runs, and whether it is falling. -/
  backoff : Nat
  boEnd : Option TurnNo
  falling : Bool
  /-- Detectors that triggered the back-off: bit 0 warning, 1 noise, 2 emission; those whose condition has been present ever since; and the
  Turn from which it is in force. -/
  boBy : Nat
  cont : Nat
  boAt : TurnNo
  /-- End of a step-2 mute, and whether an oscillation verdict caused a mute not yet released. -/
  muteEnd : Option TurnNo
  oscMute : Bool
  /-- A mute staged for fc 768: by oscillation, or not. -/
  stageMute : Option Bool
  /-- Back-off staged for the next boundary, by detector bits; and what the last boundary applied. -/
  stageBo : Nat
  lastBo : Nat
  warnCnt : Nat
  /-- Block ends above NR_LIMIT in a row, OUT_LEVEL of the block in progress, and the last 64 block sums. -/
  nrCnt : Nat
  nrBlock : List Int
  nrSums : List Int
  /-- Valid Turns of violation in a row since an emission back-off (R129). -/
  emCnt : Nat
  dlBelow : Nat
  dlAbove : Nat
  inLoss : Bool
  /-- OUT_LEVEL of the last 64 valid Turns under no Guard action, newest first (R120). -/
  ref : List Int
  /-- Turns of oscillation verdicts within ESC_WINDOW. -/
  oscAt : List TurnNo
  /-- Turn of the last overrun; muted for two in a row; an evaluation has completed since (R23). -/
  overranAt : Option TurnNo
  ovrMute : Bool
  ovrEnd : Bool
  /-- The Turn whose evaluation last found a detector condition (R133). -/
  cond : Option TurnNo
  /-- A step of Table 5.2 was in force in the Turn just ended (R120). -/
  acted : Bool
deriving DecidableEq, Repr

/-- The Guard beside its registers. -/
structure Grd where
  slots : List (Nat × GdSlot)
  /-- Ends of the direction mutes (DL, UL) and the all-mute in force. -/
  dirEnd : List (Bool × TurnNo)
  allEnd : Option TurnNo
  /-- Turns of direction-mute and all-mute entries. -/
  dirAt : List (Bool × TurnNo)
  allAt : List TurnNo
  /-- A granted clear keeps every slot muted until SAFE is left (R133). -/
  cleared : Bool
  clearReq : Bool
  /-- Turn whose interrupt message has been sent (R411). -/
  irqAt : Option TurnNo
  /-- Turn in which a DL slot last entered donor loss. -/
  lossAt : Option TurnNo
  /-- A latched shutdown takes the module into SAFE at the next boundary. -/
  safeDue : Bool
  /-- Violating valid Turns in a row, per emission channel; unlisted 0. -/
  emCnt : List (Nat × Nat)
  /-- The evaluation that last found a violation on a channel: its Turn (R133). -/
  emAt : List (Nat × TurnNo)
  /-- Slots on which an action began, each with the time at which the last did (R79). -/
  begun : List (Nat × Nat)
deriving DecidableEq, Repr

/-- What a Gauge sequence is doing (R236). -/
inductive GauSeq where
  | idle
  /-- Counting its DELAY, which ends at `due`. -/
  | delay (due : Nat)
  /-- Its delay ended during an injected conversion. -/
  | late
  /-- Converting an entry. -/
  | run (entry : Nat)
deriving DecidableEq, Repr

/-- A Gauge converter beside its registers; times in fc since reset. -/
structure GauX where
  seq : GauSeq
  inj : Option Nat
  /-- End of the conversion in progress. -/
  endAt : Nat
  /-- Start of a running self-calibration. -/
  cal : Option Nat
  lastEnd : Option Nat
  lastOvr : Bool
  /-- The conversion in progress will carry SETTLING (R238); its result is discarded (R245). -/
  settling : Bool
  discard : Bool
  /-- A conversion of the sequence before a swap is finishing (R245). -/
  tail : Bool
  /-- The sequence has not started since it was changed or the converter was calibrated. -/
  fresh : Bool
  /-- A PWM trigger waits; the boundary count of the last Turn trigger taken. -/
  trig : Bool
  turnTrig : Option Nat
  /-- Partial sums per entry with their OVR and SETTLING; unlisted 0. -/
  sums : List (Nat × (Nat × Bool × Bool))
deriving DecidableEq, Repr

/-- One Drive PWM output (2n is DRVnA, 2n + 1 is DRVnB). -/
structure PwmOut where
  level : Bool
  /-- Time of its last change. -/
  since : Nat
  /-- A rise under carrier control, or into MSTATE HIGH, is due at this time; a fall that a fine delay puts off is. -/
  rise : Option Nat
  fall : Option Nat
  /-- A masked output enters its masked state at this time; it has entered it. -/
  enter : Option Nat
  inMask : Bool
  /-- Released, and waiting for its next carrier-driven edge (R262). -/
  resume : Bool
deriving DecidableEq, Repr

/-- A Drive PWM pair: its configuration in use, P, when P last fell, how R252 alters the present period (0 not, 1 P low, 2 P high,
3 output B low), and which compares the last load has clamped. -/
structure PwmPair where
  en : Bool
  owner : Bool
  minOn : Nat
  minOff : Nat
  msA : Nat
  msB : Nat
  tsA : Bool
  tsB : Bool
  p : Bool
  fell : Nat
  mode : Nat
  clampA : Bool
  clampB : Bool
deriving DecidableEq, Repr

/-- A compare match that is due, with its edge of P, which one of a period already over has made, and its event; a clamped compare has its
event at the top (R269). -/
structure PwmMatch where
  pair : Nat
  isB : Bool
  at_ : Nat
  edge : Bool
  event : Bool
deriving DecidableEq, Repr

/-- The Drive PWM beside its registers; times in fc since reset. -/
structure Pwm where
  nextZero : Nat
  nextTop : Option Nat
  /-- STANDBY has been entered: the counter stops at the next zero (R268). -/
  stopping : Bool
  frozenAt : Option Nat
  outs : List (Nat × PwmOut)
  pairs : List (Nat × PwmPair)
  matches_ : List PwmMatch
  /-- Trips in force. -/
  trips : List Nat
  irqCnt : Nat
  /-- Per trigger line: events counted, and the end of its DELAY. -/
  lines : List (Nat × Nat × Option Nat)
  /-- Lines that have raised a trigger in this Turn. -/
  raised : Nat
  /-- Mask actions due: mask, assert or release, time. -/
  due : List (Nat × Bool × Nat)
  /-- What was sampled for a carrier zero whose time has come, once something has been written after it (R255): the armed bits, the staged
  values and the pairs' configuration; and the bits armed since. -/
  sampled : Option (Nat × List Nat × List PwmPair)
  armed : Nat
deriving DecidableEq, Repr

/-- A supply loop beside its registers: e and u in units of 2^-32 (R277). -/
structure LoopX where
  started : Bool
  /-- Feedback sums completed and not yet used: SUM, N, OVR, and when each completed. -/
  samples : List (Nat × Nat × Bool × Nat)
  /-- Last clean feed-forward measurement; the latest carried OVR. -/
  ff : Option Nat
  ffOvr : Bool
  /-- A clean feed-forward measurement has completed since the loop started (R278). -/
  ffNew : Bool
  e1 : Int
  e2 : Int
  e3 : Int
  u1 : Int
  u2 : Int
  u3 : Int
  /-- Last SUPPLY_SETPOINT since the Plan became active. -/
  host : Option Nat
  /-- y_pred in units of 2^-32. -/
  pred : Int
  /-- Runs since the loop started. -/
  age : Nat
  plRun : Nat
  satRun : Nat
  /-- The next start follows a block reset: T is then the host target (R410). -/
  keepT : Bool
deriving DecidableEq, Repr

/-- A slot level loop beside its registers, in units of 2^-32 dB (R289). -/
structure LvlX where
  g1 : Int
  g2 : Int
  e1 : Int
  e2 : Int
  /-- No valid Turn since the start. -/
  first : Bool
  /-- The loop has run, or overrun, in this Turn. -/
  ran : Bool
  overr : Bool
  startAt : TurnNo
deriving DecidableEq, Repr

/-- The Control Engine beside its registers. -/
structure Ctl where
  loops : List (Nat × LoopX)
  lvls : List (Nat × LvlX)
  /-- Halt, or one Turn of stepping, from the next boundary; stepping now. -/
  haltReq : Bool
  stepReq : Bool
  stepping : Bool
deriving DecidableEq, Repr

/-- A duplex group beside its registers; times in fc since reset. -/
structure SeqGroup where
  /-- The frame runs; the start of the present frame, and the move due at the next one (R145). -/
  running : Bool
  frameAt : Int
  shift : Int
  /-- Start of the present stay in DL or UL (TDD). -/
  stay : Nat
  /-- No transmit interval that starts before this time is taken. -/
  resumeAt : Option Nat
  /-- References in a row that agree, and outliers in a row that agree, newest first. -/
  acq : List Int
  outs : List Int
  /-- A frame start to follow once the present interval has ended (R145). -/
  anchor : Option Int
  /-- Transitions of the halves, newest first: half, port time, state left, state entered (R95, R115). -/
  moves : List (Nat × Nat × Nat × Nat)
deriving DecidableEq, Repr

/-- Who issued an RFFE command: the schedule (command `i`, issued at a time), a tuner's port with its code, or the host. -/
inductive RffeSrc where
  | sched (i issue : Nat)
  | tuner (port code : Nat)
  | host
deriving DecidableEq, Repr

/-- An RFFE command as it was issued: its KIND (0 Register 0 Write, 1 Register Write, 2 Register Read, 3 Extended Write, 4 Extended Read)
with its slave, address and data (R157). -/
structure RffeCmd where
  src : RffeSrc
  kind : Nat
  usid : Nat
  addr : Nat
  data : Nat
deriving DecidableEq, Repr

structure RffeBus where
  /-- The command in progress, whether a read-back follows it, and when it ends (R157, R158). -/
  cur : Option (RffeCmd × Bool × Nat)
  /-- Scheduled commands issued ahead of a transition that is yet to come: index and the transition's time. -/
  early : List (Nat × Nat)
  /-- Scheduled commands that fall due: index and time. -/
  due : List (Nat × Nat)
  waiting : List RffeCmd
deriving DecidableEq, Repr

/-- A tuner search (R165). -/
structure Search where
  port : Nat
  start : Nat
  /-- Code in use when it began. -/
  code0 : Nat
  /-- Candidates left, and the one being measured. -/
  left : List Nat
  cand : Nat
  /-- The candidate's write has ended; it failed. -/
  written : Bool
  failed : Bool
  /-- Valid Turns since the write, and the sum of RL over those measured (0.01 dB). -/
  count : Nat
  sum : Int
  /-- Best code and its RL, as a sum over `n` Turns. -/
  best : Nat
  bestSum : Int
  bestN : Nat
deriving DecidableEq, Repr

/-- A mismatch channel beside its registers. -/
structure MmX where
  /-- Boundary count at the start of the dwell. -/
  dwell : Nat
  low : Nat
  /-- Last measured RL in 0.01 dB; and per port the last RL of its code, as a sum over so many Turns. -/
  rl : Int
  rls : List (Nat × Int × Nat)
  search : Option Search
deriving DecidableEq, Repr

/-- A diversity pair beside its registers. -/
structure DivX where
  better : Nat
  /-- Bursts since the last switch. -/
  bursts : Option Nat
deriving DecidableEq, Repr

/-- The Radio Sequencer beside its registers. -/
structure Seq where
  groups : List (Nat × SeqGroup)
  /-- Pending edges of FE pins: pin, level, time. -/
  edges : List (Nat × Bool × Nat)
  /-- Time of the last accepted SYNC_IN edge. -/
  syncEdge : Option Nat
  buses : List (Nat × RffeBus)
  divs : List (Nat × DivX)
  mms : List (Nat × MmX)
  /-- S ports to mute, and to retry, at the next boundary. -/
  muteNext : List Nat
  retryNext : List Nat
  /-- S ports whose combiner a search attenuates in this Turn, and in the Turn before (R165). -/
  attn : List Nat
  searched : List Nat
deriving DecidableEq, Repr

/-- A staged configuration effect of a descriptor, due at a boundary (R205). -/
inductive Effect where
  | setpoint (loop target : Nat)
  | logClear
  | logFreeze
  | logThaw
  | counterRead (first count va : Nat)
  | gaugeRead (entries va : Nat)
  | calRun (code adc dac synth : Nat)
deriving DecidableEq, Repr

structure Staged where
  desc : DescKey
  due : TurnNo
  eff : Effect
deriving DecidableEq, Repr

/-- The state of the module. -/
structure State where
  variant : Variant
  turn : TurnNo
  epoch : BitVec 16
  /-- Position in the Turn, 0 to 3,071. -/
  fc : Nat
  regs : FMap
  /-- Upper words latched by a read of their low word (R12): register offset and value. -/
  latches : List (Nat × Nat)
  active : Plan
  shadow : Plan
  plan : PlanCtl
  flash : Flash
  hif : Hif
  staged : List Staged
  linkOut : List LinkMsg
  evOut : List Evt
  log : Log
  flt : Flt
  sec : Sec
  pwr : Pwr
  apz : Apz
  cva : Cva
  fab : Fab
  gouge : Gouge
  grd : Grd
  gau : List (Nat × GauX)
  pwm : Pwm
  ctl : Ctl
  seq : Seq
  /-- Turn boundaries since reset: with `fc`, the time of everything counted in fc. -/
  ticks : Nat
  /-- Work classes that have overrun in this Turn: bit 0 the Guard, 1 the Gouge, 2 the level loops (R23). -/
  overran : Nat
  /-- Slots whose work of a class has completed in this Turn: class and slot (R23). -/
  worked : List (Nat × Nat)
  /-- Set events and counts of the present fc, the latest first: the field, its value before, and the bits set or the events counted;
  a clear in the same fc spares them (R11). -/
  fresh : List (Nat × Nat × Nat)
  /-- The model's own counter for free values (log entry 1). -/
  free : Nat
  /-- Commands waiting, first in, first out. -/
  pending : List Instr
deriving DecidableEq, Repr

/-- Faults: a command that names no part of the machine. -/
inductive Fault where
  /-- Raised by a command whose operands lie outside the ranges its row has (an ADC number of 40, a bank of 32): there
  is no such happening on this hardware. Safe: the model stops where the hardware has no such step. -/
  | illFormed
deriving DecidableEq, Repr

/-- Refusals. -/
inductive Refusal where
  /-- Raised by a row of the table that has no meaning in this model. Safe. -/
  | notModelled (mnemonic : String)
deriving DecidableEq, Repr

/-! ### Engines at rest -/

/-- The same value at each of the numbers below `n`. -/
def eachOf {α : Type} (n : Nat) (x : α) : List (Nat × α) := (List.range n).map (fun i => (i, x))

def synthNone : SynthX := ⟨false, false, true, 0⟩
def gauNone : GauX := ⟨.idle, none, 0, none, none, false, false, false, false, true, false, none, []⟩
def outNone : PwmOut := ⟨false, 0, none, none, none, false, false⟩
def pairNone : PwmPair := ⟨false, false, 0, 0, 0, 0, false, false, false, 0, 0, false, false⟩
def pwmNone : Pwm := ⟨0, none, false, none, eachOf 16 outNone, eachOf 8 pairNone, [], [], 0, eachOf 16 (0, none), 0, [], none, 0⟩
def loopNone : LoopX := ⟨false, [], none, false, false, 0, 0, 0, 0, 0, 0, none, 0, 0, 0, 0, false⟩
def ctlNone : Ctl := ⟨eachOf 8 loopNone, [], false, false, false⟩
def sgNone : SeqGroup := ⟨false, 0, 0, 0, none, [], [], none, []⟩
def busNone : RffeBus := ⟨none, [], [], []⟩
def divNone : DivX := ⟨0, none⟩
def mmNone : MmX := ⟨0, 0, 0, [], none⟩
def seqNone : Seq := ⟨eachOf 8 sgNone, [], none, eachOf 2 busNone, eachOf 4 divNone, eachOf 4 mmNone, [], [], [], []⟩

def apzNone : Apz := ⟨none, 0, 0, 0, 0, 0, none, 0, 0, 0, 0, 0, false, false, 0, eachOf 2 0, eachOf 2 0, [], eachOf 2 false, eachOf 3 none, eachOf 2 0⟩

/-! ### Reset -/

/-- The fields of the Fault Collector whose reset values differ from those of the other sources (R307, Table 12.3): N, MINOR
and SEVERE of a source. -/
def fltReset (i n minor severe : Nat) : List (Nat × Nat) :=
  (if n = 4 then [] else [((F.FLT_SRC_CLASS_N i).key, n)]) ++ (if minor = 1 then [] else [((F.FLT_SRC_REACT_MINOR i).key, minor)]) ++
  (if severe = 0x11 then [] else [((F.FLT_SRC_REACT_SEVERE i).key, severe)])

/-- The empty Plan: every RWS field at its reset value, and no record (R170, R307). -/
def emptyPlan : Plan :=
  ⟨fltReset 5 16 1 1 ++ fltReset 11 1 1 0x11 ++ fltReset 15 1 1 0x11 ++ fltReset 29 16 1 1 ++ fltReset 30 16 1 1 ++
     fltReset 36 1 0 0x13 ++ fltReset 39 1 0 0x13 ++ fltReset 42 1 0 0x13 ++ fltReset 43 1 0 0x13, [], [], [], 0, 0⟩

/-- The registers right after a release of POR: the four Gauge converters calibrate (R243), and source 31 is live, since the link is not
in DL_Active (R231). -/
def resetRegs : FMap :=
  [(F.GAU_STATUS_CAL_BUSY.key, 15), ((F.GAU_STATE_STATE 0).key, 3), ((F.GAU_STATE_STATE 1).key, 3), ((F.GAU_STATE_STATE 2).key, 3),
   ((F.GAU_STATE_STATE 3).key, 3), (F.FLT_LIVE_LO_LIVE.key, 2 ^ 31)]

/-- The machine right after reset: POR has just been released and the start-up sequence begins (R360, R364, Table 15.5). The
variant, a blank one-time-programmable memory, straps of 0 and a quiet outside are DESIGN CHOICES (log entry 5). -/
def State.reset : State :=
  { variant := .gw6432, turn := 0, epoch := 0, fc := 0, regs := resetRegs, latches := [], active := emptyPlan, shadow := emptyPlan,
    plan := ⟨none, none, none, false, false, false, [], [], false, false, false⟩,
    flash := ⟨.idle, false, false, 0⟩,
    hif := ⟨[], 0, [], [], none, 0, [], 0, [7, 7, 7, 7], List.replicate 8 (0, none), [], none, false⟩,
    staged := [], linkOut := [], evOut := [],
    log := ⟨[], [], 0, [], false, false, false, none⟩,
    flt := ⟨[], [], [], [], [], none, false, none⟩,
    sec := ⟨⟨0, List.replicate 32 0, [], 0⟩, [], none, false, [], none, 0, none, [], [], [], .bypass, []⟩,
    pwr := ⟨none, none, false, false, false, false, true, 0, false, none, 0, false, 0, 0⟩,
    apz := apzNone,
    cva := ⟨eachOf 2 synthNone, none, none, none, [], [], [], [], [(0, 0), (1, 0)], [(0, 0, none), (1, 0, none)], []⟩,
    fab := ⟨[], [], [], [], [], [], [], [], [], [], [], [], [], [], [], [], [], [], [], []⟩,
    gouge := ⟨[], [], [], [], [], none, none, [], []⟩,
    grd := ⟨[], [], none, [], [], false, false, none, none, false, [], [], []⟩,
    gau := eachOf 4 { gauNone with cal := some 0 },
    pwm := pwmNone, ctl := ctlNone, seq := seqNone, ticks := 0, overran := 0, worked := [], fresh := [], free := 0, pending := [] }

end Sys2Proof.Machine
end

