-- ==== Sys2Proof/Machine/Ops.lean ====
section
/-! DEFINITION. The named operations over registers, Plans, the outboxes to the Fault Collector and the Event Recorder, the
interrupt lines and the completion rings. Every meaning reads and writes the state through these. -/
namespace Sys2Proof.Machine

/-! ### Fields -/

/-- The value a field holds, no wider than the field; unlisted fields hold their reset value. -/
def getF (m : FMap) (f : Field) : Nat := sparseGet f.reset m f.key % 2 ^ f.width

/-- Write a field, keeping its width. -/
def setF (m : FMap) (f : Field) (v : Nat) : FMap := sparseSet f.reset m f.key (v % 2 ^ f.width)

def State.get (s : State) (f : Field) : Nat := getF s.regs f
def State.put (s : State) (f : Field) (v : Nat) : State := { s with regs := setF s.regs f v }
def State.flag (s : State) (f : Field) : Bool := s.get f != 0
/-- Something sets bits of a field, or counts in it, in the present fc (R11). -/
def State.note (s : State) (f : Field) (k : Nat) : State := { s with fresh := (f.key, s.get f, k) :: s.fresh }
/-- Set or clear a flag. -/
def State.putB (s : State) (f : Field) (b : Bool) : State := (if b then s.note f 1 else s).put f (b2n b)
/-- A signed field. -/
def State.geti (s : State) (f : Field) : Int := sgn f.width (s.get f)
def State.puti (s : State) (f : Field) (v : Int) : State := s.put f (unsgn f.width v)
/-- Count one more of something: every count of the register map saturates at the field's top (R34). -/
def State.bump (s : State) (f : Field) (k : Nat) : State := (s.note f k).put f (satAdd (2 ^ f.width - 1) (s.get f) k)
/-- Set or clear one bit of a field that holds a bit per resource. -/
def State.putBit (s : State) (f : Field) (i : Nat) (b : Bool) : State :=
  (if b then s.note f (2 ^ i) else s).put f (setBit (s.get f) i b)
def State.getBit (s : State) (f : Field) (i : Nat) : Bool := bit (s.get f) i

/-- The staged field in force (its _ACT copy, R10). -/
def State.act (s : State) (f : Field) : Nat := getF s.active.flds f
def State.actI (s : State) (f : Field) : Int := sgn f.width (s.act f)
def State.actB (s : State) (f : Field) : Bool := s.act f != 0
/-- The staged field of the Shadow Plan. -/
def State.shd (s : State) (f : Field) : Nat := getF s.shadow.flds f
def Plan.get (p : Plan) (f : Field) : Nat := getF p.flds f
def Plan.geti (p : Plan) (f : Field) : Int := sgn f.width (p.get f)
def Plan.on (p : Plan) (f : Field) : Bool := p.get f != 0
def Plan.set (p : Plan) (f : Field) (v : Nat) : Plan := { p with flds := setF p.flds f v }

/-! ### Time (R7, R30) -/

/-- The command happens at this fc of the Turn. -/
def State.at (s : State) (fc : Nat) : State :=
  { s with fc := fc % 3072, fresh := if s.fc = fc % 3072 then s.fresh else [] }

/-- Bits of a field that have been set in this very fc: a clear leaves them (R11). -/
def State.freshBits (s : State) (f : Field) : Nat :=
  s.fresh.foldl (fun a e => if e.1 = f.key then a ||| e.2.2 else a) 0
/-- Events counted in a field in this very fc. -/
def State.freshCount (s : State) (f : Field) : Nat :=
  s.fresh.foldl (fun a e => if e.1 = f.key then a + e.2.2 else a) 0
/-- What a field held before the events of this fc. -/
def State.beforeFresh (s : State) (f : Field) : Nat :=
  s.fresh.foldl (fun v e => if e.1 = f.key then e.2.1 else v) (s.get f)

/-- `a` is later than `b` (R30). -/
def laterThan (a b : TurnNo) : Bool := let d := (a - b).toNat; 0 < d && d < 2 ^ 47
/-- Turns from `b` to `a` modulo 2^48. -/
def turnsSince (a b : TurnNo) : Nat := (a - b).toNat

/-- The boundary at which a configuration effect accepted now applies: the next one, or the one after it when the
commit window has begun (R205). -/
def State.dueTurn (s : State) : TurnNo := if s.fc < 2816 then s.turn + 1 else s.turn + 2

/-! ### What the variant has (R1, R2) -/

def State.nSlotsDir (s : State) : Nat := match s.variant with | .gw6432 => 64 | .gw6416 => 32
def nDirOf : Variant → Nat | .gw6432 => 64 | .gw6416 => 32
def nAdcOf : Variant → Nat | .gw6432 => 20 | .gw6416 => 10
def nDacOf : Variant → Nat | .gw6432 => 16 | .gw6416 => 8
def nPortOf : Variant → Nat | .gw6432 => 8 | .gw6416 => 4
def nObsOf : Variant → Nat | .gw6432 => 4 | .gw6416 => 2
def nFportOf : Variant → Nat | .gw6432 => 256 | .gw6416 => 128
def nTileOf : Variant → Nat | .gw6432 => 136 | .gw6416 => 68
def nEmOf : Variant → Nat | .gw6432 => 16 | .gw6416 => 8
def partOf : Variant → Nat | .gw6432 => 0x6432 | .gw6416 => 0x6416

/-- Slot indices present: DLnn is nn, ULnn is 64 + nn on both variants (R13, Table 0.4). -/
def slotIn (v : Variant) (s : Nat) : Bool := s < 128 && s % 64 < nDirOf v
def slotIsUl (s : Nat) : Bool := 64 ≤ s

/-- The slots of the variant in ascending index. -/
def slotsOf (v : Variant) : List Nat := (List.range 128).filter (slotIn v)

/-- Does the index of a register array name something this variant has (R2)? -/
def namesIn (v : Variant) (n : Names) (i : Nat) : Bool :=
  match n with
  | .all => true
  | .adc => i < nAdcOf v
  | .dac => i < nDacOf v
  | .fport => i < nFportOf v
  | .comb => i < nDacOf v
  | .slot => slotIn v i
  | .em => i < nEmOf v
  | .div => i < nPortOf v / 2
  | .mm => i < nObsOf v
  | .sport => i < nPortOf v

/-! ### Byte strings (R5) -/

def byteAt (l : List Byte) (i : Nat) : Nat := (l.getD i 0).toNat
/-- `n` bytes from `off`, the lowest offset least significant (R5). -/
def leAt (l : List Byte) (off n : Nat) : Nat :=
  match n with
  | 0 => 0
  | n + 1 => byteAt l off + 256 * leAt l (off + 1) n
/-- `n` little-endian bytes of a number. -/
def leBytes (v : Nat) (n : Nat) : List Byte :=
  match n with
  | 0 => []
  | n + 1 => BitVec.ofNat 8 v :: leBytes (v / 256) n
def allZero (l : List Byte) : Bool := l.all (fun b => b == 0)
def zerosAt (l : List Byte) (off n : Nat) : Bool := allZero ((l.drop off).take n)
def padTo (n : Nat) (l : List Byte) : List Byte := (l ++ List.replicate n 0).take n

/-! ### Outboxes -/

/-- Raise a source's event line: the event reaches the collector with FAULT_EVENT (R293, R294). -/
def State.raise (s : State) (src : Nat) : State := { s with flt := { s.flt with raised := s.flt.raised ++ [src] } }

/-- Drive a source's live line (R293, R296). -/
def State.live (s : State) (src : Nat) (b : Bool) : State :=
  if src < 32 then s.putBit F.FLT_LIVE_LO_LIVE src b else s.putBit F.FLT_LIVE_HI_LIVE (src - 32) b
def State.isLive (s : State) (src : Nat) : Bool :=
  if src < 32 then s.getBit F.FLT_LIVE_LO_LIVE src else s.getBit F.FLT_LIVE_HI_LIVE (src - 32)

/-- Send an event towards the recorder: it arrives with EVENT_ARRIVAL (R318). `payload` starts at record offset 10. -/
def State.emit (s : State) (code sev unit : Nat) (payload : List Byte) : State :=
  { s with evOut := s.evOut ++ [⟨code, sev, unit, payload⟩] }

/-- The next free value of the model's counter. -/
def State.tick (s : State) : State := { s with free := s.free + 1 }

/-! ### Interrupts (R228, R229) -/

def State.linkUp (s : State) : Bool := s.flag F.HIF_STATUS_LINK_UP

/-- Put a message on the link. -/
def State.link (s : State) (m : LinkMsg) : State := { s with linkOut := s.linkOut ++ [m] }

/-- Send an MSI-X message of a vector: while the link is down nothing is written to host memory (R194); a masked
vector sets its pending bit (the PCI Express formats of R228; log entry 8). -/
def State.sendVec (s : State) (v : Nat) : State :=
  if !s.linkUp then s
  else if s.flag (F.HIF_MSIX_CTRL_MASK v) then s.putBit (F.HIF_MSIX_PBA_PENDING (v / 32)) (v % 32) true
  else s.link (.msix v)

/-- Raise internal interrupt source `k` (Table 8.10): a source whose EN or VEC is 0 sends nothing. -/
def State.irq (s : State) (k : Nat) : State :=
  let m := k / 4
  let en := match k % 4 with
    | 0 => s.get (F.HIF_IRQ_MAP_EN0 m) | 1 => s.get (F.HIF_IRQ_MAP_EN1 m)
    | 2 => s.get (F.HIF_IRQ_MAP_EN2 m) | _ => s.get (F.HIF_IRQ_MAP_EN3 m)
  let vec := match k % 4 with
    | 0 => s.get (F.HIF_IRQ_MAP_VEC0 m) | 1 => s.get (F.HIF_IRQ_MAP_VEC1 m)
    | 2 => s.get (F.HIF_IRQ_MAP_VEC2 m) | _ => s.get (F.HIF_IRQ_MAP_VEC3 m)
  if en = 0 ∨ vec = 0 then s else s.sendVec vec

/-! ### Completions (R199, R200, R213, R223, R224, R228) -/

def State.setHif (s : State) (h : Hif) : State := { s with hif := h }
/-- Set a completion ring's coalescing count and first Turn. -/
def State.setCoal (s : State) (cq : Nat) (e : Nat × Option TurnNo) : State :=
  s.setHif { s.hif with coal := s.hif.coal.set cq e }

/-- Entries a completion ring can still take, from the head last read (R199). -/
def State.cqFree (s : State) (cq : Nat) : Nat :=
  let S := 2 ^ s.get (F.HIF_CQ_CFG_SIZE cq)
  (s.get (F.HIF_CQ_HEAD_SEEN_HEAD cq) + 2 * S - s.get (F.HIF_CQ_STATUS_TAIL cq) - 1) % S

/-- The ring can take a completion now: the link is up, the ring enabled, and an entry free (R199, R223). -/
def State.cqReady (s : State) (cq : Nat) : Bool :=
  s.linkUp && s.flag (F.HIF_CQ_CFG_EN cq) && 0 < s.cqFree cq

/-- The completion ring that CFG.CQ of a submission ring names: one of eight (R195). -/
def State.cqOf (s : State) (sq : Nat) : Fin 8 := Fin.ofNat 8 (s.get (F.HIF_SQ_CFG_CQ sq))

/-- A completion ring's message: its vector, and the coalescing counts start afresh (R228). -/
def State.cqMessage (s : State) (cq : Nat) : State :=
  let s := s.setCoal cq (0, none)
  let v := s.get (F.HIF_CQ_CFG_VEC cq)
  if v = 0 then s else s.sendVec v

/-- A completion entry as it lies in host memory (Table 8.5, R5). -/
def cplBytes (c : Cpl) (sqHead phase : Nat) : List Byte :=
  leBytes c.tag 2 ++ leBytes c.sqIndex 2 ++ leBytes (c.sq % 8) 1 ++ leBytes c.opcode 1 ++ leBytes c.status 1 ++ leBytes c.cause 1 ++
  leBytes c.turn.toNat 6 ++ leBytes (c.fc % 4096) 2 ++ leBytes c.result 8 ++ leBytes sqHead 2 ++ leBytes c.detail 4 ++ leBytes c.flags 1 ++
  leBytes (phase % 2) 1

/-- Write a completion into its ring: one entry with the present PHASE; TAIL advances and PHASE inverts at the wrap
(R200); the ring raises its vector on IRQ, on a failure with FAIL_IRQ, or at its count (R228). -/
def State.writeCpl (s : State) (c : Cpl) : State :=
  let cq : Nat := c.cq
  let tail := s.get (F.HIF_CQ_STATUS_TAIL cq)
  let phase := s.get (F.HIF_CQ_STATUS_PHASE cq)
  let wrap := tail + 1 = 2 ^ s.get (F.HIF_CQ_CFG_SIZE cq)
  let base := 2 ^ 12 * s.get (F.HIF_CQ_BASE_LO_BASE cq) + 2 ^ 32 * s.get (F.HIF_CQ_BASE_HI_BASE cq)
  let s := s.link (.cpl cq tail (base + 32 * tail) (cplBytes c (s.get (F.HIF_SQ_STATUS_HEAD c.sq)) phase))
  let s := s.put (F.HIF_CQ_STATUS_TAIL cq) (if wrap then 0 else tail + 1)
  let s := if wrap then s.put (F.HIF_CQ_STATUS_PHASE cq) (1 - phase) else s
  let e := s.hif.coal.getD cq (0, none)
  let n := e.1 + 1
  let first := match e.2 with | some t => some t | none => some s.turn
  let s := s.setCoal cq (n, first)
  let lim := s.get (F.HIF_CQ_CFG_COAL_COUNT cq)
  if c.irq || (c.status != 1 && s.flag (F.HIF_CQ_CFG_FAIL_IRQ cq)) || (lim != 0 && lim ≤ n) then s.cqMessage cq else s

/-- Write a completion, or hold it (R223), or lose it when the held list is full (R224). -/
def State.post (s : State) (c : Cpl) : State :=
  if s.cqReady c.cq then s.writeCpl c
  else if s.hif.held.length < 256 then s.setHif { s.hif with held := s.hif.held ++ [c] }
  else
    let s := s.bump F.HIF_ORPHAN_LOST 1
    let s := s.emit 0x51 3 1 (leBytes c.sq 1 ++ leBytes c.tag 2)
    s.raise 32

def State.findDesc (s : State) (k : DescKey) : Option Desc :=
  s.hif.inflight.find? (fun d => d.key == k)

/-- Take a descriptor out of flight and post its one completion (R213), stamped as given (R26). -/
def State.finishAt (s : State) (k : DescKey) (status cause result detail flags : Nat) (t : TurnNo) (fc : Nat) : State :=
  match s.findDesc k with
  | none => s
  | some d =>
    let s := s.setHif { s.hif with inflight := s.hif.inflight.filter (fun e => e.key != k) }
    s.post ⟨d.tag, d.idx, d.sq, d.opcode, status, cause, t, fc, result, detail, flags, bit d.flags 0, d.cq⟩

/-- A FENCE waits for every earlier descriptor of its ring, or of all rings with ALL (Table 8.3). -/
def fenceClear (l : List Desc) (d : Desc) : Bool :=
  let all := bit (byteAt d.body 8) 0
  l.all (fun e => !(e.order < d.order && (all || e.sq == d.sq)))

/-- Complete every started FENCE whose wait is over; one completion may end another's wait. -/
def State.settleFences : Nat → State → State
  | 0, s => s
  | n + 1, s =>
    match s.hif.inflight.find? (fun d => d.opcode == 1 && d.started && fenceClear s.hif.inflight d) with
    | none => s
    | some d => State.settleFences n (s.finishAt d.key 1 0 0 0 0 s.turn s.fc)

/-- Complete a descriptor, and every FENCE that waited for it alone. -/
def State.completeAt (s : State) (k : DescKey) (status cause result detail flags : Nat) (t : TurnNo) (fc : Nat) : State :=
  let s := s.finishAt k status cause result detail flags t fc
  State.settleFences s.hif.inflight.length s

/-- DONE now. -/
def State.done (s : State) (k : DescKey) (result : Nat) : State := s.completeAt k 1 0 result 0 0 s.turn s.fc
/-- DONE stamped with the boundary of the present Turn and fc 0 (R26). -/
def State.doneBoundary (s : State) (k : DescKey) (result : Nat) : State := s.completeAt k 1 0 result 0 0 s.turn 0
/-- FAILED with a cause of Table 8.7, stamped now (R26). -/
def State.failed (s : State) (k : DescKey) (cause detail : Nat) : State := s.completeAt k 3 cause 0 detail 0 s.turn s.fc

/-- A completion for a descriptor that may not exist (an autonomous request has none). -/
def State.doneOpt (s : State) (k : Option DescKey) (result : Nat) : State :=
  match k with | some k => s.done k result | none => s
def State.failedOpt (s : State) (k : Option DescKey) (cause detail : Nat) : State :=
  match k with | some k => s.failed k cause detail | none => s

/-- Stage a configuration effect for the boundary of R205. -/
def State.stage (s : State) (k : DescKey) (e : Effect) : State :=
  { s with staged := s.staged ++ [⟨k, s.dueTurn, e⟩] }

/-- A descriptor may start: every earlier descriptor of its ring has started, and no earlier FENCE of its ring is still
in flight (R202, Table 8.3). -/
def State.startable (s : State) (d : Desc) : Bool :=
  s.hif.inflight.all (fun e => !(e.sq == d.sq && e.order < d.order && (!e.started || e.opcode == 1)))

/-- The descriptor of ring `sq` at index `idx` that waits to start: where a ring has lapped a descriptor still in flight, the one that
has not started. -/
def State.waiting (s : State) (sq idx : Nat) : Option Desc :=
  s.hif.inflight.find? (fun d => d.sq == sq && d.idx == idx && !d.started)

/-- Start that descriptor if it has this opcode and may start now. -/
def State.begin (s : State) (sq idx : Nat) (op : Nat) : Option (Desc × State) :=
  match s.waiting sq idx with
  | none => none
  | some d =>
    if d.opcode == op && s.startable d then
      let fl := s.hif.inflight.map (fun e => if e.key == d.key then { e with started := true } else e)
      some (d, s.setHif { s.hif with inflight := fl })
    else none

/-- A descriptor command: `f` on the state in which the descriptor has started; nothing where no such descriptor waits
to start. -/
def State.withDesc (s : State) (fc sq idx op : Nat) (f : Desc → State → State) : State :=
  match (s.at fc).begin sq idx op with
  | none => s.at fc
  | some (d, s) => f d s

/-! ### Power state -/

def State.pstate (s : State) : Nat := s.get F.PWR_STATE_STATE
def State.inRelay (s : State) : Bool := s.pstate == 3
/-- LISTEN, RELAY or SAFE: the fabric runs (Table 15.1). -/
def State.running (s : State) : Bool := s.pstate == 2 || s.pstate == 3 || s.pstate == 4

/-- SAFE cause `c` has arisen: the module enters SAFE at the next boundary, even where it is over by then (R356). -/
def State.safeCause (s : State) (c : Nat) : State := { s with pwr := { s.pwr with safeDue := s.pwr.safeDue ||| 2 ^ c } }

/-- Time in fc since reset. -/
def State.now (s : State) : Nat := 3072 * s.ticks + s.fc

def State.setPwm (s : State) (p : Pwm) : State := { s with pwm := p }

/-- An output whose every time lies `d` fc later. -/
def PwmOut.shift (o : PwmOut) (d : Nat) : PwmOut :=
  { o with since := o.since + d, rise := o.rise.map (· + d), fall := o.fall.map (· + d), enter := o.enter.map (· + d) }
/-- A Drive PWM whose every time lies `d` fc later. -/
def Pwm.shift (p : Pwm) (d : Nat) : Pwm :=
  { p with nextZero := p.nextZero + d, nextTop := p.nextTop.map (· + d),
           outs := p.outs.map (fun o => (o.1, o.2.shift d)), pairs := p.pairs.map (fun x => (x.1, { x.2 with fell := x.2.fell + d })),
           matches_ := p.matches_.map (fun m => { m with at_ := m.at_ + d }),
           lines := p.lines.map (fun l => (l.1, l.2.1, l.2.2.map (· + d))) }

/-- The Drive PWM continues from where it stopped, once nothing freezes it (R266). -/
def State.unfreeze (s : State) : State :=
  match s.pwm.frozenAt with
  | none => s
  | some t =>
    if s.flag F.CTL_STATUS_HALTED || s.pwr.clkLost then s
    else (s.setPwm { s.pwm.shift (s.now - t) with frozenAt := none }).putB F.PWM_STATUS_FROZEN false

/-- The Drive PWM freezes exactly as it is (R266). -/
def State.freezePwm (s : State) : State :=
  if s.pwm.frozenAt.isSome then s
  else ((s.setPwm { s.pwm with frozenAt := some s.now }).putB F.PWM_STATUS_FROZEN true).putB F.PWM_FLAGS_FROZE true

/-- Release a halt of the Control Engine (R286). -/
def State.releaseHalt (s : State) : State :=
  let s := { s with ctl := { s.ctl with haltReq := false, stepReq := false, stepping := false } }
  ((s.putB F.CTL_DEBUG_HALT false).putB F.CTL_STATUS_HALTED false).unfreeze

/-- Is a block held in reset (R295, R358)? -/
def State.blockHeld (s : State) (b : Block) : Bool := s.flt.held.contains b

/-- Apply `f` for each element, left to right. -/
def State.each {α : Type} (s : State) (l : List α) (f : State → α → State) : State := l.foldl f s

/-- Run a slot's work of a class (0 the Guard, 1 the Gouge, 2 the level loops) unless it has completed in this Turn already (R23). -/
def State.once (s : State) (cls sl : Nat) (f : State → Nat → State) : State :=
  if s.worked.contains (cls, sl) then s else f { s with worked := s.worked ++ [(cls, sl)] } sl

/-- What happens to a module that is not held in reset; to one that is, nothing does (R375, Table 16.3). -/
def State.awake (s t : State) : State := if s.pwr.off then s else t

/-- What a boundary or a fixed fc brings once in a Turn: 0 the commit window, 1 the Guard's mutes, 2 ALIVE, 3 the refill of the log's
buckets, 4 a time mark. -/
def State.onceATurn (s : State) (k : Nat) (f : State → State) : State := s.awake (s.once 3 k (fun s _ => f s))

/-- The outcome of a command whose operands must name parts the machine has. -/
def okIf (ok : Bool) (s : State) : Host.Outcome State Fault Refusal := if ok then .next s else .fault .illFormed

end Sys2Proof.Machine
end

