-- ==== Sys2Proof/Machine/Operands.lean ====
section
/-! DEFINITION. Operand forms: the descriptor header and bodies (Tables 8.2 to 8.4), what makes a descriptor malformed
(R203, R204), and the fields of each body. -/
namespace Sys2Proof.Machine

namespace Op
def nop : Nat := 0x00
def fence : Nat := 0x01
def planLoad : Nat := 0x10
def planSwap : Nat := 0x11
def slotGain : Nat := 0x20
def capture : Nat := 0x30
def snapshot : Nat := 0x31
def gaugeRead : Nat := 0x40
def counterRead : Nat := 0x41
def logRead : Nat := 0x50
def logClear : Nat := 0x51
def logFreeze : Nat := 0x52
def logThaw : Nat := 0x53
def calRun : Nat := 0x60
def supplySetpoint : Nat := 0x61
def stateRequest : Nat := 0x62
def tokenSubmit : Nat := 0x70
def debugUnlock : Nat := 0x71
end Op

/-- The opcodes of Table 8.3. -/
def opcodes : List Nat := [0x00, 0x01, 0x10, 0x11, 0x20, 0x30, 0x31, 0x40, 0x41, 0x50, 0x51, 0x52, 0x53, 0x60, 0x61, 0x62,
  0x70, 0x71]

/-! ### Body fields (Table 8.4) -/

/-- ADDR of every opcode that has one, but for DEBUG_UNLOCK. -/
def dAddr (b : List Byte) : Nat := leAt b 8 8
def dLen (b : List Byte) : Nat := leAt b 16 4
def dOffset (b : List Byte) : Nat := leAt b 20 4
def dLast (b : List Byte) : Bool := bit (byteAt b 24) 0
def dMode (b : List Byte) : Nat := byteAt b 8
def dTarget (b : List Byte) : TurnNo := BitVec.ofNat 48 (leAt b 16 8)
def dSlot (b : List Byte) : Nat := byteAt b 8
def dGain (b : List Byte) : Int := sgn 16 (leAt b 10 2)
def dPoint (b : List Byte) : Nat := leAt b 20 2
def dTrigger (b : List Byte) : Nat := byteAt b 22
def dTrigTurn (b : List Byte) : TurnNo := BitVec.ofNat 48 (leAt b 24 8)
def dRecords (b : List Byte) : Nat := leAt b 32 4
def dPre (b : List Byte) : Nat := leAt b 36 4
def dTimeout (b : List Byte) : Nat := leAt b 40 4
def dSlots (b : List Byte) : Nat := leAt b 24 16
def dEntries (b : List Byte) : Nat := leAt b 16 8
def dFirst (b : List Byte) : Nat := leAt b 16 4
def dCount (b : List Byte) : Nat := leAt b 20 2
def dFromSeq (b : List Byte) : Nat := leAt b 20 4
def dCode (b : List Byte) : Nat := byteAt b 8
def dAdcMask (b : List Byte) : Nat := leAt b 12 4
def dDacMask (b : List Byte) : Nat := leAt b 16 4
def dSynthMask (b : List Byte) : Nat := byteAt b 20
def dLoop (b : List Byte) : Nat := byteAt b 8
def dSetpoint (b : List Byte) : Nat := leAt b 12 4
def dState (b : List Byte) : Nat := byteAt b 8
def dStep (b : List Byte) : Nat := byteAt b 8
def dUnlockAddr (b : List Byte) : Nat := leAt b 16 8
def dUnlockLen (b : List Byte) : Nat := leAt b 24 4

/-- Slots a mask names that the variant has: bits of absent slots are ignored (R204). -/
def maskSlots (v : Variant) (m : Nat) : List Nat := (slotsOf v).filter (fun s => bit m s)

/-- A capture point: full rate, a fabric port that is not reserved, or baseband, a slot and one of three stages (R77,
R80, R204). -/
def pointOk (v : Variant) (p : Nat) : Bool :=
  if p / 4096 = 0 then bits p 8 4 == 0 && bits p 0 8 < (match v with | .gw6432 => 236 | .gw6416 => 118)
  else p / 4096 == 1 && bits p 10 2 == 0 && bits p 7 1 == 0 && bits p 8 2 != 3 && slotIn v (bits p 0 7)

/-- Records a full-rate capture may ask for (R77). -/
def fullRateMax : Variant → Nat
  | .gw6432 => 347136
  | .gw6416 => 172032

/-- Last offset of each block of Table 1.2. -/
def blockEnds : List Nat := [0x0FFF, 0x1FFF, 0x3FFF, 0xFFFF, 0x1FFFF, 0x2FFFF, 0x3FFFF, 0x4FFFF, 0x5FFFF, 0x6FFFF, 0x7FFFF,
  0x8FFFF, 0x9FFFF, 0xAFFFF, 0xBFFFF, 0xCFFFF]

/-- The number of the block of Table 1.2 that holds an offset; 16 where no block does. -/
def blockOf (off : Nat) : Nat := (blockEnds.filter (fun e => e < off)).length

/-- An ADDR with the bytes it needs: bits [63:48] 0, a multiple of 64, and its end within 2^48 (R203, R206). -/
def addrOk (a len : Nat) : Bool := a < 2 ^ 48 && a % 64 == 0 && a + len ≤ 2 ^ 48

/-- Bits set in a mask of `n` bits. -/
def popcount (n m : Nat) : Nat := ((List.range n).filter (fun i => bit m i)).length

/-- The fields of a body, as (offset, size, holds an allowed value). Bytes outside them are reserved (R206). -/
def bodyFields (v : Variant) (b : List Byte) : List (Nat × Nat × Bool) :=
  match byteAt b 0 with
  | 0x01 => [(8, 1, byteAt b 8 < 2)]
  | 0x10 => [(8, 8, addrOk (dAddr b) (dLen b)),
      (16, 4, 4 ≤ dLen b && dLen b ≤ 65536 && dLen b % 4 == 0),
      -- a bad OFFSET is no malformed descriptor: R178 refuses the load (log entry 66)
      (20, 4, true), (24, 1, byteAt b 24 < 2)]
  | 0x11 => [(8, 1, dMode b < 3), (16, 8, leAt b 16 8 < 2 ^ 48)]
  | 0x20 => [(8, 1, slotIn v (dSlot b)), (10, 2, -600 ≤ dGain b && dGain b ≤ 1200)]
  | 0x30 => [(8, 8, addrOk (dAddr b) (dLen b)),
      (16, 4, 64 ≤ dLen b && dLen b ≤ 67108864), (20, 2, pointOk v (dPoint b)), (22, 1, dTrigger b < 6),
      (24, 8, leAt b 24 8 < 2 ^ 48),
      (32, 4, 1 ≤ dRecords b && (dPoint b / 4096 != 0 || dRecords b ≤ fullRateMax v)),
      (36, 4, dPre b ≤ dRecords b && (dPoint b / 4096 == 0 || dPre b ≤ 8192)),
      (40, 4, 1 ≤ dTimeout b)]
  | 0x31 => [(8, 8, addrOk (dAddr b) (dLen b)), (16, 4, true), (24, 16, !(maskSlots v (dSlots b)).isEmpty)]
  | 0x40 => [(8, 8, addrOk (dAddr b) (16 * popcount 64 (dEntries b))), (16, 8, dEntries b != 0)]
  | 0x41 => [(8, 8, addrOk (dAddr b) (4 * dCount b)), (16, 4, dFirst b % 4 == 0 && blockOf (dFirst b) < 16),
      (20, 2, 1 ≤ dCount b && dCount b ≤ 1024 && blockOf (dFirst b) == blockOf (dFirst b + 4 * dCount b - 1))]
  | 0x50 => [(8, 8, addrOk (dAddr b) (dLen b)), (16, 4, 32 ≤ dLen b && dLen b % 32 == 0), (20, 4, true)]
  | 0x60 => [(8, 1, [1, 2, 3, 4, 15].contains (dCode b)),
      (12, 4, match dCode b with
        | 2 => dAdcMask b % 2 ^ nAdcOf v + dDacMask b % 2 ^ nDacOf v != 0
        | 3 | 4 => dAdcMask b % 2 ^ nAdcOf v != 0
        | _ => true),
      (16, 4, true), (20, 1, byteAt b 20 < 4 && (dCode b != 1 || dSynthMask b % 4 != 0))]
  | 0x61 => [(8, 1, dLoop b < 8), (12, 4, true)]
  | 0x62 => [(8, 1, 1 ≤ dState b && dState b ≤ 4)]
  | 0x70 => [(8, 8, addrOk (dAddr b) 256)]
  | 0x71 => [(8, 1, dStep b < 3),
      (16, 8, if dStep b = 2 then dUnlockAddr b == 0 else addrOk (dUnlockAddr b) (dUnlockLen b)),
      (24, 4, dUnlockLen b == (match dStep b with | 0 => 64 | 1 => 192 | _ => 0))]
  | _ => []

/-- Offset `i` of the body lies in no listed field. -/
def reservedAt (fs : List (Nat × Nat × Bool)) (i : Nat) : Bool := fs.all (fun f => i < f.1 || f.1 + f.2.1 ≤ i)

/-- The byte offset of the first offending field of a descriptor, if it is malformed (R203). -/
def descBad (v : Variant) (b : List Byte) : Option Nat :=
  if !opcodes.contains (byteAt b 0) then some 0
  else if 2 ≤ byteAt b 1 then some 1
  else if leAt b 4 4 ≠ 0 then some 4
  else
    let fs := bodyFields v b
    let bad := (fs.filter (fun f => !f.2.2)).map (·.1) ++
      ((List.range 64).filter (fun i => 8 ≤ i && reservedAt fs i && byteAt b i != 0))
    bad.min?

end Sys2Proof.Machine
end

