-- ==== Sys2Proof/Machine/Recorder.lean ====
section
/-! DEFINITION. The Event Recorder (spec/13): records and their check code, numbering, rate limits, the full log, freeze,
thaw and clear, reading, and the retirement of banks. -/
namespace Sys2Proof.Machine

/-! ### CRC-32C (R314) -/

def crcBit (c : Nat) : Nat := if c % 2 = 1 then (c / 2) ^^^ 0x82F63B78 else c / 2
def crcByte (c b : Nat) : Nat :=
  crcBit (crcBit (crcBit (crcBit (crcBit (crcBit (crcBit (crcBit (c ^^^ b))))))))
/-- CRC-32C: reflected polynomial 0x1EDC_6F41, initial value and final exclusive-or 0xFFFF_FFFF. -/
def crc32c (l : List Byte) : Nat := (l.foldl (fun c b => crcByte c b.toNat) 0xFFFFFFFF) ^^^ 0xFFFFFFFF

/-- The 32 bytes of a record (Table 13.1). -/
def recBytes (r : LogRec) : List Byte :=
  let head := leBytes r.seq 4 ++ leBytes r.evt.code 2 ++
    leBytes (r.evt.sev % 8 + (if r.queued then 8 else 0) + (if r.prot then 16 else 0)) 1 ++
    leBytes r.evt.unit 1 ++ leBytes r.suppressed 2 ++ padTo 18 r.evt.payload
  head ++ leBytes (crc32c head) 4

/-! ### State of the log -/

def State.setLog (s : State) (l : Log) : State := { s with log := l }
def State.bankRetired (s : State) (b : Nat) : Bool := s.getBit F.LOG_BANK_RETIRED_RETIRED b
/-- Healthy banks (R324). -/
def State.banksOk (s : State) : List Nat := (List.range 32).filter (fun b => !s.bankRetired b)
/-- Room for a record without overwriting (R319). -/
def State.logHasRoom (s : State) : Bool := s.log.recs.length < 256 * s.banksOk.length
def State.frozen (s : State) : Bool := s.flag F.LOG_STATUS_FROZEN

/-- Shift an event into the witness registers, newest first (R324). -/
def State.witness (s : State) (code sev unit bank seqLo : Nat) : State :=
  let sh (s : State) (k : Nat) : State :=
    let s := s.put (F.LOG_WITNESS_CODE (k + 1)) (s.get (F.LOG_WITNESS_CODE k))
    let s := s.put (F.LOG_WITNESS_SEVERITY (k + 1)) (s.get (F.LOG_WITNESS_SEVERITY k))
    let s := s.put (F.LOG_WITNESS_UNIT (k + 1)) (s.get (F.LOG_WITNESS_UNIT k))
    let s := s.put (F.LOG_WITNESS_BANK (k + 1)) (s.get (F.LOG_WITNESS_BANK k))
    s.put (F.LOG_WITNESS_SEQ_LO (k + 1)) (s.get (F.LOG_WITNESS_SEQ_LO k))
  let s := sh (sh (sh s 2) 1) 0
  let s := (s.put (F.LOG_WITNESS_CODE 0) code).put (F.LOG_WITNESS_SEVERITY 0) sev
  ((s.put (F.LOG_WITNESS_UNIT 0) unit).put (F.LOG_WITNESS_BANK 0) bank).put (F.LOG_WITNESS_SEQ_LO 0) seqLo

/-- FLAG, and internal interrupt source 4 on its change from 0 to 1 (R325). -/
def State.logFlag (s : State) (sev : Nat) : State :=
  if s.flag F.LOG_IRQ_EN && s.get F.LOG_IRQ_MIN_SEV ≤ sev then
    let was := s.flag F.LOG_IRQ_FLAG
    let s := s.putB F.LOG_IRQ_FLAG true
    if was then s else s.irq 4
  else s

/-- A bank for a new record: one of the healthy banks with room, which one the spec does not say. -/
def State.pickBank (s : State) : Nat :=
  let cand := s.banksOk.filter (fun b => (s.log.recs.filter (fun r => r.bank == b)).length < 256)
  cand.getD (Config.bankPick s.free % cand.length) 0

/-- The number after `n`: 0xFFFF_FFFF is followed by 1, 0 is never used (R316). -/
def seqNext (n : Nat) : Nat := if 0xFFFFFFFF ≤ n then 1 else n + 1

/-- Remove the oldest record that one of severity `sev` may overwrite: equal or lower severity, never the PROTECTED one
(R319). Answers the rest and the bank freed. -/
def dropOldest (sev : Nat) : List LogRec → Option (List LogRec × Nat)
  | [] => none
  | r :: t =>
    if r.evt.sev ≤ sev && !r.prot then some (t, r.bank)
    else match dropOldest sev t with
      | some (t', b) => some (r :: t', b)
      | none => none

/-- Write one record into the log (R316, R319, R324, R325): it takes the next number; in a full log it overwrites, or is
dropped with its number unconsumed; with every bank retired only the witness registers take it, and a LOG_SELF that waited in the
queue is there already. -/
def State.writeOne (s : State) (e : Evt) (queued prot : Bool) (supp : Nat) : State :=
  let seq := s.get F.LOG_NEXT_SEQ_NEXT_SEQ
  if s.banksOk.isEmpty then
    let s := if e.code = 5 ∧ queued then s
      else s.witness e.code e.sev e.unit (if e.code = 5 then byteAt e.payload 0 else 0) (seq % 2048)
    (s.put F.LOG_NEXT_SEQ_NEXT_SEQ (seqNext seq)).bump F.LOG_WITNESS_COUNT_WITNESS_ONLY 1
  else if s.logHasRoom then
    let r : LogRec := ⟨seq, e, queued, prot, supp, s.pickBank⟩
    let s := (s.setLog { s.log with recs := s.log.recs ++ [r] }).tick
    (s.put F.LOG_NEXT_SEQ_NEXT_SEQ (seqNext seq)).logFlag e.sev
  else match dropOldest e.sev s.log.recs with
    | some (t, b) =>
      let r : LogRec := ⟨seq, e, queued, prot, supp, b⟩
      let s := s.setLog { s.log with recs := t ++ [r] }
      (s.put F.LOG_NEXT_SEQ_NEXT_SEQ (seqNext seq)).logFlag e.sev
    | none => (s.bump F.LOG_COUNT_DROPPED 1).raise 34

/-- Write a record, and a SEQ_WRAP after the one numbered 0xFFFF_FFFF (R316). -/
def State.writeRec (s : State) (e : Evt) (queued prot : Bool) (supp : Nat) : State :=
  let seq := s.get F.LOG_NEXT_SEQ_NEXT_SEQ
  let s := s.writeOne e queued prot supp
  if seq = 0xFFFFFFFF ∧ s.get F.LOG_NEXT_SEQ_NEXT_SEQ = 1 then
    let s := s.bump F.LOG_WRAPS_WRAPS 1
    s.writeOne ⟨3, 2, 13, leBytes (s.get F.LOG_WRAPS_WRAPS) 2⟩ queued false 0
  else s

/-- An admitted event: written, or queued while the log is frozen, or lost when the queue is full (R320). -/
def State.admitEvt (s : State) (e : Evt) (supp : Nat) : State :=
  if s.frozen then
    if s.log.queue.length < 64 then s.setLog { s.log with queue := s.log.queue ++ [(e, supp)] }
    else (s.setLog { s.log with lost := s.log.lost + 1 }).bump F.LOG_COUNT_QUEUE_LOST 1
  else s.writeRec e false false supp

/-- Codes that take no token (R318). -/
def exempt (e : Evt) : Bool := (1 ≤ e.code && e.code ≤ 5) || e.code == 0x50 || e.sev == 7

/-- Tokens left in a code's bucket (R318): it starts full. -/
def State.tokensOf (s : State) (c : Nat) : Nat := s.get (F.LOG_RATE_CAP c) - sparseGet 0 s.log.spent c

/-- An event reaches the recorder: rate limit first, then the freeze or the log (R318). -/
def State.arrive (s : State) (e : Evt) : State :=
  let c := e.code % 512
  if exempt e || s.get (F.LOG_RATE_CAP c) == 0 then
    let p := s.get (F.LOG_RATE_SUPPRESSED c)
    (s.put (F.LOG_RATE_SUPPRESSED c) 0).admitEvt e p
  else if s.tokensOf c = 0 then s.bump (F.LOG_RATE_SUPPRESSED c) 1
  else
    let s := s.setLog { s.log with spent := sparseSet 0 s.log.spent c (sparseGet 0 s.log.spent c + 1) }
    let p := s.get (F.LOG_RATE_SUPPRESSED c)
    (s.put (F.LOG_RATE_SUPPRESSED c) 0).admitEvt e p

/-- The TURN_MARK event of a Turn (R29). -/
def State.turnMark (s : State) : Evt := ⟨1, 2, 13, leBytes s.turn.toNat 6 ++ leBytes s.epoch.toNat 2⟩

/-! ### Clear, thaw, freeze at a boundary (R320 to R322) -/

/-- Write the queue, a LOST record if any event was lost, and a TURN_MARK; the log is no longer frozen. -/
def State.thaw (s : State) : State :=
  if s.frozen then
    let q := s.log.queue
    let lost := s.log.lost
    let s := s.setLog { s.log with queue := [], lost := 0, thawTurn := some s.turn }
    let s := s.each q (fun s e => s.writeRec e.1 true false e.2)
    let s := if lost = 0 then s else s.writeRec ⟨4, 3, 13, leBytes lost 4⟩ false false 0
    (s.writeRec s.turnMark false false 0).putB F.LOG_STATUS_FROZEN false
  else s

def State.freeze (s : State) : State := s.putB F.LOG_STATUS_FROZEN true

/-- Remove every record and write the one PROTECTED CLEARED record; a frozen log then thaws (R321). -/
def State.clearLog (s : State) (path : Nat) : State :=
  let n := s.log.recs.length
  let hi := match s.log.recs.getLast? with | some r => r.seq | none => 0
  let s := s.setLog { s.log with recs := [] }
  let s := s.writeRec ⟨2, 2, 13, leBytes n 4 ++ leBytes hi 4 ++ leBytes path 1⟩ false true 0
  s.thaw

/-! ### Reading (R323) -/

/-- Distance from `a` up to `b` in sequence order. -/
def seqDist (a b : Nat) : Nat := (b + 2 ^ 32 - a) % 2 ^ 32

/-- The record numbered `n`, or the next higher one held; the oldest for 0. -/
def nextHeld (n : Nat) (l : List LogRec) : Option LogRec :=
  if n = 0 then l.head?
  else (l.filter (fun r => seqDist n r.seq < 2 ^ 31)).foldl
    (fun b r => match b with
      | none => some r
      | some q => if seqDist n r.seq < seqDist n q.seq then some r else some q) none

/-- Up to `k` records in sequence order from number `n`. -/
def takeRecs : Nat → Nat → List LogRec → List LogRec
  | 0, _, _ => []
  | k + 1, n, l =>
    match nextHeld n l with
    | none => []
    | some r => r :: takeRecs k (seqNext r.seq) (l.filter (fun q => q.seq != r.seq))

/-! ### Meanings -/

/-- EVENT_ARRIVAL: the event that left first reaches the recorder (R318); none is taken before the recorder's self-test has ended
(R312). -/
def execEventArrival (fc : Nat) (s : State) : Host.Outcome State Fault Refusal :=
  let s := s.at fc
  match s.evOut with
  | [] => .next s
  | e :: t => .next (if s.pwr.starting || s.pwr.off then s else State.arrive { s with evOut := t } e)

/-- TURN_MARK: falls due every 65,536 Turns; at a thaw's boundary the thaw's own mark stands for it, and during start-up the one that ends
the self-test (R29, R312, R317). -/
def execTurnMark (fc : Nat) (s : State) : Host.Outcome State Fault Refusal :=
  let s := s.at fc
  if s.turn.toNat % 65536 = 0 ∧ s.log.thawTurn ≠ some s.turn ∧ !s.pwr.starting ∧ !s.pwr.off then
    .next (s.onceATurn 4 (fun s => s.emit s.turnMark.code s.turnMark.sev s.turnMark.unit s.turnMark.payload))
  else .next s

/-- RATE_REFILL: at a boundary whose count is a multiple of 1,024 every bucket gains REFILL, up to CAP (R318). -/
def execRateRefill (fc : Nat) (s : State) : Host.Outcome State Fault Refusal :=
  let s := s.at fc
  if s.turn.toNat % 1024 = 0 then
    .next (s.onceATurn 3 (fun s => s.setLog { s.log with
      spent := s.log.spent.foldr (fun e m => sparseSet 0 m e.1 (e.2 - s.get (F.LOG_RATE_REFILL e.1))) [] }))
  else .next s

/-- LOG_CLEAR by LOG_CTRL (`none`) or by the descriptor at a ring and an index of it: it applies at the boundary (R321, R322). -/
def execLogClear (fc : Nat) (k : Option (Nat × Nat)) (s : State) : Host.Outcome State Fault Refusal :=
  match k with
  | none => let s := s.at fc; .next (s.setLog { s.log with clearReq := true })
  | some k => .next (s.withDesc fc k.1 k.2 0x51 (fun d s => s.stage d.key .logClear))

/-- LOG_FREEZE by LOG_CTRL or by descriptor (R320, R322). -/
def execLogFreeze (fc : Nat) (k : Option (Nat × Nat)) (s : State) : Host.Outcome State Fault Refusal :=
  match k with
  | none => let s := s.at fc; .next (s.setLog { s.log with freezeReq := true })
  | some k => .next (s.withDesc fc k.1 k.2 0x52 (fun d s => s.stage d.key .logFreeze))

/-- LOG_THAW by LOG_CTRL or by descriptor (R320, R322). -/
def execLogThaw (fc : Nat) (k : Option (Nat × Nat)) (s : State) : Host.Outcome State Fault Refusal :=
  match k with
  | none => let s := s.at fc; .next (s.setLog { s.log with thawReq := true })
  | some k => .next (s.withDesc fc k.1 k.2 0x53 (fun d s => s.stage d.key .logThaw))

/-- The recorder's requests due at a boundary, in the order CLEAR, THAW, FREEZE (Table 13.4); `clearPath` is 0 for the
register and 1 for a descriptor. -/
def State.logBoundary (s : State) (clear : Option Nat) (thaw freeze : Bool) : State :=
  let s := match clear with | some p => s.clearLog p | none => s
  let s := if thaw then s.thaw else s
  if freeze then s.freeze else s

/-- LOG_RD_SEQ: copy the record numbered `v`, or the next higher held, or the oldest for 0, into LOG_RD_DATA (R323). -/
def execLogRdSeq (fc v : Nat) (s : State) : Host.Outcome State Fault Refusal :=
  let s := s.at fc
  let r := nextHeld (v % 2 ^ 32) s.log.recs
  let b := match r with | some r => recBytes r | none => []
  let s := s.put F.LOG_RD_SEQ_SEQ (match r with | some r => r.seq | none => 0)
  .next (s.each (List.range 8) (fun s w => s.put (F.LOG_RD_DATA_DATA w) (leAt b (4 * w) 4)))

/-- Retire a bank: its records are lost, the event goes to the witness registers, LOG_MEM is signalled and a LOG_SELF
record is written into a healthy bank, or waits in the holding queue of a frozen log (R324). -/
def State.retireBank (s : State) (bank kind : Nat) : State :=
  let gone := (s.log.recs.filter (fun r => r.bank == bank)).length
  let s := s.putBit F.LOG_BANK_RETIRED_RETIRED bank true
  let s := s.setLog { s.log with recs := s.log.recs.filter (fun r => r.bank != bank) }
  let healthy := s.banksOk.length
  let s := (s.raise 33).live 33 (healthy == 0)
  let e : Evt := ⟨5, 5, 13, leBytes bank 1 ++ leBytes kind 1 ++ leBytes gone 2 ++ leBytes healthy 1⟩
  let seq := s.get F.LOG_NEXT_SEQ_NEXT_SEQ
  if s.frozen then (s.witness 5 5 13 bank 0).admitEvt e 0
  else if healthy = 0 then s.writeRec e false false 0
  else (s.witness 5 5 13 bank (seq % 2048)).writeRec e false false 0

/-- LOG_MEM: an error of the log SRAM, `kind` 0 self-test, 1 read, 2 write. A single-bit error is corrected and counted;
any other retires its bank (R324). -/
def execLogMem (fc bank kind : Nat) (single : Bool) (s : State) : Host.Outcome State Fault Refusal :=
  let s := s.at fc
  let s' := if s.bankRetired bank then s
    else if single && kind != 0 then s.bump F.LOG_ECC_COUNT_CORRECTED 1
    else (s.bump F.LOG_ECC_COUNT_UNCORRECTED 1).retireBank bank kind
  okIf (bank < 32 && kind < 3) (s.awake s')

end Sys2Proof.Machine
end

