-- ==== Sys2Proof/Machine/Hif.lean ====
section
/-! DEFINITION. The Host Interface (spec/08): doorbells, descriptor fetch, the Host Window Table, transfer units and their
faults, the held list, link and ring configuration, and the ending of descriptors by a reset. -/
namespace Sys2Proof.Machine

/-! ### Doorbells (R197, R198) -/

/-- A read of the doorbell area goes out; nothing is fetched while the link is down (R194, R197). -/
def State.askDoorbells (s : State) : State :=
  if s.linkUp && !s.blockHeld .hif then s.setHif { s.hif with dbReads := s.hif.dbReads + 1 } else s

/-- Register commands number the 64 KiB of BAR2 from here on, above BAR0 (log entry 57). -/
def bar2 : Nat := 0x100000

/-- DOORBELL: a write at BAR2 offset 0, whatever its value, prompts a read of the doorbell area; a read issued before it does not satisfy it
(R193, R197). -/
def execDoorbell (fc : Nat) (s : State) : Host.Outcome State Fault Refusal :=
  .next (s.at fc).askDoorbells

/-- One tail of the doorbell area: a value of S or more is ignored, counted and signalled (R198). -/
def State.takeTail (s : State) (area : List Byte) (n : Nat) : State :=
  let t := leAt area (4 * n) 2
  if t < 2 ^ s.get (F.HIF_SQ_CFG_SIZE n) then s.put (F.HIF_SQ_TAIL_SEEN_TAIL n) t
  else (s.bump F.HIF_LINK_TAIL_ERRORS 1).raise 30

def State.takeHead (s : State) (area : List Byte) (n : Nat) : State :=
  s.put (F.HIF_CQ_HEAD_SEEN_HEAD n) (leAt area (32 + 4 * n) 2)

/-- DOORBELL_READ: the 64-byte area arrives (Table 8.1). -/
def execDoorbellRead (fc : Nat) (area : List Byte) (s : State) : Host.Outcome State Fault Refusal :=
  let s := s.at fc
  if s.hif.dbReads = 0 ∨ s.linkUp = false then .next s
  else
    let s := s.setHif { s.hif with dbReads := s.hif.dbReads - 1 }
    let s := s.each (List.range 8) (fun s n => s.takeTail area n)
    .next (s.each (List.range 8) (fun s n => s.takeHead area n))

/-! ### Fetch (R199, R201 to R203) -/

def State.sqPending (s : State) (n : Nat) : Nat :=
  let S := 2 ^ s.get (F.HIF_SQ_CFG_SIZE n)
  (s.get (F.HIF_SQ_TAIL_SEEN_TAIL n) + S - s.get (F.HIF_SQ_STATUS_HEAD n) % S) % S

/-- Descriptors of a ring in flight. -/
def State.sqInFlight (s : State) (n : Nat) : Nat := (s.hif.inflight.filter (fun d => d.sq == n)).length

/-- Completions of a completion ring in the held list. -/
def State.cqWaiting (s : State) (cq : Nat) : Nat := (s.hif.held.filter (fun c => c.cq.val == cq)).length

def State.fetchStopped (s : State) : Bool :=
  s.flag F.HIF_CTRL_PAUSE || !s.linkUp || s.hif.perst || s.blockHeld .hif

/-- The ring may be fetched from now. -/
def State.sqReady (s : State) (n : Nat) : Bool :=
  s.flag (F.HIF_SQ_CFG_EN n) && 0 < s.sqPending n && s.sqInFlight n < 4 && s.cqWaiting (s.cqOf n) == 0

/-- The first of `cand` after `last` in cyclic order of eight. -/
def afterCyclic (last : Nat) (cand : List Nat) : Option Nat :=
  ((List.range 8).map (fun i => (last + 1 + i) % 8)).find? (fun n => cand.contains n)

/-- The ring the module fetches from next (R201): highest PRIO first, round-robin within it. -/
def State.nextFetch (s : State) : Option Nat :=
  if s.fetchStopped || 32 ≤ s.hif.inflight.length then none
  else
    let cand := (List.range 8).filter s.sqReady
    match (cand.map (fun n => s.get (F.HIF_SQ_CFG_PRIO n))).max? with
    | none => none
    | some p => afterCyclic (s.hif.served.getD p 7) (cand.filter (fun n => s.get (F.HIF_SQ_CFG_PRIO n) == p))

/-- DESCRIPTOR_FETCH: the next descriptor's bytes arrive (R201, R202). It is accepted, or completes as malformed with
the offset of its first offending field, or 0xFFFF_FFFF for a parity failure (R203). -/
def execDescriptorFetch (fc : Nat) (bytes : List Byte) (parityOk : Bool) (s : State) : Host.Outcome State Fault Refusal :=
  let s := s.at fc
  match s.nextFetch with
  | none => .next s
  | some n =>
    let b := padTo 64 bytes
    let head := s.get (F.HIF_SQ_STATUS_HEAD n)
    let injected := s.flag F.FLT_INJECT_ARMED && s.get F.FLT_INJECT_CHECKER == 5 && s.get F.FLT_INJECT_INDEX == n
    let d : Desc := ⟨n, head, leAt b 2 2, byteAt b 0, byteAt b 1, b, s.turn, s.fc, s.hif.nextOrder, false, s.cqOf n⟩
    let s := s.put (F.HIF_SQ_STATUS_HEAD n) ((head + 1) % 2 ^ s.get (F.HIF_SQ_CFG_SIZE n))
    let served := s.hif.served.set (s.get (F.HIF_SQ_CFG_PRIO n)) n
    let s := s.setHif { s.hif with inflight := s.hif.inflight ++ [d], nextOrder := s.hif.nextOrder + 1, served := served }
    let s := if injected then (s.putB F.FLT_INJECT_ARMED false).bump F.FLT_INJ_COUNT_INJECTED 1 else s
    let bad := if parityOk && !injected then descBad s.variant b else some 0xFFFFFFFF
    match bad with
    | none => .next s
    | some off =>
      let s := (s.bump F.HIF_ERR_COUNT_MALFORMED 1).raise 30
      .next (s.failed d.key 1 off)

/-! ### Host Window Table (R216 to R218) -/

def hwtNone : HwtEntry := ⟨0, 0, false, false, false, false⟩
def State.hwtAt (s : State) (i : Nat) : HwtEntry := sparseGet hwtNone s.hif.hwt i
def State.hwtPut (s : State) (i : Nat) (e : HwtEntry) : State :=
  s.setHif { s.hif with hwt := sparseSet hwtNone s.hif.hwt i e }
def HwtEntry.pages (e : HwtEntry) : Nat := if e.big then 32 else 1
def HwtEntry.maps (e : HwtEntry) (va : Nat) : Bool :=
  e.v && (if e.big then va / 2 ^ 21 == e.va / 32 else va / 2 ^ 16 == e.va)
/-- The bus address an entry gives. -/
def HwtEntry.bus (e : HwtEntry) (va : Nat) : Nat :=
  if e.big then e.pa / 32 * 2 ^ 21 + va % 2 ^ 21 else e.pa * 2 ^ 16 + va % 2 ^ 16
def HwtEntry.overlaps (a b : HwtEntry) : Bool :=
  a.v && b.v && a.va < b.va + b.pages && b.va < a.va + a.pages
def HwtEntry.misaligned (e : HwtEntry) : Bool := e.big && (e.va % 32 != 0 || e.pa % 32 != 0)

/-- Translate an access (R217): the entry and bus address, or the fault kind 0 unmapped, 1 write not permitted, 2 read
not permitted. -/
def State.translate (s : State) (va : Nat) (wr : Bool) : Nat ⊕ (Nat × Nat) :=
  match s.hif.hwt.find? (fun e => e.2.maps va) with
  | none => .inl 0
  | some (i, e) =>
    if wr && !e.wr then .inl 1 else if !wr && !e.rd then .inl 2 else .inr (i, e.bus va)

/-- HWT_WRITE: install the entry of the VA and PA registers, refused for overlap, alignment, or while BUSY (R216). -/
def execHwtWrite (fc index : Nat) (s : State) : Host.Outcome State Fault Refusal :=
  let s := (s.at fc).put F.HIF_HWT_CMD_INDEX index
  let e : HwtEntry := ⟨s.get F.HIF_HWT_VA_VA, s.get F.HIF_HWT_PA_LO_PA + 2 ^ 32 * s.get F.HIF_HWT_PA_HI_PA,
    s.flag F.HIF_HWT_PA_HI_SIZE, s.flag F.HIF_HWT_PA_HI_RD, s.flag F.HIF_HWT_PA_HI_WR, s.flag F.HIF_HWT_PA_HI_V⟩
  let s' :=
    if s.flag F.HIF_HWT_CMD_BUSY then s.put F.HIF_HWT_CMD_ERR 3
    else if e.misaligned then s.put F.HIF_HWT_CMD_ERR 2
    else if s.hif.hwt.any (fun o => o.1 != index && e.overlaps o.2) then s.put F.HIF_HWT_CMD_ERR 1
    else (s.hwtPut index e).put F.HIF_HWT_CMD_ERR 0
  okIf (index < 1024) s'

/-- HWT_READ: copy an entry into the VA and PA registers (R216). -/
def execHwtRead (fc index : Nat) (s : State) : Host.Outcome State Fault Refusal :=
  let s := (s.at fc).put F.HIF_HWT_CMD_INDEX index
  let e := s.hwtAt index
  let s' :=
    if s.flag F.HIF_HWT_CMD_BUSY then s.put F.HIF_HWT_CMD_ERR 3
    else
      let s := ((s.put F.HIF_HWT_VA_VA e.va).put F.HIF_HWT_PA_LO_PA e.pa).put F.HIF_HWT_PA_HI_PA (e.pa / 2 ^ 32)
      let s := ((s.putB F.HIF_HWT_PA_HI_SIZE e.big).putB F.HIF_HWT_PA_HI_RD e.rd).putB F.HIF_HWT_PA_HI_WR e.wr
      (s.putB F.HIF_HWT_PA_HI_V e.v).put F.HIF_HWT_CMD_ERR 0
  okIf (index < 1024) s'

/-- HWT_INVALIDATE: the entry maps nothing from now on; BUSY stays 1 while a unit translated through it is in flight
(R218). -/
def execHwtInvalidate (fc index : Nat) (s : State) : Host.Outcome State Fault Refusal :=
  let s := (s.at fc).put F.HIF_HWT_CMD_INDEX index
  let s' :=
    if s.flag F.HIF_HWT_CMD_BUSY then s.put F.HIF_HWT_CMD_ERR 3
    else
      let s := (s.hwtPut index { s.hwtAt index with v := false }).put F.HIF_HWT_CMD_ERR 0
      match s.hif.cur with
      | some u =>
        if u.entry = index then (s.putB F.HIF_HWT_CMD_BUSY true).setHif { s.hif with draining := some index } else s
      | none => s
  okIf (index < 1024) s'

/-- HWT_INVALIDATE_DRAINED: no unit translated through the invalidated entry is in flight any more (R218). -/
def execHwtInvalidateDrained (fc : Nat) (s : State) : Host.Outcome State Fault Refusal :=
  let s := s.at fc
  match s.hif.draining with
  | none => .next s
  | some i =>
    if (match s.hif.cur with | some u => u.entry == i | none => false) then .next s
    else .next ((s.putB F.HIF_HWT_CMD_BUSY false).setHif { s.hif with draining := none })

/-! ### Transfers (R219 to R222) -/

/-- Does the transfer read host memory? -/
def XferKind.reads : XferKind → Bool
  | .planLoad _ _ => true
  | .token => true
  | .respond => true
  | _ => false

def Xfer.key (x : Xfer) : DescKey := (x.sq, x.order)
def State.findXfer (s : State) (k : DescKey) : Option Xfer := s.hif.xfers.find? (fun x => x.key == k)
def State.dropXfer (s : State) (k : DescKey) : State :=
  s.setHif { s.hif with xfers := s.hif.xfers.filter (fun x => x.key != k) }
def State.setXfer (s : State) (x : Xfer) : State :=
  s.setHif { s.hif with xfers := s.hif.xfers.map (fun y => if y.key == x.key then x else y) }
def State.findCapture (s : State) (e : Nat) : Option Capture := s.hif.captures.find? (fun c => c.engine == e)
def State.setCapture (s : State) (c : Capture) : State :=
  s.setHif { s.hif with captures := s.hif.captures.map (fun d => if d.engine == c.engine then c else d) }
def State.freeCapture (s : State) (e : Nat) : State :=
  s.setHif { s.hif with captures := s.hif.captures.filter (fun c => c.engine != e) }

/-- Bytes of one capture record (R78). -/
def Capture.recSize (c : Capture) : Nat := if c.point / 4096 = 0 then 48 else 128

/-- The 64-byte header of a capture (Table 3.6); its first record gives FIRST_TURN, FIRST_FC and EPOCH. -/
def Capture.header (c : Capture) : List Byte :=
  let tr := match c.trig with | some t => t | none => (0, 0)
  let r : CapRec := c.recs.headD ⟨tr.1, tr.2, 0, false, false, []⟩
  padTo 64 (leBytes (if c.point / 4096 = 0 then 1 else 2) 1 ++ [0] ++ leBytes c.point 2 ++ leBytes r.turn.toNat 6 ++
    leBytes r.fc 2 ++ leBytes c.recs.length 4 ++ leBytes tr.1.toNat 6 ++ leBytes tr.2 2 ++ leBytes c.before 4 ++ leBytes r.epoch 2 ++
    leBytes (b2n (c.recs.any (·.ovr)) + 2 * b2n (c.recs.any (·.dirty)) + 4 * b2n c.truncated + 8 * b2n c.late) 2)
/-- `n` bytes of the records from byte `pos` on. -/
def Capture.bytes (c : Capture) (pos n : Nat) : List Byte :=
  let l := (c.recs.drop (pos / c.recSize)).take (n / c.recSize + 2)
  ((l.flatMap (·.bytes)).drop (pos % c.recSize)).take n

/-- Bytes from `va` to the next 4 KiB boundary, at most `n` (R219). -/
def unitLen (va n : Nat) : Nat := min n (4096 - va % 4096)

/-- The next unit of a transfer: its address, its length, and the bytes it writes where the module has them; `none` when
the transfer has nothing to move now. The flag is true for a capture's header. -/
def State.nextUnit (s : State) (x : Xfer) : Option (Nat × Nat × List Byte × Bool) :=
  match x.kind with
  | .planLoad _ _ | .token | .respond =>
    if x.pos < x.len then some (x.va + x.pos, unitLen (x.va + x.pos) (x.len - x.pos), [], false) else none
  | .bytes d =>
    if x.pos < x.len then
      let n := unitLen (x.va + x.pos) (x.len - x.pos)
      some (x.va + x.pos, n, (d.drop x.pos).take n, false)
    else none
  | .log nx _ =>
    let n := unitLen (x.va + x.pos) (x.len - x.pos)
    let rs := takeRecs (n / 32) nx s.log.recs
    if rs.isEmpty then none else some (x.va + x.pos, 32 * rs.length, rs.flatMap recBytes, false)
  | .capture e =>
    match s.findCapture e with
    | none => none
    | some c =>
      let have_ := c.recs.length * c.recSize
      let n := unitLen (x.va + 64 + x.pos) ((if c.ended then have_ else c.want * c.recSize) - x.pos)
      -- a capture still recording waits for the whole unit (R219)
      if x.pos < have_ ∧ (c.ended ∨ (c.point / 4096 ≠ 0 ∧ c.trig.isSome ∧ x.pos + n ≤ have_)) then
        some (x.va + 64 + x.pos, n, c.bytes x.pos n, false)
      else if c.ended ∧ x.pos = have_ then some (x.va, 64, c.header, true)
      else none

/-- The order in which ready transfers get the link (R220): highest ring priority; among equals a pre-empted one first,
otherwise in turn by acceptance order. -/
def State.pickXfer (s : State) : Option Xfer :=
  let ready := s.hif.xfers.filter (fun x => !x.waits && (s.nextUnit x).isSome)
  let pr (x : Xfer) : Nat := s.get (F.HIF_SQ_CFG_PRIO x.sq)
  match (ready.map pr).max? with
  | none => none
  | some p =>
    let top := ready.filter (fun x => pr x == p)
    let pre := top.filter (fun x => x.preempted)
    let lowest (l : List Xfer) : Option Xfer := l.foldl (fun b x => match b with
      | none => some x | some y => if x.order < y.order then some x else some y) none
    match lowest pre with
    | some x => some x
    | none => match lowest (top.filter (fun x => s.hif.lastOrder < x.order)) with
      | some x => some x
      | none => lowest top

/-- A translation fault (R217): counted, captured, signalled. -/
def State.xlateFault (s : State) (va kind sq : Nat) : State :=
  let s := (s.bump F.HIF_ERR_COUNT_XLATE 1).put F.HIF_XLATE_LO_VA va
  ((s.put F.HIF_XLATE_HI_VA (va / 2 ^ 32)).put F.HIF_XLATE_HI_KIND kind).put F.HIF_XLATE_HI_SQ sq |>.raise 29

/-- End a transfer on a translation fault (R215, Table 8.8). -/
def State.xferFault (s : State) (x : Xfer) (va : Nat) (header : Bool) : State :=
  let k : DescKey := x.key
  let s := s.dropXfer k
  let (trunc, s) := match x.kind with
    | .capture e => (match s.findCapture e with | some c => c.truncated | none => false, s.freeCapture e)
    | _ => (false, s)
  let fl := (if x.preempted then 2 else 0) + (if header then 4 else 0)
  let det := va / 2 ^ 16
  let noPart := match x.kind with | .token => true | .respond => true | _ => x.pos == 0 && !header
  if trunc && !noPart then s.completeAt k 2 0 x.pos 0 fl s.turn s.fc
  else if noPart then s.completeAt k 3 2 0 det fl s.turn s.fc
  else s.completeAt k 2 2 x.pos det fl s.turn s.fc

/-- At a unit boundary, choose and translate the next unit (R217, R220). A fault ends its transfer and the choice is made
again; after a pre-empting transfer's fault on its first unit the one it pre-empted waits for the boundary (Table 8.8). -/
def State.chooseUnit : Nat → State → State
  | 0, s => s
  | n + 1, s =>
    if s.hif.cur.isSome || !s.linkUp then s
    else match s.pickXfer with
      | none => s
      | some x =>
        match s.nextUnit x with
        | none => s
        | some (va, len, bytes, header) =>
          -- an unfinished transfer of lower priority that has begun is pre-empted
          let pr (y : Xfer) : Nat := s.get (F.HIF_SQ_CFG_PRIO y.sq)
          let under (y : Xfer) : Bool := y.begun && decide (pr y < pr x) && y.order == s.hif.lastOrder
          let s := s.setHif { s.hif with xfers := s.hif.xfers.map (fun y => if under y then { y with preempted := true } else y) }
          match s.translate va (!x.kind.reads) with
          | .inl kind =>
            let s := (s.xlateFault va kind x.sq).xferFault x va header
            State.chooseUnit n (s.setHif { s.hif with xfers := s.hif.xfers.map (fun y =>
              if !x.begun && under y then { y with waits := true } else y) })
          | .inr (e, pa) =>
            let s := s.setXfer { x with begun := true }
            s.setHif { s.hif with cur := some ⟨x.sq, x.order, len, pa, e, bytes, header⟩, lastOrder := x.order }


/-- Put bytes into the image buffer (R178). -/
def imagePut (m : List Host.Cell) (off : Nat) : List Byte → List Host.Cell
  | [] => m
  | b :: t => imagePut (sparseSet Config.imageUnlisted m off b) (off + 1) t

/-- A byte of the image buffer. -/
def imageByte (m : List Host.Cell) (off : Nat) : Byte := sparseGet Config.imageUnlisted m off

def State.setPlan (s : State) (p : PlanCtl) : State := { s with plan := p }

/-- A read unit of a PLAN_LOAD fills the image buffer; a word written afresh is sound again (R173, R178). -/
def State.loadBytes (s : State) (off : Nat) (bytes : List Byte) : State :=
  let bad := s.plan.imageBad.filter (fun w => !(off ≤ 4 * w && 4 * w + 4 ≤ off + bytes.length))
  s.setPlan { s.plan with image := imagePut s.plan.image off bytes, imageBad := bad }

/-! The Shadow Plan is locked (R172, R179, R185, R191). -/

/-- A sequence of flash start or FLASH_LOAD is under way. -/
def State.flashBusy (s : State) : Bool := match s.flash.stage with | .idle => false | _ => true
/-- Autonomous start is under way (R191). -/
def State.autoStart (s : State) : Bool := s.flashBusy && s.flash.autostart
/-- Writes to the Shadow Plan are ignored, and loads and swaps refused: a parse, a pending swap, or autonomous start. -/
def State.shadowLocked (s : State) : Bool :=
  s.plan.parsing.isSome || s.plan.replace.isSome || s.plan.swap.isSome || s.autoStart

/-- A transfer has moved its last byte. -/
def State.xferDone (s : State) (x : Xfer) : State :=
  let k : DescKey := x.key
  let s := s.dropXfer k
  match x.kind with
  | .planLoad _ last =>
    if last then (s.setPlan { s.plan with parsing := some (.load k) }).putB F.PLAN_STATUS_PARSING true
    else s.done k x.len
  | .token => { s with sec := { s.sec with ops := s.sec.ops ++ [.token x.got (some k) none] } }
  | .respond => { s with sec := { s.sec with ops := s.sec.ops ++ [.respond x.got (some k)] } }
  | .bytes _ =>
    let conf := match s.findDesc k with | some d => d.opcode == Op.debugUnlock | none => false
    s.done k (if conf then 0 else x.len)
  | .log _ lastSeq => s.completeAt k 1 0 x.pos lastSeq 0 s.turn s.fc
  | .capture e =>
    let tr := match s.findCapture e with | some c => c.truncated | none => false
    (s.freeCapture e).completeAt k (if tr then 2 else 1) 0 (x.pos + 64) 0 0 s.turn s.fc

/-- A LOG_READ for which no record is left ends (R209): a bank that retired may have held them. -/
def State.endLogs (s : State) : State :=
  s.each (s.hif.xfers.filter (fun x => (match x.kind with | .log _ _ => true | _ => false) && (s.nextUnit x).isNone &&
    !(match s.hif.cur with | some u => (u.sq, u.order) == x.key | none => false))) State.xferDone
/-- At a unit boundary the next unit is chosen (R219, R220). -/
def State.choose (s : State) : State := let s := s.endLogs; State.chooseUnit (s.hif.xfers.length + 1) s

/-- A transfer becomes ready (R219). -/
def State.addXfer (s : State) (d : Desc) (kind : XferKind) (va len : Nat) : State :=
  let x : Xfer := ⟨d.sq, kind, va, len, 0, d.order, false, false, false, []⟩
  (s.setHif { s.hif with xfers := s.hif.xfers ++ [x] }).choose

/-- Account a unit of a transfer that has ended: `host` holds the bytes read from host memory. -/
def State.unitEnd (s : State) (u : UnitNow) (host : List Byte) : State :=
  match s.findXfer (u.sq, u.order) with
  | none => s
  | some x =>
    let data := padTo u.len host
    match x.kind with
    | .planLoad off _ =>
      -- a load that meets a parse or a pending swap copies no more (R179, R185)
      if s.shadowLocked then (s.dropXfer x.key).failed x.key 0x07 0
      else
        let s := s.loadBytes (off + x.pos) data
        let x := { x with pos := x.pos + u.len, preempted := false }
        let s := s.setXfer x
        if x.len ≤ x.pos then s.xferDone x else s
    | .token | .respond =>
      let x := { x with pos := x.pos + u.len, preempted := false, got := x.got ++ data }
      let s := s.setXfer x
      if x.len ≤ x.pos then s.xferDone x else s
    | .bytes _ =>
      let s := s.link (.data u.pa u.bytes)
      let x := { x with pos := x.pos + u.len, preempted := false }
      let s := s.setXfer x
      if x.len ≤ x.pos then s.xferDone x else s
    | .log _ _ =>
      let s := s.link (.data u.pa u.bytes)
      let last := leAt u.bytes (u.len - 32) 4
      -- a unit cut short held the last of the records
      let short := decide (u.len < unitLen (x.va + x.pos) (x.len - x.pos))
      let x := { x with pos := x.pos + u.len, preempted := false, kind := .log (seqNext last) last }
      let s := s.setXfer x
      if x.len ≤ x.pos ∨ short then s.xferDone x else s
    | .capture _ =>
      if u.header then (s.link (.data u.pa u.bytes)).xferDone x
      else
        let s := s.link (.data u.pa u.bytes)
        s.setXfer { x with pos := x.pos + u.len, preempted := false }

/-- TRANSFER_UNIT: the unit on the link completes and the next is chosen (R219, R220). `host` is what host memory
gives for a unit that reads it. -/
def execTransferUnit (fc : Nat) (host : List Byte) (s : State) : Host.Outcome State Fault Refusal :=
  let s := s.at fc
  match s.hif.cur with
  | none => .next s.choose
  | some u => .next ((s.setHif { s.hif with cur := none }).unitEnd u host).choose

/-! ### Rings (R195) -/

/-- SQ_CFG_WRITE. -/
def execSqCfgWrite (fc n v : Nat) (s : State) : Host.Outcome State Fault Refusal :=
  let s := s.at fc
  let en := bit v 0
  let size := bits v 1 4
  let s' :=
    if s.flag (F.HIF_SQ_CFG_EN n) then
      (s.put (F.HIF_SQ_CFG_PRIO n) (bits v 5 2)).putB (F.HIF_SQ_CFG_EN n) en
    else if en && !s.flag (F.HIF_CQ_CFG_EN (bits v 7 3)) then s.putB (F.HIF_SQ_STATUS_ERR n) true
    else
      let s := if 4 ≤ size ∧ size ≤ 12 then s.put (F.HIF_SQ_CFG_SIZE n) size else s
      let s := (s.put (F.HIF_SQ_CFG_PRIO n) (bits v 5 2)).put (F.HIF_SQ_CFG_CQ n) (bits v 7 3)
      if en then
        ((s.putB (F.HIF_SQ_CFG_EN n) true).put (F.HIF_SQ_STATUS_HEAD n) 0).putB (F.HIF_SQ_STATUS_ERR n) false
      else s
  okIf (n < 8) s'

/-- CQ_CFG_WRITE. -/
def execCqCfgWrite (fc n v : Nat) (s : State) : Host.Outcome State Fault Refusal :=
  let s := s.at fc
  let en := bit v 0
  let size := bits v 1 4
  let busy := (List.range 8).any (fun q => s.flag (F.HIF_SQ_CFG_EN q) && (s.cqOf q).val == n) ||
    s.hif.inflight.any (fun d => d.cq.val == n) || 0 < s.cqWaiting n
  let rest (s : State) : State :=
    let s := (s.put (F.HIF_CQ_CFG_VEC n) (bits v 5 6)).put (F.HIF_CQ_CFG_FAIL_IRQ n) (bits v 11 1)
    (s.put (F.HIF_CQ_CFG_COAL_COUNT n) (bits v 12 8)).put (F.HIF_CQ_CFG_COAL_TURNS n) (bits v 20 8)
  let s' :=
    if s.flag (F.HIF_CQ_CFG_EN n) then
      if !en && busy then s else (rest s).putB (F.HIF_CQ_CFG_EN n) en
    else
      let s := if 4 ≤ size ∧ size ≤ 12 then s.put (F.HIF_CQ_CFG_SIZE n) size else s
      let s := rest s
      if en then
        let s := ((s.putB (F.HIF_CQ_CFG_EN n) true).put (F.HIF_CQ_STATUS_TAIL n) 0).put (F.HIF_CQ_STATUS_PHASE n) 1
        s.setCoal n (0, none)
      else s
  okIf (n < 8) s'

/-- PAUSE: a write of HIF_CTRL.PAUSE stops or resumes the fetching of new descriptors (R201). -/
def execPause (fc : Nat) (on : Bool) (s : State) : Host.Outcome State Fault Refusal :=
  .next ((s.at fc).putB F.HIF_CTRL_PAUSE on)

/-- COALESCE_TIMEOUT: COAL_TURNS Turns have passed since the first completion not yet signalled (R228). -/
def execCoalesceTimeout (fc cq : Nat) (s : State) : Host.Outcome State Fault Refusal :=
  let s := s.at fc
  let n := s.get (F.HIF_CQ_CFG_COAL_TURNS cq)
  let s' := match (s.hif.coal.getD cq (0, none)).2 with
    | none => s
    | some t => if n ≠ 0 ∧ n ≤ turnsSince s.turn t then s.cqMessage cq else s
  okIf (cq < 8) s'

/-- HELD_COMPLETION_DELIVERY: the first held completion whose ring can take it is written with ORPHAN = 1 (R223). -/
def execHeldCompletionDelivery (fc : Nat) (s : State) : Host.Outcome State Fault Refusal :=
  let s := s.at fc
  match s.hif.held.find? (fun c => s.cqReady c.cq) with
  | none => .next s
  | some c =>
    .next ((s.setHif { s.hif with held := s.hif.held.erase c }).writeCpl { c with flags := c.flags ||| 1 })

/-- ORPHAN_DISCARD: delete the held completions of every disabled ring (R223). -/
def execOrphanDiscard (fc : Nat) (s : State) : Host.Outcome State Fault Refusal :=
  let s := s.at fc
  .next (s.setHif { s.hif with held := s.hif.held.filter (fun c => s.flag (F.HIF_CQ_CFG_EN c.cq)) })

/-- TRAP_CLEAR: PENDING clears and HOST_TRAP_N is released (R230); a trap of the same fc prevails (R11). -/
def execTrapClear (fc : Nat) (s : State) : Host.Outcome State Fault Refusal :=
  let s := s.at fc
  .next (if s.freshBits F.HIF_TRAP_PENDING ≠ 0 then s else (s.putB F.HIF_TRAP_PENDING false).putB F.HIF_TRAP_PIN false)

/-! ### Link (R192, R194, R222, R223) -/

/-- What the configuration space identifies the module by (R192). -/
structure PciIds where
  vendor : Nat
  device : Nat
  subVendor : Nat
  subsystem : Nat
  classCode : Nat
  revision : Nat
deriving DecidableEq, Repr
def pciIds (v : Variant) : PciIds := ⟨0x1F9E, partOf v, 0x1F9E, partOf v, 0x118000, 0x01⟩

/-- The link leaves DL_Active: HIF_LINK_DOWN is signalled; reads in progress are lost; transfers that have begun end
ABORTED_LINK (Table 8.8). -/
def State.linkGoesDown (s : State) (abort : Bool) : State :=
  if !s.linkUp then s
  else
    let s := (s.putB F.HIF_STATUS_LINK_UP false).put F.HIF_STATUS_SPEED 0 |>.put F.HIF_STATUS_WIDTH 0
    let s := ((s.bump F.HIF_LINK_DOWNS 1).raise 31).live 31 true
    let s := match s.hif.cur with
      | some u =>
        -- the bytes of the unit in progress are undefined in host memory (R222)
        let wr := match s.findXfer (u.sq, u.order) with | some x => !x.kind.reads | none => false
        let s := s.setHif { s.hif with cur := none, dbReads := 0 }
        if wr then (s.link (.data u.pa ((List.range u.len).map (fun i => BitVec.ofNat 8 (Config.openByte (s.free + i)))))).tick
        else s
      | none => s.setHif { s.hif with dbReads := 0 }
    if abort then
      s.each (s.hif.xfers.filter (fun x => x.begun)) (fun s x =>
        let s := s.dropXfer x.key
        let s := match x.kind with | .capture e => s.freeCapture e | _ => s
        s.completeAt x.key 5 0 x.pos 0 0 s.turn s.fc)
    else s

/-- HIF_LINK_DOWN. -/
def execHifLinkDown (fc : Nat) (s : State) : Host.Outcome State Fault Refusal := .next ((s.at fc).linkGoesDown true)

/-- LINK_UP: the link returns to DL_Active at a speed code 1 to 5 and a width of 1, 2 or 4 lanes (R192, R194). -/
def execLinkUp (fc speed width : Nat) (s : State) : Host.Outcome State Fault Refusal :=
  let s := s.at fc
  let s' := if s.hif.perst || s.pwr.off then s
    else ((((s.putB F.HIF_STATUS_LINK_UP true).put F.HIF_STATUS_SPEED speed).put F.HIF_STATUS_WIDTH width).live 31 false).choose
  okIf (1 ≤ speed && speed ≤ 5 && [1, 2, 4].contains width) s'

/-! ### Descriptors ended by a reset (R225, R226) -/

/-- RESULT of a descriptor that a reset ends: the bytes of its whole units. -/
def State.bytesOf (s : State) (d : Desc) : Nat :=
  match s.findXfer d.key with | some x => x.pos | none => 0

/-- Steps 1 to 4 of R225: complete the unit in progress, end every descriptor in flight ABORTED_RESET, and write the
RESET_ABORT record. With `hold` a completion that cannot be written is held; otherwise it is lost and counted. -/
def State.endDescriptors (s : State) (unit : List Byte) (hold : Bool) : State :=
  let s := match s.hif.cur with
    | some u => (s.setHif { s.hif with cur := none }).unitEnd u unit
    | none => s
  let ds := s.hif.inflight
  let n := ds.length
  let firstTag := match ds.head? with | some d => d.tag | none => 0
  let lastTag := match ds.getLast? with | some d => d.tag | none => 0
  let cpl (s : State) (d : Desc) : Cpl :=
    ⟨d.tag, d.idx, d.sq, d.opcode, 4, 0, s.turn, s.fc, s.bytesOf d, 0, 0, bit d.flags 0, d.cq⟩
  let lost := fun (s : State) => s.get F.HIF_ABORT_LOST
  let s := (s.put F.HIF_ABORT_LAST_COUNT n).put F.HIF_ABORT_LOST 0
  let s := s.each ds (fun s d =>
    let c := cpl s d
    if s.cqReady d.cq then s.writeCpl c
    else if hold then
      if s.hif.held.length < 256 then s.post c else (s.post c).bump F.HIF_ABORT_LOST 1
    else s.bump F.HIF_ABORT_LOST 1)
  let s := s.setHif { s.hif with inflight := [], xfers := [] }
  s.emit 0x50 5 1 (leBytes n 2 ++ leBytes firstTag 2 ++ leBytes lastTag 2 ++ leBytes (lost s) 2)

/-- SLOT_GAINs that wait or are staged are dropped: their slots keep the gain asked for before, as it would be staged (Table 8.9). -/
def State.dropGains (s : State) : State :=
  let want := s.fab.gainDone.foldr (fun g w => sparseSet (-600) w g.2.1 g.2.2.1) s.fab.want
  let next := s.fab.gainDone.foldr (fun g w => sparseInsert w g.2.1 g.2.2.2) s.fab.next
  { s with fab := { s.fab with gains := [], gainDone := [], want := want, next := next } }

/-- The operations of the ended descriptors (Table 8.9). -/
def State.endOperations (s : State) : State :=
  let s := match s.plan.swap with
    | some w => if w.desc.isSome then
        let s := (s.setPlan { s.plan with swap := none }).putB F.PLAN_STATUS_SWAP_PENDING false
        if w.mode = 2 then s else s.put F.PLAN_STATUS_LAST_SWAP 3
      else s
    | none => s
  let s := match s.plan.parsing with
    | some (.load _) => s.setPlan { s.plan with parsing := some .orphan }
    | _ => s
  let s := match s.plan.replace with
    | some (p, .load _) => s.setPlan { s.plan with replace := some (p, .orphan) }
    | _ => s
  let s := (s.setHif { s.hif with captures := [] }).dropGains
  let cal : Option Cal := s.cva.cal.map (fun c => { c with desc := none })
  let s : State := { s with staged := [], gouge := { s.gouge with snap := none }, cva := { s.cva with cal := cal } }
  let keep := s.sec.ops.filter (fun o => match o with
    | .token _ (some _) _ => false
    | .respond _ _ => false
    | _ => true)
  let s := { s with sec := { s.sec with ops := keep, withdrawn := [],
                                        burning := if keep == s.sec.ops then s.sec.burning else none } }
  match s.pwr.req with
  | some r => if r.desc.isSome then { s with pwr := { s.pwr with req := none, next := none, leaving := false } } else s
  | none => s

/-- Is a register key one of the HIF block that a Host Interface reset returns to its reset value (R226)? HIF_TRAP,
HIF_ORPHAN.LOST and HIF_ABORT are kept; LINK_UP, SPEED and WIDTH show the link itself. -/
def hifCleared (k : Nat) : Bool :=
  0x1000 * 32 ≤ k && k < 0x2000 * 32 && !(k / 32 == 0x1024) && !(k / 32 == 0x1030) &&
  !(k == F.HIF_ORPHAN_LOST.key) && !(k == F.HIF_STATUS_LINK_UP.key) && !(k == F.HIF_STATUS_SPEED.key) &&
  !(k == F.HIF_STATUS_WIDTH.key)

/-- Return the HIF registers to their reset values; every ring is disabled and every table entry invalid (R226). -/
def State.resetHif (s : State) : State :=
  let s := { s with regs := s.regs.filter (fun e => !hifCleared e.1),
                    latches := s.latches.filter (fun e => !(0x1000 ≤ e.1 && e.1 < 0x2000)) }
  s.setHif { s.hif with inflight := [], xfers := [], cur := none, dbReads := 0,
                        served := [7, 7, 7, 7], coal := List.replicate 8 (0, none), hwt := [], draining := none,
                        captures := [] }

/-- A block reset of the Host Interface (R225, R226): `unit` holds the bytes of the unit in progress. -/
def State.hifBlockReset (s : State) (unit : List Byte) : State :=
  ((s.endDescriptors unit true).endOperations).resetHif

/-- HIF_BLOCK_RESET: a write of HIF_CTRL.BLOCK_RESET. -/
def execHifBlockReset (fc : Nat) (unit : List Byte) (s : State) : Host.Outcome State Fault Refusal :=
  .next ((s.at fc).hifBlockReset unit)

/-- PERST_N_ASSERT: the link goes down at once, and the Host Interface is reset as a block reset (R225, R226). -/
def execPerstNAssert (fc : Nat) (unit : List Byte) (s : State) : Host.Outcome State Fault Refusal :=
  let s := s.at fc
  let s := s.awake ((s.linkGoesDown false).hifBlockReset unit)
  .next (s.setHif { s.hif with perst := true })

/-- PERST_N_RELEASE: the Host Interface leaves reset with its registers at their reset values (R226). -/
def execPerstNRelease (fc : Nat) (s : State) : Host.Outcome State Fault Refusal :=
  let s := s.at fc
  .next (s.setHif { s.hif with perst := false })

/-! ### Descriptors without a chapter of their own -/

/-- NOP: DONE on acceptance (Table 8.3). -/
def execNop (fc sq idx : Nat) (s : State) : Host.Outcome State Fault Refusal :=
  .next (s.withDesc fc sq idx Op.nop (fun d s => s.done d.key 0))

/-- FENCE: DONE once every earlier descriptor of its ring, or of every ring with ALL, has completed (Table 8.3). -/
def execFence (fc sq idx : Nat) (s : State) : Host.Outcome State Fault Refusal :=
  .next (s.withDesc fc sq idx Op.fence (fun _ s => State.settleFences s.hif.inflight.length s))

/-- LOG_READ: whole records in sequence order from FROM_SEQ or the oldest held after it (R209). -/
def execLogRead (fc sq idx : Nat) (s : State) : Host.Outcome State Fault Refusal :=
  .next (s.withDesc fc sq idx Op.logRead (fun d s =>
    if (nextHeld (dFromSeq d.body) s.log.recs).isNone then s.done d.key 0
    else s.addXfer d (.log (dFromSeq d.body) 0) (dAddr d.body) (dLen d.body)))

/-- COUNTER_READ: the registers are read at the first boundary after acceptance (R208). -/
def execCounterRead (fc sq idx : Nat) (s : State) : Host.Outcome State Fault Refusal :=
  .next (s.withDesc fc sq idx Op.counterRead (fun d s =>
    { s with staged := s.staged ++ [⟨d.key, s.turn + 1,
      .counterRead (dFirst d.body) (dCount d.body) (dAddr d.body)⟩] }))

/-- GAUGE_READ: the named entries are taken at the first boundary after acceptance (R209). -/
def execGaugeRead (fc sq idx : Nat) (s : State) : Host.Outcome State Fault Refusal :=
  .next (s.withDesc fc sq idx Op.gaugeRead (fun d s =>
    { s with staged := s.staged ++ [⟨d.key, s.turn + 1, .gaugeRead (dEntries d.body) (dAddr d.body)⟩] }))

end Sys2Proof.Machine
end

