-- ==== Sys2Proof/Machine/Faults.lean ====
section
/-! DEFINITION. The Fault Collector (spec/12): latching, capture, classification and reactions of source events, the closing of
windows, clearing, ALIVE, and the arming of injections. -/
namespace Sys2Proof.Machine

/-! ### Sources (Table 12.1) -/

/-- The block a BLOCK_RESET reaction of a source resets. -/
def srcBlock (i : Nat) : Option Block :=
  if i ≤ 4 then some .converters
  else if i ≤ 8 ∨ i = 46 then some .fabric
  else if i ≤ 10 then some .gouge
  else if i ≤ 15 then none
  else if i ≤ 20 then some .sequencer
  else if i = 21 then none
  else if i ≤ 24 then some .control
  else if i = 25 then some .pwm
  else if i ≤ 28 then some .gauge
  else if i ≤ 32 then some .hif
  else if i = 44 then some .apzer
  else none

/-- UNIT of a source's FAULT record: the position of its block (Tables 12.1 and 13.2; TURN_OVERRUN is the timebase's, log
entry 14). -/
def srcUnit (i : Nat) : Nat :=
  if i ≤ 4 then 4
  else if i ≤ 8 ∨ i = 46 then 5
  else if i ≤ 10 then 6
  else if i ≤ 15 then 7
  else if i ≤ 20 then 8
  else if i = 21 then 2
  else if i ≤ 24 then 11
  else if i = 25 then 10
  else if i ≤ 28 then 9
  else if i ≤ 32 then 1
  else if i ≤ 34 then 13
  else if i ≤ 37 then 14
  else if i ≤ 43 then 15
  else if i = 44 then 2
  else 3

/-- Sources sensed in the always-on domain (R304). -/
def srcAlwaysOn (i : Nat) : Bool := [33, 34, 35, 36, 37, 38, 39, 40, 43].contains i

def State.setFlt (s : State) (f : Flt) : State := { s with flt := f }

/-- Bit `i` of a pair of 32-bit fields. -/
def State.pairBit (s : State) (lo hi : Field) (i : Nat) : Bool :=
  if i < 32 then s.getBit lo i else s.getBit hi (i - 32)
def State.setPair (s : State) (lo hi : Field) (i : Nat) (b : Bool) : State :=
  if i < 32 then s.putBit lo i b else s.putBit hi (i - 32) b
def State.fltStatus (s : State) (i : Nat) : Bool := s.pairBit F.FLT_STATUS_LO_STATUS F.FLT_STATUS_HI_STATUS i
def State.fltPinAny (s : State) : Bool := s.flag F.FLT_PIN_LO_PIN || s.flag F.FLT_PIN_HI_PIN
def State.fltIrqAny (s : State) : Bool := s.flag F.FLT_IRQ_LO_IRQ || s.flag F.FLT_IRQ_HI_IRQ

/-! ### An event at the collector (R294 to R298) -/

/-- Latch and capture: FIRST when the status bit was clear, LAST and COUNT always (R296, R297). -/
def State.latchSrc (s : State) (i : Nat) : State :=
  let t := s.turn.toNat
  -- a FAULT trigger waits for the latch (R79)
  let s := if s.fltStatus i then s
    else let s := s.setFlt { s.flt with latchAt := some s.now }
      ((s.put (F.FLT_SRC_FIRST_LO_TURN i) t).put (F.FLT_SRC_FIRST_HI_TURN i) (t / 2 ^ 32)).put (F.FLT_SRC_FIRST_HI_FC i) s.fc
  let s := ((s.put (F.FLT_SRC_LAST_LO_TURN i) t).put (F.FLT_SRC_LAST_HI_TURN i) (t / 2 ^ 32)).put (F.FLT_SRC_LAST_HI_FC i) s.fc
  (s.bump (F.FLT_SRC_COUNT_COUNT i) 1).setPair F.FLT_STATUS_LO_STATUS F.FLT_STATUS_HI_STATUS i true

/-- The open window of a source has reached its end under the W in force (R298, R308). -/
def State.windowOver (s : State) (i : Nat) : Bool :=
  s.flag (F.FLT_SRC_COUNT_OPEN i) &&
  s.act (F.FLT_SRC_CLASS_W i) ≤ turnsSince s.turn (BitVec.ofNat 48 (sparseGet 0 s.flt.winStart i))

/-- Close a source's window: its count returns to 0 (R298). -/
def State.closeWindow (s : State) (i : Nat) : State :=
  ((s.putB (F.FLT_SRC_COUNT_OPEN i) false).put (F.FLT_SRC_COUNT_WINDOW i) 0).setFlt
    { s.flt with winStart := sparseErase s.flt.winStart i }

/-- Count an event in the source's window, opening one when none is open; true when the event is severe (R298). -/
def State.classify (s : State) (i : Nat) : State × Bool :=
  let s := if s.windowOver i then s.closeWindow i else s
  let s := if s.flag (F.FLT_SRC_COUNT_OPEN i) then s
    else (s.putB (F.FLT_SRC_COUNT_OPEN i) true).setFlt { s.flt with winStart := sparseInsert s.flt.winStart i s.turn.toNat }
  let s := s.bump (F.FLT_SRC_COUNT_WINDOW i) 1
  let sev := s.act (F.FLT_SRC_CLASS_N i) ≤ s.get (F.FLT_SRC_COUNT_WINDOW i)
  (if sev then s.setPair F.FLT_SEVERE_LO_SEVERE F.FLT_SEVERE_HI_SEVERE i true else s, sev)

/-- One accepted event: status, capture, class and its record; answers the reaction set (R300). The recorder's own
sources write no FAULT record (R326). -/
def State.takeEvent (s : State) (i : Nat) : State × Nat :=
  let s := s.latchSrc i
  let (s, sev) := s.classify i
  let s := if i = 33 ∨ i = 34 then s
    else s.emit (0x10 + i) (if sev then 5 else 4) (srcUnit i)
      (leBytes i 1 ++ leBytes (b2n sev) 1 ++ leBytes (s.get (F.FLT_SRC_COUNT_WINDOW i)) 1 ++
        leBytes (s.get (F.FLT_SRC_COUNT_COUNT i)) 2)
  (s, s.act (if sev then F.FLT_SRC_REACT_SEVERE i else F.FLT_SRC_REACT_MINOR i))

/-- Take each event in turn; answers the sources with their reaction sets. -/
def State.takeEvents (s : State) : List Nat → State × List (Nat × Nat)
  | [] => (s, [])
  | i :: t =>
    let (s, r) := s.takeEvent i
    let (s, rs) := s.takeEvents t
    (s, (i, r) :: rs)

/-! ### Reactions (Table 12.2) -/

/-- Sources whose set names reaction `b`. -/
def withReaction (rs : List (Nat × Nat)) (b : Nat) : List Nat := (rs.filter (fun e => bit e.2 b)).map (·.1)

/-- IRQ: the bits of FLT_IRQ, and internal interrupt source 0 when it leaves all zero. -/
def State.reactIrq (s : State) (l : List Nat) : State :=
  if l.isEmpty then s
  else
    let was := s.fltIrqAny
    let s := s.each l (fun s i => s.setPair F.FLT_IRQ_LO_IRQ F.FLT_IRQ_HI_IRQ i true)
    if was then s else s.irq 0

/-- TRAP: PENDING, HOST_TRAP_N low, vector 0 (R230). -/
def State.trap (s : State) : State :=
  let s := (s.putB F.HIF_TRAP_PENDING true).putB F.HIF_TRAP_PIN true
  (s.bump F.HIF_TRAP_COUNT 1).sendVec 0

/-- ERROR_PIN: the bits of FLT_PIN; ALIVE stops when the first of them is set (R306). -/
def State.reactPin (s : State) (l : List Nat) : State :=
  if l.isEmpty then s
  else
    let was := s.fltPinAny
    let s := s.each l (fun s i => s.setPair F.FLT_PIN_LO_PIN F.FLT_PIN_HI_PIN i true)
    if was then s else (s.putB F.FLT_ALIVE_STOPPED true).bump F.FLT_ALIVE_STOPS 1

/-- Chip resets of the last 8,388,608 Turns (R305). -/
def State.recentResets (s : State) : List TurnNo := s.flt.resets.filter (fun t => turnsSince s.turn t < 8388608)

/-- CHIP_RESET: it starts the ending of descriptors; a fourth within 8,388,608 Turns is replaced by SAFE (R303, R305). -/
def State.reactChip (s : State) (l : List Nat) : State :=
  match l.min? with
  | none => s
  | some i =>
    if s.flt.chipReset.isSome then s
    else if 3 ≤ s.recentResets.length then
      (s.bump F.FLT_RESET_SUPPRESSED 1).setFlt { s.flt with safeDue := true }
    else
      s.setFlt { s.flt with chipReset := some i }

/-- BLOCK_RESET: the blocks are held from the next boundary; one already held or scheduled adds nothing (R300, R302). -/
def State.reactBlock (s : State) (l : List Nat) : State :=
  s.each (l.filterMap srcBlock) (fun s b =>
    if s.flt.held.contains b || s.flt.holdNext.contains b then s
    else s.setFlt { s.flt with holdNext := s.flt.holdNext ++ [b] })

/-- Carry out the union of the reaction sets once (R300); with a chip reset, no block reset (Table 12.4). -/
def State.react (s : State) (rs : List (Nat × Nat)) : State :=
  let s := s.reactIrq (withReaction rs 0)
  let s := if (withReaction rs 1).isEmpty then s else s.trap
  let s := s.reactPin (withReaction rs 4)
  let chip := withReaction rs 3
  let s := s.reactChip chip
  if !chip.isEmpty && s.flt.chipReset.isSome then s else s.reactBlock (withReaction rs 2)

/-- The block of a source is held in reset, so the collector ignores its lines (R295). -/
def State.srcHeld (s : State) (i : Nat) : Bool := match srcBlock i with | some b => s.blockHeld b | none => false

/-- FAULT_EVENT: the events of these sources reach the collector in one fc. Each that a block has raised is taken, once
per source (R294); those of a block in reset are ignored (R295). -/
def execFaultEvent (fc : Nat) (srcs : List Nat) (s : State) : Host.Outcome State Fault Refusal :=
  let s := s.at fc
  let take := (List.range 47).filter (fun i => srcs.contains i && s.flt.raised.contains i)
  let s := s.setFlt { s.flt with raised := s.flt.raised.filter (fun i => !take.contains i) }
  let (s, rs) := s.takeEvents (take.filter (fun i => !s.srcHeld i))
  .next (s.react rs)

/-- FAULT_WINDOW_CLOSE: a source's window reaches its end (R298, R308). -/
def execFaultWindowClose (fc i : Nat) (s : State) : Host.Outcome State Fault Refusal :=
  let s := s.at fc
  okIf (i < 47) (if s.windowOver i then s.closeWindow i else s)

/-- A source latched in this very fc. -/
def State.freshSrc (s : State) (i : Nat) : Bool :=
  if i < 32 then bit (s.freshBits F.FLT_STATUS_LO_STATUS) i else bit (s.freshBits F.FLT_STATUS_HI_STATUS) (i - 32)

/-- Clear bit `i` of FLT_STATUS, or refuse it while the source is live (R299). An event of the same fc prevails, with its capture
(R11). -/
def State.clearSrc (s : State) (i : Nat) : State :=
  if s.freshSrc i then s
  else if s.isLive i && !s.srcHeld i then s.bump F.FLT_CLEAR_REFUSED_CLEAR_REFUSED 1
  else
    let s := s.setPair F.FLT_STATUS_LO_STATUS F.FLT_STATUS_HI_STATUS i false
    let s := s.setPair F.FLT_SEVERE_LO_SEVERE F.FLT_SEVERE_HI_SEVERE i false
    let s := s.setPair F.FLT_PIN_LO_PIN F.FLT_PIN_HI_PIN i false
    let s := ((s.put (F.FLT_SRC_FIRST_LO_TURN i) 0).put (F.FLT_SRC_FIRST_HI_TURN i) 0).put (F.FLT_SRC_FIRST_HI_FC i) 0
    let s := ((s.put (F.FLT_SRC_LAST_LO_TURN i) 0).put (F.FLT_SRC_LAST_HI_TURN i) 0).put (F.FLT_SRC_LAST_HI_FC i) 0
    s.put (F.FLT_SRC_COUNT_COUNT i) 0

/-- FLT_STATUS_CLEAR: a write of `v` to FLT_STATUS_LO, or to FLT_STATUS_HI with `hi` (R299); reserved positions ignore
the write (R293). -/
def execFltStatusClear (fc : Nat) (hi : Bool) (v : Nat) (s : State) : Host.Outcome State Fault Refusal :=
  let l := if hi then ((List.range 15).filter (bit v)).map (· + 32) else (List.range 32).filter (bit v)
  .next ((s.at fc).each l State.clearSrc)

/-- ALIVE_TOGGLE: at a boundary whose count is a multiple of 16 ALIVE changes level, unless FLT_PIN holds it, start-up
is not over, or the spindle is frozen (R306); it does so once in a Turn. -/
def execAliveToggle (fc : Nat) (s : State) : Host.Outcome State Fault Refusal :=
  let s := s.at fc
  if s.turn.toNat % 16 ≠ 0 ∨ s.fltPinAny ∨ s.pwr.starting ∨ s.pwr.off ∨ s.pwr.clkLost then .next s
  else .next (s.onceATurn 2 (fun s => (s.put F.FLT_ALIVE_LEVEL (1 - s.get F.FLT_ALIVE_LEVEL)).putB F.FLT_ALIVE_STOPPED false))

end Sys2Proof.Machine
end

