-- ==== Sys2Proof/Machine/Crypto.lean ====
section
/-! DEFINITION. SHA-256 (FIPS 180-4) and the verification of ECDSA signatures on P-256 (FIPS 186-5), the algorithms R328
names. Their constants and steps are those of the standards, not of spec/ (PRESUMED, log entry 4). -/
namespace Sys2Proof.Machine

/-! ### SHA-256 -/

abbrev W32 := BitVec 32

/-- The largest root of order `e` of `n` that agrees with `r` above its low `k` bits. -/
def rootBits (e n : Nat) : Nat → Nat → Nat
  | 0, r => r
  | k + 1, r => rootBits e n k (if (r + 2 ^ k) ^ e ≤ n then r + 2 ^ k else r)
/-- The first 32 bits of the fraction of the root of order `e` of `n`: the standard defines its constants so. -/
def rootFraction (e n : Nat) : W32 := BitVec.ofNat 32 (rootBits e (n * 2 ^ (32 * e)) 36 0)
/-- The first 64 primes: the numbers up to 311 that no smaller one up to 17 divides. -/
def shaPrimes : List Nat :=
  (List.range 312).filter (fun n => 2 ≤ n && ((List.range 18).drop 2).all (fun d => n ≤ d || n % d != 0))
/-- The constants of the rounds, and the words that hashing starts from. -/
def roundWords : List W32 := shaPrimes.map (rootFraction 3)
def startWords : List W32 := (shaPrimes.take 8).map (rootFraction 2)

/-- The exclusive or of a word rotated right by each of some amounts. -/
def spin (x : W32) (l : List Nat) : W32 := l.foldl (fun a n => a ^^^ x.rotateRight n) 0

/-- One round on the eight working words, with its constant and its word of the message. -/
def hashRound (v : List W32) (kw : W32) : List W32 :=
  match v with
  | [a, b, c, d, e, f, g, h] =>
    let pick := g ^^^ (e &&& (f ^^^ g))
    let most := (a &&& b) ||| (c &&& (a ||| b))
    let t := h + spin e [6, 11, 25] + pick + kw
    [t + spin a [2, 13, 22] + most, a, b, c, d + t, e, f, g]
  | _ => v

/-- The words of the message still to come, `n` of them, from the last sixteen. -/
def moreWords : Nat → List W32 → List W32
  | 0, _ => []
  | n + 1, l =>
    let at_ (i : Nat) : W32 := l.getD i 0
    let w := at_ 0 + (spin (at_ 1) [7, 18] ^^^ (at_ 1 >>> 3)) + at_ 9 + (spin (at_ 14) [17, 19] ^^^ (at_ 14 >>> 10))
    w :: moreWords n (l.drop 1 ++ [w])

/-- Sixteen big-endian words of a block. -/
def blockWords (l : List Byte) : List W32 :=
  (List.range 16).map (fun i => BitVec.ofNat 32 (leAt ((l.drop (4 * i)).take 4).reverse 0 4))

/-- A block of 64 bytes: 64 rounds, and their outcome added word by word. -/
def hashBlock (v : List W32) (block : List Byte) : List W32 :=
  let first := blockWords block
  let words := first ++ moreWords 48 first
  let out := ((words.zip roundWords).map (fun e => e.1 + e.2)).foldl hashRound v
  (v.zip out).map (fun e => e.1 + e.2)

/-- `n` blocks one after the other. -/
def hashBlocks : Nat → List W32 → List Byte → List W32
  | 0, v, _ => v
  | n + 1, v, l => hashBlocks n (hashBlock v (l.take 64)) (l.drop 64)

/-- The SHA-256 digest, 32 bytes: the message is followed by a one bit, zeros, and its length in bits in the last 8 bytes of a block. -/
def sha256 (m : List Byte) : List Byte :=
  let blocks := (m.length + 72) / 64
  let padded := padTo (64 * blocks - 8) (m ++ [0x80]) ++ (leBytes (8 * m.length) 8).reverse
  (hashBlocks blocks startWords padded).flatMap (fun w => (leBytes w.toNat 4).reverse)

/-- A digest as the integer ECDSA uses: its bytes, the first most significant. -/
def beNat (l : List Byte) : Nat := l.foldl (fun n b => n * 256 + b.toNat) 0

/-! ### ECDSA on P-256 -/

namespace P256
def p : Nat := 0xffffffff00000001000000000000000000000000ffffffffffffffffffffffff
def n : Nat := 0xffffffff00000000ffffffffffffffffbce6faada7179e84f3b9cac2fc632551
def b : Nat := 0x5ac635d8aa3a93e7b3ebbd55769886bc651d06b0cc53b0f63bce3c3e27d2604b
def gx : Nat := 0x6b17d1f2e12c4247f8bce6e563a440f277037d812deb33a0f4a13945d898c296
def gy : Nat := 0x4fe342e2fe1a7f9b8ee7eb4a7c0f9e162bce33576b315ececbb6406837bf51f5
end P256

/-- `x ^ e` modulo `m`, over the low `k` bits of `e`. -/
def powMod (m : Nat) : Nat → Nat → Nat → Nat
  | 0, _, _ => 1 % m
  | k + 1, x, e =>
    let r := powMod m k (x * x % m) (e / 2)
    if e % 2 = 1 then r * x % m else r

/-- The inverse modulo a prime. -/
def invMod (m x : Nat) : Nat := powMod m 256 (x % m) (m - 2)

/-- A point of the curve as x = X / Z^2 and y = Y / Z^3; Z = 0 is the point at infinity. No addition needs an inverse. -/
structure Point where
  x : Nat
  y : Nat
  z : Nat
deriving DecidableEq, Repr

def subMod (m a b : Nat) : Nat := (a + m - b % m) % m

/-- Twice a point, for the curve's coefficient -3. -/
def pointDouble (P : Point) : Point :=
  let m := P256.p
  let d := P.z * P.z % m
  let g := P.y * P.y % m
  let b := P.x * g % m
  let a := 3 * subMod m P.x d * (P.x + d) % m
  let x := subMod m (a * a % m) (8 * b)
  ⟨x, subMod m (a * subMod m (4 * b) x) (8 * g * g), 2 * P.y * P.z % m⟩

def pointAdd (P Q : Point) : Point :=
  if P.z = 0 then Q
  else if Q.z = 0 then P
  else
    let m := P256.p
    let pz := P.z * P.z % m
    let qz := Q.z * Q.z % m
    let u := P.x * qz % m
    let v := P.y * qz * Q.z % m
    let h := subMod m (Q.x * pz) u
    let r := subMod m (Q.y * pz * P.z) v
    if h = 0 then (if r = 0 then pointDouble P else ⟨1, 1, 0⟩)
    else
      let h2 := h * h % m
      let h3 := h * h2 % m
      let t := u * h2 % m
      let x := subMod m (r * r % m) (h3 + 2 * t)
      ⟨x, subMod m (r * subMod m t x) (v * h3), h * P.z * Q.z % m⟩

/-- `k` times a point, over the low `n` bits of `k`. -/
def pointMul : Nat → Nat → Point → Point
  | 0, _, _ => ⟨1, 1, 0⟩
  | n + 1, k, P =>
    let R := pointMul n (k / 2) (pointDouble P)
    if k % 2 = 1 then pointAdd R P else R

def onCurve (x y : Nat) : Bool :=
  x < P256.p && y < P256.p && (y * y) % P256.p == (x * x * x + (P256.p - 3) * x + P256.b) % P256.p

/-- ECDSA verification of a message with the public key and signature held as R328 holds them: little-endian x, y, r, s. -/
def ecdsaVerify (msg pubkey sig : List Byte) : Bool :=
  let x := leAt pubkey 0 32
  let y := leAt pubkey 32 32
  let r := leAt sig 0 32
  let s := leAt sig 32 32
  let q := P256.n
  if !onCurve x y || r == 0 || s == 0 || q ≤ r || q ≤ s then false
  else
    let e := beNat (sha256 msg)
    let w := invMod q s
    let P := pointAdd (pointMul 256 (e * w % q) ⟨P256.gx, P256.gy, 1⟩) (pointMul 256 (r * w % q) ⟨x, y, 1⟩)
    P.z != 0 && P.x * invMod P256.p (P.z * P.z) % P256.p % q == r

end Sys2Proof.Machine
end

