-- ==== Sys2Proof/Machine/Chuck.lean ====
section
/-! DEFINITION. The Chuck (spec/14): OTP, lifecycle, provisioning records, consent tokens and what they cover, withdrawal and
the consent counter, debug sessions, JTAG, tamper and the self-test. -/
namespace Sys2Proof.Machine

def State.setSec (s : State) (c : Sec) : State := { s with sec := c }

/-! ### Lifecycle and keys (R331, R334) -/

def Otp.has (o : Otp) (action : Nat) : Bool := o.rows.any (fun r => r.committed && r.action == action)

/-- The lifecycle the committed rows give (Table 14.4). -/
def Otp.lifecycle (o : Otp) : Nat := if o.has 5 then 4 else if o.has 4 then 2 else if o.has 1 then 1 else 0

/-- The lifecycle; SERVICE while a session is open in FIELD (R334). -/
def State.lifecycle (s : State) : Nat :=
  let l := s.sec.otp.lifecycle
  if l = 2 ∧ s.sec.session.isSome then 3 else l

/-- The hash installed in a key slot (8 the service key slot), if any row installed one. -/
def Otp.keyHash (o : Otp) (k : Nat) : Option (List Byte) :=
  (o.rows.find? (fun r => r.committed && (r.action == 1 || r.action == 2) && r.slot == k)).map (·.keyHash)
/-- 0 EMPTY, 1 INSTALLED, 2 REVOKED. -/
def Otp.keyState (o : Otp) (k : Nat) : Nat :=
  if (o.keyHash k).isNone then 0
  else if o.rows.any (fun r => r.committed && r.action == 3 && r.slot == k) then 2 else 1

/-- The RWL fields are locked in FIELD, SERVICE and RETIRED (R334). -/
def State.rwlLocked (s : State) : Bool := 2 ≤ s.lifecycle

def State.selfTestOk (s : State) : Bool := s.get F.SEC_STATUS_SELF_TEST == 1

/-- Set a SEC_IRQ flag; internal interrupt source 7 on its change from 0 to 1 while EN is 1 (R353). -/
def State.secFlag (s : State) (f : Field) : State :=
  let was := s.flag f
  let s := s.putB f true
  if !was && s.flag F.SEC_IRQ_EN then s.irq 7 else s

/-- The verdict of an operation: 0 token, 1 provisioning, 2 debug, 3 sealed set. -/
def State.verdict (s : State) (op reason : Nat) : State :=
  ((s.put F.SEC_LAST_VERDICT_REASON reason).put F.SEC_LAST_VERDICT_OPERATION op).secFlag F.SEC_IRQ_VERDICT

/-- A failed signature or authentication (R336, R344, R349): SEC_AUTH_FAIL and an AUTH_FAIL event. -/
def State.authFail (s : State) (op reason : Nat) : State :=
  (s.raise 37).emit 0xC2 3 14 (leBytes op 1 ++ leBytes reason 1 ++ leBytes (s.get F.SEC_DEBUG_AUTH_FAILS) 1)

/-- LIFECYCLE_CHANGE when the lifecycle is no longer `old`. -/
def State.noteLifecycle (s : State) (old : Nat) : State :=
  if s.lifecycle = old then s else s.emit 0xBB 2 0 (leBytes old 1 ++ leBytes s.lifecycle 1)

/-! ### Sessions (R344, R345, R348) -/

/-- End an open session for a cause of Table 14.10: halts are released, probes stop, a raw capture stops with TRUNCATED. -/
def State.endSession (s : State) (cause : Nat) : State :=
  match s.sec.session with
  | none => s
  | some _ =>
    let old := s.lifecycle
    let s := s.setSec { s.sec with session := none, jtag := if s.sec.jtag = .probe then .bypass else s.sec.jtag }
    let s := s.releaseHalt
    let raw (c : Capture) : Bool := c.point / 4096 == 0 && bits c.point 0 8 < nAdcOf s.variant
    let caps := s.hif.captures.map (fun c => if raw c && !c.ended then { c with ended := true, truncated := true } else c)
    let s := (s.setHif { s.hif with captures := caps }).choose
    let s := (s.emit 0xC1 2 14 (leBytes cause 1)).secFlag F.SEC_IRQ_SESSION_END
    s.noteLifecycle old

def State.dropChallenge (s : State) : State := s.setSec { s.sec with challenge := none }
def State.eraseTokens (s : State) : State := s.setSec { s.sec with tokens := [] }

/-! ### Cover (R182, R338) -/

/-- A slot's occupied band in units of 2^-32 Hz: centre FREQ × 24.576 GHz / 2^32, half width BW × 5 kHz (R66). -/
def Plan.band (p : Plan) (s : Nat) : Int × Int :=
  let c : Int := (p.get (F.CHZ_SLOT_FREQ_FREQ s) : Int) * 24576000000
  let h : Int := (p.get (F.CHZ_SLOT_BW_BW s) : Int) * 5000 * 2 ^ 32
  (c - h, c + h)
def kHz (n : Nat) : Int := (n : Int) * 1000 * 2 ^ 32
def Plan.slotOn (p : Plan) (s : Nat) : Bool := p.on (F.CHZ_SLOT_CFG_EN s)

/-- The consent covers the slot of the Plan (R182): its digest is listed, its serial range holds this module, and the
slot's band lies wholly inside one of its ranges for the slot's direction. -/
def Token.covers (t : Token) (serial : Nat) (p : Plan) (s : Nat) : Bool :=
  let b := p.band s
  p.consent.contains t.digest && t.serialLo ≤ serial && serial ≤ t.serialHi &&
  (if slotIsUl s then t.ul else t.dl) &&
  t.ranges.any (fun r => r.1 == slotIsUl s && decide (kHz r.2.1 ≤ b.1) && decide (b.2 ≤ kHz r.2.2))

/-- The governing token of a slot: highest MAX_GAIN, then MAX_LEVEL, then lowest store index (R338). -/
def State.governing (s : State) (p : Plan) (sl : Nat) : Option Token :=
  (s.sec.tokens.filter (fun t => t.covers s.sec.otp.serial p sl)).foldl
    (fun b t => match b with
      | none => some t
      | some u =>
        if u.maxGain < t.maxGain ∨ (u.maxGain = t.maxGain ∧ (u.maxLevel < t.maxLevel ∨
            (u.maxLevel = t.maxLevel ∧ t.index < u.index))) then some t else some u) none

/-! ### Consent tokens and withdrawals (R335 to R342) -/

/-- Reserved and used bytes of a token's ranges: range `r` as (uplink, lower, upper). -/
def tokRange (b : List Byte) (r : Nat) : Bool × Nat × Nat :=
  let lo := leAt b (40 + 8 * r) 4
  (bit lo 31, lo % 2 ^ 31, leAt b (44 + 8 * r) 4)

/-- Check 1 of R336: the format of R335. -/
def tokenFormat (b : List Byte) : Bool :=
  let kind := byteAt b 5
  let fl := byteAt b 7
  let n := byteAt b 14
  b.length == 256 && leAt b 0 4 == 0x54435747 && byteAt b 4 == 1 && byteAt b 6 < 8 && 1 ≤ leAt b 12 2 && byteAt b 15 == 0 &&
  zerosAt b 38 2 && zerosAt b 104 24 &&
  (if kind = 1 then
    1 ≤ fl && fl ≤ 3 && 1 ≤ n && n ≤ 8 && leAt b 16 8 ≤ leAt b 24 8 &&
    decide (-600 ≤ sgn 16 (leAt b 32 2)) && decide (sgn 16 (leAt b 32 2) ≤ 1200) && decide (sgn 16 (leAt b 34 2) ≤ 0) &&
    (List.range n).all (fun r =>
      let g := tokRange b r
      350000 ≤ g.2.1 && g.2.1 < g.2.2 && g.2.2 ≤ 7125000 && bit fl (b2n g.1)) &&
    zerosAt b (40 + 8 * n) (64 - 8 * n)
  else kind == 2 && fl == 0 && n == 0 && leAt b 16 8 ≤ leAt b 24 8 && zerosAt b 32 72)

def tokenDigest (b : List Byte) : List Byte := sha256 b

/-- The token a consent record is. -/
def tokenOf (b : List Byte) (index : Nat) (t : TurnNo) : Token :=
  ⟨index, tokenDigest b, byteAt b 6, bit (byteAt b 7) 0, bit (byteAt b 7) 1, leAt b 8 4, leAt b 12 2, leAt b 16 8, leAt b 24 8,
   sgn 16 (leAt b 32 2), sgn 16 (leAt b 34 2), sgn 16 (leAt b 36 2),
   (List.range (byteAt b 14)).map (tokRange b), t⟩

/-- The checks of R336 in their order: the reason code of Table 14.6. -/
def State.tokenReason (s : State) (b : List Byte) : Nat :=
  let o := s.sec.otp
  let k := byteAt b 6
  let v := leAt b 12 2
  if !s.selfTestOk then 15
  else if !tokenFormat b then 1
  else if !(1 ≤ s.lifecycle && s.lifecycle ≤ 3) then 2
  else if o.keyState k = 0 then 3
  else if o.keyState k = 2 then 4
  else if o.keyHash k ≠ some (sha256 ((b.drop 128).take 64)) then 5
  else if !ecdsaVerify (b.take 192) ((b.drop 128).take 64) ((b.drop 192).take 64) then 6
  else if !(leAt b 16 8 ≤ o.serial && o.serial ≤ leAt b 24 8) then 7
  else if (byteAt b 5 = 1 ∧ v < o.counter) ∨ (byteAt b 5 = 2 ∧ v ≤ o.counter) then 8
  else if byteAt b 5 = 2 ∧ 1024 < v then 9
  else if byteAt b 5 = 1 ∧ 64 ≤ s.sec.tokens.length ∧ !s.sec.tokens.any (fun t => t.digest == tokenDigest b) then 10
  else 0

/-- The lowest store index not in use. -/
def freeIndex (l : List Token) : Nat := ((List.range 64).find? (fun i => l.all (fun t => t.index != i))).getD 0

def State.popOp (s : State) : State := s.setSec { s.sec with ops := s.sec.ops.tail }

/-- A token of the flash has been decided (R190). -/
def State.flashToken (s : State) (fl : Option Nat) (reason : Nat) : State :=
  match fl with
  | none => s
  | some i =>
    let s := { s with flash := { s.flash with tokensLeft := s.flash.tokensLeft - 1 } }
    if reason = 0 then s.bump F.PLAN_BOOT_TOKENS_OK 1 else s.emit 0x62 3 3 (leBytes i 1 ++ leBytes reason 1)

/-- A rejected record (R336). -/
def State.rejectToken (s : State) (b : List Byte) (d : Option DescKey) (fl : Option Nat) (reason : Nat) : State :=
  let s := s.popOp
  let s := s.emit 0xB1 3 14 ((tokenDigest b).take 8 ++ leBytes reason 1)
  let s := if reason = 9 then s.emit 0xB3 3 14 (leBytes (leAt b 12 2) 2) else s
  let s := s.bump F.SEC_TOKENS_REJECTS 1
  let s := if reason = 6 then s.authFail 0 reason else s
  let s := if reason = 8 ∧ byteAt b 5 = 1 then s.setSec { s.sec with gone := s.sec.gone ++ [tokenDigest b] } else s
  ((s.verdict 0 reason).flashToken fl reason).failedOpt d 0x13 reason

/-- An accepted consent (R337): a token already held keeps its index; ACCEPT_TURN moves only with TOKEN_SUBMIT. -/
def State.acceptToken (s : State) (b : List Byte) (d : Option DescKey) (fl : Option Nat) : State :=
  let dig := tokenDigest b
  let s := s.popOp
  let held := s.sec.tokens.find? (fun t => t.digest == dig)
  let index := match held with | some t => t.index | none => freeIndex s.sec.tokens
  let toks := match held with
    | some _ => s.sec.tokens.map (fun t => if t.digest == dig && d.isSome then { t with acceptTurn := s.turn } else t)
    | none => s.sec.tokens ++ [tokenOf b index (if d.isSome then s.turn else 0)]
  let s := s.setSec { s.sec with tokens := toks }
  let s := s.emit 0xB0 1 14 (dig.take 8 ++ leBytes index 1)
  let s := (s.bump F.SEC_TOKENS_ACCEPTS 1).verdict 0 0
  (s.flashToken fl 0).doneOpt d 0

/-- TOKEN_VERDICT: the Chuck ends its checks of the record in hand (R336). A withdrawal that passes goes on to burn. -/
def execTokenVerdict (fc : Nat) (s : State) : Host.Outcome State Fault Refusal :=
  let s := s.at fc
  match s.sec.ops.head? with
  | some (.token b d fl) =>
    if s.sec.burning.isSome then .next s
    else
      let r := s.tokenReason b
      if r ≠ 0 then .next (s.rejectToken b d fl r)
      else if byteAt b 5 = 2 then .next (s.setSec { s.sec with burning := some (leAt b 12 2) })
      else .next (s.acceptToken b d fl)
  | _ => .next s

/-- CONSENT_COUNTER_STEP: one bit is burned; when C reaches V the withdrawal is accepted (R340). -/
def execConsentCounterStep (fc : Nat) (s : State) : Host.Outcome State Fault Refusal :=
  let s := s.at fc
  match s.sec.burning, s.sec.ops.head? with
  | some v, some (.token b d fl) =>
    let c := min 1024 (s.sec.otp.counter + 1)
    let s := s.setSec { s.sec with otp := { s.sec.otp with counter := c } }
    if c < v then .next s
    else
      let out := s.sec.tokens.filter (fun t => t.version < v)
      let gone := out.length
      let s := s.setSec { s.sec with burning := none, gone := s.sec.gone ++ out.map (fun t => t.digest),
                                     tokens := s.sec.tokens.filter (fun t => !(t.version < v)),
                                     withdrawn := s.sec.withdrawn ++ (match d with | some k => [k] | none => []) }
      let s := s.popOp
      let s := (s.raise 35).emit 0xB2 5 14 (leBytes v 2 ++ leBytes gone 1 ++ leBytes (byteAt b 6) 1)
      let s := ((s.bump F.SEC_TOKENS_ACCEPTS 1).verdict 0 0).secFlag F.SEC_IRQ_WITHDRAW
      .next (s.flashToken fl 0)
  | _, _ => .next s

/-- TOKEN_SUBMIT: the 256-byte record is read and submitted (R212, R336). -/
def execTokenSubmit (fc sq idx : Nat) (s : State) : Host.Outcome State Fault Refusal :=
  .next (s.withDesc fc sq idx Op.tokenSubmit (fun d s => s.addXfer d .token (dAddr d.body) 256))

/-- TOKEN_RELEASE: refused and counted while the Active or Shadow Plan lists the digest (R337). -/
def execTokenRelease (fc index : Nat) (s : State) : Host.Outcome State Fault Refusal :=
  let s := (s.at fc).put F.SEC_TOKEN_SEL_INDEX index
  let s' := match s.sec.tokens.find? (fun t => t.index == index) with
    | none => s
    | some t =>
      if s.active.consent.contains t.digest || s.shadow.consent.contains t.digest then s.bump F.SEC_TOKENS_REJECTS 1
      else s.setSec { s.sec with tokens := s.sec.tokens.filter (fun u => u.index != index) }
  okIf (index < 64) s'

/-! ### Provisioning (R332, R333) -/

/-- The 256 bytes of SEC_PROV_DATA. -/
def State.provData (s : State) : List Byte := (List.range 64).flatMap (fun w => leBytes (s.get (F.SEC_PROV_DATA_DATA w)) 4)

def State.provBusy (s : State) : Bool := s.sec.ops.any (fun o => match o with | .prov _ => true | _ => false)

/-- PROV_GO: ignored while a record is being checked or committed (R333). -/
def execProvGo (fc : Nat) (s : State) : Host.Outcome State Fault Refusal :=
  let s := s.at fc
  .next (if s.provBusy then s else s.setSec { s.sec with ops := s.sec.ops ++ [.prov s.provData] })

def provFormat (b : List Byte) : Bool :=
  let a := byteAt b 5
  let k := byteAt b 6
  leAt b 0 4 == 0x52505747 && byteAt b 4 == 1 && 1 ≤ a && a ≤ 5 && byteAt b 7 == 0 && zerosAt b 17 15 && zerosAt b 64 64 &&
  (if a = 1 then k < 8 else if a = 2 then k == 8 else if a = 3 then k ≤ 8 else k == 0) &&
  (a ≤ 2 || zerosAt b 32 32)

/-- The checks of R333 in their order. -/
def State.provReason (s : State) (b : List Byte) : Nat :=
  let o := s.sec.otp
  let a := byteAt b 5
  let k := byteAt b 6
  if !s.selfTestOk then 15
  else if !provFormat b then 1
  else if s.lifecycle = 4 then 2
  else if sha256 ((b.drop 128).take 64) ≠ o.rootHash then 5
  else if !ecdsaVerify (b.take 192) ((b.drop 128).take 64) ((b.drop 192).take 64) then 6
  else if leAt b 8 8 ≠ o.serial then 7
  else if byteAt b 16 ≠ o.rows.length ∨ 16 ≤ o.rows.length then 11
  else if (a = 1 ∨ a = 2) ∧ o.keyState k ≠ 0 then 12
  else if a = 3 ∧ o.keyState k ≠ 1 then 13
  else if a = 4 ∧ s.lifecycle ≠ 1 then 13
  else 0

/-- PROV_VERDICT: the record is refused, or its row commit begins (R333). -/
def execProvVerdict (fc : Nat) (s : State) : Host.Outcome State Fault Refusal :=
  let s := s.at fc
  match s.sec.ops.head? with
  | some (.prov b) =>
    if s.sec.committing then .next s
    else
      let r := s.provReason b
      if r = 0 then .next (s.setSec { s.sec with committing := true })
      else
        let s := (s.popOp).put F.SEC_PROV_CTRL_RESULT r
        let s := s.emit 0xB9 3 0 (leBytes (byteAt b 5) 1 ++ leBytes r 1)
        let s := if r = 6 then s.authFail 1 r else s
        .next (s.verdict 1 r)
  | _ => .next s

/-- Where an instruction of the JTAG port is available (Table 14.9). -/
def State.jtagAllowed (s : State) (k : JtagKind) : Bool :=
  let powered := 1 ≤ s.pstate && s.pstate ≤ 4
  let grants := match s.sec.session with | some (g, _, _) => g | none => 0
  match k with
  | .bypass => true
  | .idcode | .samplePreload => powered && s.lifecycle != 4
  | .extest | .clamp => s.pstate == 1 && s.lifecycle ≤ 2
  | .probe => s.running && (s.lifecycle ≤ 1 || (s.lifecycle == 3 && bit grants 1))

/-- The instruction in the port stays where its cell still has it, and runs as BYPASS elsewhere (R346). -/
def State.settleJtag (s : State) : State := if s.jtagAllowed s.sec.jtag then s else s.setSec { s.sec with jtag := .bypass }

/-- OTP_ROW_COMMIT: the row is written with its marker; the lifecycle, key slots, tokens and session follow (R333, R334,
R348). -/
def execOtpRowCommit (fc : Nat) (s : State) : Host.Outcome State Fault Refusal :=
  let s := s.at fc
  match s.sec.committing, s.sec.ops.head? with
  | true, some (.prov b) =>
    let a := byteAt b 5
    let k := byteAt b 6
    let old := s.lifecycle
    let row := s.sec.otp.rows.length
    let otp := { s.sec.otp with rows := s.sec.otp.rows ++ [⟨true, a, k, (b.drop 32).take 32⟩] }
    let s := (s.setSec { s.sec with otp := otp, committing := false }).popOp
    let s := (s.put F.SEC_PROV_CTRL_RESULT 0).emit 0xB8 2 0 (leBytes row 1 ++ leBytes a 1 ++ leBytes k 1)
    -- leaving the state in which a halt was granted releases it (R286)
    let s := if s.lifecycle = old then s else s.releaseHalt
    let s := if a = 3 then
        let s := s.setSec { s.sec with tokens := s.sec.tokens.filter (fun t => t.keySlot != k) }
        if k = 8 then (s.dropChallenge).endSession 8 else s
      else if a = 5 then ((s.eraseTokens).dropChallenge).endSession 9
      else s
    .next ((s.verdict 1 0).noteLifecycle old).settleJtag
  | _, _ => .next s

/-! ### Debug unlock (R343, R344) -/

/-- Why GET_CHALLENGE fails, or 0 (R343). -/
def State.challengeReason (s : State) : Nat :=
  if !s.selfTestOk then 15
  else if s.lifecycle ≠ 2 then 2
  else if s.sec.otp.keyState 8 ≠ 1 then 3
  else if !s.running || s.flag F.SEC_STATUS_UNLOCK_BLOCKED then 13
  else 0

/-- The 64-byte challenge of Table 14.8. -/
def State.challengeBytes (s : State) (c : Challenge) : List Byte :=
  leBytes 0x43445747 4 ++ [1] ++ leBytes s.lifecycle 1 ++ [0, 0] ++ leBytes s.sec.otp.serial 8 ++ leBytes c.nonce.toNat 32 ++
  leBytes c.turn.toNat 6 ++ List.replicate 10 0

/-- GET_CHALLENGE: DEBUG_UNLOCK step 0 writes a fresh challenge (R343). -/
def execGetChallenge (fc sq idx : Nat) (s : State) : Host.Outcome State Fault Refusal :=
  .next (s.withDesc fc sq idx Op.debugUnlock (fun d s =>
    if dStep d.body ≠ 0 then s
    else
      let r := s.challengeReason
      if r ≠ 0 then s.failed d.key 0x14 r
      else
        let c : Challenge := ⟨Config.nonce s.sec.nonces, s.turn⟩
        let s := s.setSec { s.sec with challenge := some c, nonces := s.sec.nonces + 1 }
        s.addXfer d (.bytes (s.challengeBytes c)) (dUnlockAddr d.body) 64))

/-- RESPOND: DEBUG_UNLOCK step 1 reads the 192-byte response (R344). -/
def execRespond (fc sq idx : Nat) (s : State) : Host.Outcome State Fault Refusal :=
  .next (s.withDesc fc sq idx Op.debugUnlock (fun d s =>
    if dStep d.body ≠ 1 then s else s.addXfer d .respond (dUnlockAddr d.body) 192))

/-- END_SESSION: DEBUG_UNLOCK step 2 (R344, R348). -/
def execEndSession (fc sq idx : Nat) (s : State) : Host.Outcome State Fault Refusal :=
  .next (s.withDesc fc sq idx Op.debugUnlock (fun d s =>
    if dStep d.body ≠ 2 then s
    else (((s.dropChallenge).endSession 0)).done d.key 0))

def responseFormat (b : List Byte) : Bool :=
  let g := leAt b 6 2
  leAt b 0 4 == 0x52445747 && byteAt b 4 == 1 && byteAt b 5 == 0 && g < 16 && (!bit g 3 || bit g 2) && 1 ≤ leAt b 48 2 &&
  zerosAt b 50 14

/-- Does the nonce copied match a challenge that is still valid (R343)? -/
def State.challengeValid (s : State) (b : List Byte) : Bool :=
  match s.sec.challenge with
  | none => false
  | some c => turnsSince s.turn c.turn < 16777216 && c.nonce.toNat == leAt b 16 32

/-- The checks of a response (R344); the states of Table 14.9 in which RESPOND is not available come first. -/
def State.respondReason (s : State) (b : List Byte) : Nat :=
  let o := s.sec.otp
  if !s.selfTestOk then 15
  else if s.lifecycle ≠ 2 then 2
  else if !s.running || s.flag F.SEC_STATUS_UNLOCK_BLOCKED then 13
  else if !responseFormat b then 1
  else if o.keyState 8 = 0 then 3
  else if o.keyState 8 = 2 then 4
  else if o.keyHash 8 ≠ some (sha256 ((b.drop 64).take 64)) then 5
  else if !ecdsaVerify (b.take 128) ((b.drop 64).take 64) ((b.drop 128).take 64) then 6
  else if leAt b 8 8 ≠ o.serial then 7
  else if !s.challengeValid b then 14
  else 0

/-- RESPOND_VERDICT: a session opens, or the failure is counted; four in a row block unlocking (R344). -/
def execRespondVerdict (fc : Nat) (s : State) : Host.Outcome State Fault Refusal :=
  let s := s.at fc
  match s.sec.ops.head? with
  | some (.respond b d) =>
    let r := s.respondReason b
    let s := (s.popOp).dropChallenge
    if r = 0 then
      let old := s.lifecycle
      let s := s.setSec { s.sec with session := some (leAt b 6 2, s.turn, leAt b 48 2) }
      let s := (s.put F.SEC_DEBUG_AUTH_FAILS 0).emit 0xC0 2 14 (leBytes (leAt b 6 2) 2 ++ leBytes (leAt b 48 2) 2)
      .next (((s.noteLifecycle old).verdict 2 0).doneOpt d 0)
    else
      let n := min 4 (s.get F.SEC_DEBUG_AUTH_FAILS + 1)
      let s := s.put F.SEC_DEBUG_AUTH_FAILS n
      let s := if n = 4 then s.putB F.SEC_STATUS_UNLOCK_BLOCKED true else s
      .next (((s.authFail 2 r).verdict 2 r).failedOpt d 0x14 r)
  | _ => .next s

/-- CHALLENGE_EXPIRY: 16,777,216 Turns after it was issued (R343). -/
def execChallengeExpiry (fc : Nat) (s : State) : Host.Outcome State Fault Refusal :=
  let s := s.at fc
  match s.sec.challenge with
  | none => .next s
  | some c => .next (if 16777216 ≤ turnsSince s.turn c.turn then s.dropChallenge else s)

/-- SESSION_EXPIRY: DURATION units of 65,536 Turns have passed (R348, Table 14.8). -/
def execSessionExpiry (fc : Nat) (s : State) : Host.Outcome State Fault Refusal :=
  let s := s.at fc
  match s.sec.session with
  | none => .next s
  | some (_, t, n) => .next (if 65536 * n ≤ turnsSince s.turn t then (s.dropChallenge).endSession 0 else s)

/-- JTAG_INSTRUCTION: an instruction not available in its cell executes as BYPASS and is recorded (R346); `code` is its
instruction code, which the event carries. -/
def execJtagInstruction (fc : Nat) (k : JtagKind) (code : Nat) (s : State) : Host.Outcome State Fault Refusal :=
  let s := s.at fc
  if s.pwr.off then .next s
  else if s.jtagAllowed k then .next (s.setSec { s.sec with jtag := k })
  else .next ((s.setSec { s.sec with jtag := .bypass }).emit 0xC3 2 0 (leBytes code 1))

/-! ### Tamper (R350) -/

/-- SEC_TAMPER: sensors report tamper; only enabled ones are sensed. -/
def execSecTamper (fc : Nat) (mesh rail osc : Bool) (s : State) : Host.Outcome State Fault Refusal :=
  let s := s.at fc
  let me := mesh && s.flag F.SEC_CFG_MESH_EN
  let ra := rail && s.flag F.SEC_CFG_GLITCH_EN
  let os := osc && s.flag F.SEC_CFG_GLITCH_EN
  if !(me || ra || os) || s.pwr.off then .next s
  else
    let s := ((s.putB F.SEC_TAMPER_MESH me).putB F.SEC_TAMPER_RAIL ra).putB F.SEC_TAMPER_OSC os
    let s := ((s.bump F.SEC_TAMPER_COUNT 1).raise 36).live 36 true
    let s := s.safeCause 3
    let s := s.emit 0xC8 7 14 (leBytes (b2n me + 2 * b2n ra + 4 * b2n os) 1)
    let s := ((s.eraseTokens).dropChallenge).endSession 6
    .next ((s.putB F.SEC_STATUS_TAMPER_LATCHED true).secFlag F.SEC_IRQ_TAMPER)

/-- TAMPER_END: no enabled sensor reports tamper any more; SEC_TAMPER is no longer live (R350, R356). -/
def execTamperEnd (fc : Nat) (s : State) : Host.Outcome State Fault Refusal :=
  let s := ((s.at fc).putB F.SEC_TAMPER_MESH false).putB F.SEC_TAMPER_RAIL false
  .next ((s.putB F.SEC_TAMPER_OSC false).live 36 false)

end Sys2Proof.Machine
end

