-- ==== Sys2Proof/Machine/Words.lean ====
section
/-! DEFINITION. Fabric words and numbers (spec/01, spec/02, spec/03): the sideband and its checks, the codes of a converter, the arithmetic of
an output combiner, power ratios in dB, and the bytes of a capture record. -/
namespace Sys2Proof.Machine

/-! ### The sideband (R24, Table 1.8) -/

/-- The bits that even parity adds to the low `n` bits of a number. -/
def parityOf (n v : Nat) : Nat := popcount n v % 2

/-- The sideband of a word that enters the fabric at `fc` of a Turn. -/
def sideband (turn fc : Nat) (ovr dirty : Bool) : Nat :=
  let low := fc % 4096 + 2 ^ 12 * (turn % 16) + 2 ^ 16 * b2n ovr + 2 ^ 17 * b2n dirty
  low + 2 ^ 18 * parityOf 9 low + 2 ^ 19 * parityOf 9 (low / 512)

def sideIdx (w : Nat) : Nat := bits w 0 12
def sideTurn (w : Nat) : Nat := bits w 12 4
def sideOvr (w : Nat) : Bool := bit w 16
def sideDirty (w : Nat) : Bool := bit w 17
/-- Both parities hold (R25). -/
def sideGood (w : Nat) : Bool := popcount 9 w % 2 == bits w 18 1 && popcount 9 (w / 512) % 2 == bits w 19 1
/-- Two words that meet carry the same stamps (R25). -/
def sameStamp (a b : Nat) : Bool := sideIdx a == sideIdx b && sideTurn a == sideTurn b

/-- A fabric word: its sideband, and 16 samples in units of the 20-bit native word (R6, R24). -/
structure FabWord where
  side : Nat
  samples : List Int
deriving DecidableEq, Repr

def zeroSamples : List Int := List.replicate 16 0

/-- The same word, dirty as well where `d` says so; its parity follows. -/
def FabWord.mark (w : FabWord) (d : Bool) : FabWord :=
  if d then { w with side := sideband (sideTurn w.side) (sideIdx w.side) (sideOvr w.side) true } else w

/-- What a stream lists of a word; 16 zeros where it lists nothing. -/
def wordAt (l : Words) (fc : Nat) : List Int :=
  match l.find? (fun e => e.1 == fc) with
  | some e => (e.2 ++ zeroSamples).take 16
  | none => zeroSamples
def streamOf (l : List (Nat × Words)) (n : Nat) : Words := match l.find? (fun e => e.1 == n) with | some e => e.2 | none => []

/-! ### Converters (R6, R37) -/

/-- The largest and the smallest 14-bit code. -/
def codeTop : Int := 8191
def codeLow : Int := -8192
/-- An input, in steps of the code, beyond the full-scale threshold. -/
def clips (i : Int) : Bool := decide (i < codeLow) || decide (codeTop < i)
/-- A converter's sample: the 14-bit code in bits [19:6], or the clip code 0x7_FFC0 or 0x8_0000. -/
def adcSample (i : Int) : Int := 64 * clampInt codeLow codeTop i

/-! ### Output combiners (R71) -/

/-- `|v|` times 10^(−attn/200), in half steps of the 14-bit code, is at least `n` (exactly: both sides to the 200th power). -/
def attnReaches (v attn n : Nat) : Bool := decide ((32 * n) ^ 200 * 10 ^ attn ≤ v ^ 200)
/-- The same holds with equality. -/
def attnIs (v attn n : Nat) : Bool := (32 * n) ^ 200 * 10 ^ attn == v ^ 200

/-- The largest `n` below 2^k with `p n`, by halving; `p` holds up to some number and of 0. -/
def searchUp (p : Nat → Bool) : Nat → Nat → Nat
  | 0, n => n
  | k + 1, n => searchUp p k (if p (n + 2 ^ k) then n + 2 ^ k else n)

/-- A magnitude after the attenuation, rounded to the 14-bit code; how a tie goes the spec does not say (log entry 1). -/
def attnCode (v attn : Nat) (up : Bool) : Nat :=
  let h := searchUp (attnReaches v attn) 21 0
  if h % 2 = 0 then h / 2 else if attnIs v attn h && !up then h / 2 else h / 2 + 1

/-- One sample of a combiner, from the sum of its slots: attenuated, rounded, saturated; the flag tells that it saturated. -/
def combSample (attn : Nat) (sum : Int) : Int × Bool :=
  let c : Int := attnCode sum.natAbs attn (Config.tieUp sum)
  let c := if sum < 0 then Int.neg c else c
  (adcSample c, clips c)

/-- Values of the same place added up. -/
def addWords (a b : List Int) : List Int := (a.zip b).map (fun e => e.1 + e.2)

/-! ### Power ratios in dB -/

/-- The largest k below 2^17 with 10^k ≤ x, for x > 0. -/
def log10Floor (x : Nat) : Nat := searchUp (fun k => decide (10 ^ k ≤ x)) 17 0

/-- `scale` × log10 (num / den) rounded down, and whether it is exact; `scale` 100 counts a power ratio in 0.1 dB, 1000 in 0.01 dB. -/
def ratioFloor (scale num den : Nat) : Int × Bool :=
  let a := num ^ scale
  let b := den ^ scale
  if b ≤ a then
    let k := log10Floor (a / b)
    (k, 10 ^ k * b == a)
  else
    let k := log10Floor (b / a)
    if 10 ^ k * a = b then (Int.neg k, true) else (Int.neg (k + 1), false)

/-- A power ratio in dB; between two steps, how it rounds the spec does not say (log entry 1). -/
def ratioDb (scale num den : Nat) : Int :=
  let r := ratioFloor scale num den
  if r.2 then r.1 else r.1 + b2n (Config.roundDb num den)

/-- A mean power in 0.01 dB of full scale, `num / den`; readings below −200.00 dB read −20,000 (R70). -/
def levelOf (num den : Nat) : Int := if num = 0 ∨ den = 0 then -20000 else clampInt (-20000) 32767 (ratioDb 1000 num den)

/-! ### Complex numbers -/

def cAdd (a b : Int × Int) : Int × Int := (a.1 + b.1, a.2 + b.2)
def cSub (a b : Int × Int) : Int × Int := (a.1 - b.1, a.2 - b.2)
def cMul (a b : Int × Int) : Int × Int := (a.1 * b.1 - a.2 * b.2, a.1 * b.2 + a.2 * b.1)
def cConj (a : Int × Int) : Int × Int := (a.1, Int.neg a.2)
/-- |a|². -/
def cPow (a : Int × Int) : Nat := (a.1 * a.1 + a.2 * a.2).toNat
def cSum (l : List (Int × Int)) : Int × Int := l.foldl cAdd (0, 0)
def powSum (l : List (Int × Int)) : Nat := l.foldl (fun a z => a + cPow z) 0
/-- Σ a·b over the places both lists have. -/
def cDot (a b : List (Int × Int)) : Int × Int := cSum ((a.zip b).map (fun e => cMul e.1 e.2))

/-! ### Capture records (R78) -/

/-- A full-rate record: 16 samples of 20 bits, the sideband, and zeros. -/
def fullRecord (w : FabWord) : List Byte :=
  let v := w.samples.foldr (fun x a => unsgn 20 x + 2 ^ 20 * a) 0
  leBytes v 40 ++ leBytes w.side 3 ++ List.replicate 5 0

/-- A value in units of 2^-38 as a 20-bit sample; a rounding, and a value that 20 bits do not hold, the spec leaves open (log entry 1). -/
def sample20 (v : Int) : Int :=
  let q := v / 524288 + (if v % 524288 ≠ 0 ∧ Config.tieUp v then 1 else 0)
  if -524288 ≤ q ∧ q ≤ 524287 then q else sgn 20 (Config.openSample v % 2 ^ 20)

/-- A baseband record: a block of up to 15 complex samples, each part a 20-bit value sign-extended to 32 bits. -/
def baseRecord (side : Nat) (l : List (Int × Int)) : List Byte :=
  padTo 128 (leBytes side 3 ++ leBytes l.length 1 ++ List.replicate 4 0 ++
    l.flatMap (fun z => leBytes (unsgn 32 z.1) 4 ++ leBytes (unsgn 32 z.2) 4))

end Sys2Proof.Machine
end

