-- ==== Sys2Proof/Machine/Converters.lean ====
section
/-! DEFINITION. The converter array (spec/02): which die a converter lies on, synthesisers, DAC mute causes, over-range
windows, foreground calibration, background tracking, and the settling of converters that a swap enables. -/
namespace Sys2Proof.Machine

def State.setCva (s : State) (c : Cva) : State := { s with cva := c }
def State.setFab (s : State) (f : Fab) : State := { s with fab := f }
def State.setPwr (s : State) (p : Pwr) : State := { s with pwr := p }

/-! ### Dies (R35, Table 2.1) -/

/-- The die of an ADC: 0 donor-side, 1 service-side. -/
def adcDie (v : Variant) (n : Nat) : Nat := let p := nPortOf v; if p ≤ n ∧ n < 2 * p then 1 else 0
def dacDie (v : Variant) (n : Nat) : Nat := if nPortOf v ≤ n then 1 else 0
def adcsOf (v : Variant) : List Nat := List.range (nAdcOf v)
def dacsOf (v : Variant) : List Nat := List.range (nDacOf v)

/-! ### Synthesisers (Table 2.5) -/

def synthField (w : Nat) : Field := if w = 0 then F.CVA_STATUS_SYNTH_A_STATE else F.CVA_STATUS_SYNTH_B_STATE
def State.synth (s : State) (w : Nat) : Nat := s.get (synthField w)
def State.synthX (s : State) (w : Nat) : SynthX := sparseGet synthNone s.cva.synth w
def State.setSynthX (s : State) (w : Nat) (x : SynthX) : State := s.setCva { s.cva with synth := sparseInsert s.cva.synth w x }

/-- The streams of a die are clocked and aligned. -/
def State.dieLocked (s : State) (w : Nat) : Bool := s.synth w == 2 && (s.synthX w).aligned

/-- The dovetails that re-align now: slipped or re-centred ones, and both of a die whose streams re-align after a relock (R44, R61). -/
def State.slipLive (s : State) (d : Nat) : Bool :=
  s.fab.slipped.contains d || s.fab.recentred.contains d || (s.synth (d % 2) == 2 && !(s.synthX (d % 2)).aligned)
/-- FAB_ELASTIC_SLIP is live for them, and for merge points that have not yet seen a whole Turn of equal stamps (R61, R62). -/
def State.syncSlips (s : State) : State :=
  let l := (List.range 4).filter s.slipLive
  let s := s.put F.FAB_STATUS_SLIP_LIVE (l.foldl (fun a d => a + 2 ^ d) 0)
  s.live 7 (!l.isEmpty || !s.fab.mergeRun.isEmpty || !s.fab.mergeNow.isEmpty)

/-- The words of a die's ADCs are dirty from now. -/
def State.dirtyDie (s : State) (w : Nat) : State :=
  if s.cva.badAt.any (fun e => e.1 == w) then s else s.setCva { s.cva with badAt := s.cva.badAt ++ [(w, s.now)] }
/-- A die's clock starts or stops: without it its ADCs carry zero words (R59). -/
def State.clockDie (s : State) (w : Nat) (on : Bool) : State :=
  if on then
    s.setCva { s.cva with zeros := s.cva.zeros.map (fun e => if e.1 == w && e.2.2.isNone then (w, e.2.1, some s.now) else e) }
  else if s.cva.zeros.any (fun e => e.1 == w && e.2.2.isNone) then s
  else (s.setCva { s.cva with zeros := s.cva.zeros ++ [(w, s.now, none)] }).dirtyDie w

/-- Move a synthesiser to a state of Table 2.5; its source is live while it is neither LOCKED nor OFF (Table 2.10). -/
def State.setSynth (s : State) (w st : Nat) : State :=
  let s := ((s.put (synthField w) st).putB (F.CVA_SYNTH_STATUS_LOCKED w) (st == 2)).live (1 + w) (st != 2 && st != 0)
  (s.clockDie w (st == 2)).syncSlips

/-- The VCO band of the factors that are, or on entry to LISTEN will be, in use (R43, R48). -/
def State.calBand (s : State) (w : Nat) : Nat :=
  match s.cva.store with
  | some f => f.bands.getD w 0
  | none => match s.cva.sealedSet with
    | some f => f.bands.getD w 0
    | none => Config.nominalBand w

/-- Start an acquisition on a band, its attempts counted afresh (R43, R44). -/
def State.acquireOn (s : State) (w band : Nat) (lost : Bool) : State :=
  let s := s.setSynthX w ⟨lost, false, false, s.turn⟩
  ((s.put (F.CVA_SYNTH_STATUS_VCO_BAND w) band).put (F.CVA_SYNTH_STATUS_ATTEMPT w) 0).setSynth w 1
/-- A departure from STANDBY: on the band of the factors, whatever an OSC calibration found (R43, R50). -/
def State.acquire (s : State) (w : Nat) : State := s.acquireOn w (s.calBand w) false
/-- Lock lost: on the same band (R44). -/
def State.relock (s : State) (w : Nat) : State := s.acquireOn w (s.get (F.CVA_SYNTH_STATUS_VCO_BAND w)) true
/-- Back on the band of the factors; a synthesiser for which OSC found no band stays UNLOCKED, and makes no attempt of its own (R47,
R50). -/
def State.reacquire (s : State) (w : Nat) (lost : Bool) : State :=
  if (s.synthX w).oscFailed then
    (s.setSynthX w { s.synthX w with lost := false, aligned := false }).setSynth w 3
  else s.acquireOn w (s.calBand w) lost

/-- A rail is below its limit (Table 15.3). -/
def State.railDown (s : State) (i : Nat) : Bool := s.getBit F.PWR_SUPPLY_RAIL_UV i
/-- A converter die's blocks are held in reset: its rail, or a block reset (R54, R302). -/
def State.dieDown (s : State) (w : Nat) : Bool := s.railDown (1 + w) || s.blockHeld .converters

/-- Switch a synthesiser off (STANDBY, OFF, or its die in reset). -/
def State.synthOff (s : State) (w : Nat) : State := (s.setSynthX w { s.synthX w with lost := false, aligned := false }).setSynth w 0
/-- No band locks (R50): UNLOCKED with the active factors' band recorded, signalled once. -/
def State.synthFails (s : State) (w : Nat) : State :=
  let s := s.setSynthX w { s.synthX w with oscFailed := true, aligned := false, lost := false }
  ((s.put (F.CVA_SYNTH_STATUS_VCO_BAND w) (s.calBand w)).setSynth w 3).raise (1 + w)

/-- A synthesiser has locked (R43, R44). -/
def State.synthLock (s : State) (w : Nat) : State :=
  let x := s.synthX w
  -- while the module runs the dovetail re-aligns the streams first
  (s.setSynthX w { x with aligned := s.pwr.leaving, lost := false, lockedAt := s.turn }).setSynth w 2

/-! ### Scope of a calibration (R45) -/

/-- Is the ADC in the scope of the calibration? -/
def Cal.hasAdc (c : Cal) (v : Variant) (n : Nat) : Bool :=
  match c.code with
  | 1 => bit c.synth (adcDie v n)
  | 15 => true
  | _ => bit c.adc n
def Cal.hasDac (c : Cal) (v : Variant) (n : Nat) : Bool :=
  match c.code with
  | 1 => bit c.synth (dacDie v n)
  | 15 => true
  | 2 => bit c.dac n
  | _ => false
/-- A synthesiser is in scope when the calibration names it or it clocks a converter in scope. -/
def Cal.hasSynth (c : Cal) (v : Variant) (w : Nat) : Bool :=
  (c.code == 15 || (c.code == 1 && bit c.synth w)) || (adcsOf v).any (fun n => adcDie v n == w && c.hasAdc v n) ||
  (dacsOf v).any (fun n => dacDie v n == w && c.hasDac v n)
/-- The calibration sets the VCO band of this synthesiser. -/
def Cal.setsBand (c : Cal) (w : Nat) : Bool := c.code == 15 || (c.code == 1 && bit c.synth w)

def State.calAdc (s : State) (n : Nat) : Bool := match s.cva.cal with | some c => c.hasAdc s.variant n | none => false
def State.calDac (s : State) (n : Nat) : Bool := match s.cva.cal with | some c => c.hasDac s.variant n | none => false
def State.calSynth (s : State) (w : Nat) : Bool := match s.cva.cal with | some c => c.hasSynth s.variant w | none => false

/-! ### Service and mute causes (R42, R59, Table 2.4) -/

/-- An ADC is in service: enabled, calibrated, on a LOCKED synthesiser, not in foreground calibration (Table 2.25). -/
def State.adcInService (s : State) (n : Nat) : Bool :=
  n < nAdcOf s.variant && s.actB (F.CVA_ADC_CFG_EN n) && !s.getBit F.CVA_ADC_FAIL_ADC_FAIL n &&
  s.synth (adcDie s.variant n) == 2 && !s.calAdc n && !s.dieDown (adcDie s.variant n)

/-- A kill is held: KILL_N low or an Apzer kill (R134, R372). -/
def State.apzKill (s : State) : Bool := s.flag F.APZ_STATUS_KILL_IN0 || s.flag F.APZ_STATUS_KILL_IN1
def State.killHeld (s : State) : Bool := s.pwr.killPin || s.apzKill

/-- The mute causes of a DAC now, in the order of Table 2.27: KILL, SYNTH, CAL, RAIL, DISABLED, CONV_FAIL, STATE. -/
def State.dacCauses (s : State) (n : Nat) : List Bool :=
  let w := dacDie s.variant n
  [ s.killHeld || s.pstate == 4 || s.pwr.clkLost,
    !s.dieLocked w,
    s.calDac n || s.calSynth w,
    s.dieDown w,
    !s.actB (F.CVA_DAC_CFG_EN n) || s.cva.settle.any (fun e => e.1 == 32 + n) || s.pstate ≤ 1,
    s.getBit F.CVA_DAC_FAIL_DAC_FAIL n,
    s.pstate == 2 ]

def State.dacMuted (s : State) (n : Nat) : Bool := s.flag (F.CVA_DAC_STATUS_MUTED n)

/-- Show the causes of a DAC; it is muted at once while any is present, and unmutes only at a boundary (R42). -/
def State.syncDac (s : State) (boundary : Bool) (n : Nat) : State :=
  let c := s.dacCauses n
  let at_ (i : Nat) : Bool := c.getD i false
  let s := ((s.putB (F.CVA_DAC_STATUS_CAUSE_KILL n) (at_ 0)).putB (F.CVA_DAC_STATUS_CAUSE_SYNTH n) (at_ 1)).putB
    (F.CVA_DAC_STATUS_CAUSE_CAL n) (at_ 2)
  let s := ((s.putB (F.CVA_DAC_STATUS_CAUSE_RAIL n) (at_ 3)).putB (F.CVA_DAC_STATUS_CAUSE_DISABLED n) (at_ 4)).putB
    (F.CVA_DAC_STATUS_CAUSE_CONV_FAIL n) (at_ 5)
  let s := s.putB (F.CVA_DAC_STATUS_CAUSE_STATE n) (at_ 6)
  let marked := s.dacMuted n || s.cva.muteAt.any (fun e => e.1 == n)
  let s := if !c.any id || marked then s else s.setCva { s.cva with muteAt := s.cva.muteAt ++ [(n, s.now)] }
  if c.any id then s.putB (F.CVA_DAC_STATUS_MUTED n) true
  else if boundary then s.putB (F.CVA_DAC_STATUS_MUTED n) false else s

/-- Causes that have just arisen mute their DACs at once. -/
def State.muteDacs (s : State) : State := s.each (dacsOf s.variant) (fun s n => s.syncDac false n)
/-- At a boundary a DAC with no cause left unmutes. -/
def State.boundaryDacs (s : State) : State := s.each (dacsOf s.variant) (fun s n => s.syncDac true n)

/-! ### The words of an ADC (R24, R37, R44, R54, R59, R61, R187) -/

/-- An ADC's words of this Turn are zeros from some reason other than its die's clock: off, failed, or in foreground calibration. -/
def State.adcSilent (s : State) (n : Nat) : Bool :=
  !s.actB (F.CVA_ADC_CFG_EN n) || s.getBit F.CVA_ADC_FAIL_ADC_FAIL n || s.calAdc n || s.dieDown (adcDie s.variant n)
/-- It carries zero words at time `t` of this Turn. -/
def State.adcZero (s : State) (n t : Nat) : Bool :=
  s.adcSilent n || s.cva.zeros.any (fun e => e.1 == adcDie s.variant n && e.2.1 ≤ t && (match e.2.2 with | some u => t < u | none => true))
/-- Its words are dirty at time `t` of this Turn: zero words; a die out of lock or not yet aligned; a slip of its dovetail; the 16 Turns
after it was enabled; an error in the word itself (R25, R63). -/
def State.adcDirty (s : State) (n t : Nat) : Bool :=
  s.adcZero n t || s.cva.badAt.any (fun e => e.1 == adcDie s.variant n && e.2 ≤ t) || s.cva.settle.any (fun e => e.1 == n) ||
  s.fab.badWords.any (fun e => e.1 == n && e.2.1 == t)
/-- The inputs of an ADC's samples of the word at `fc`: nothing while it carries zero words. -/
def State.adcInputs (s : State) (st : Stream) (n fc : Nat) : List Int :=
  if s.adcZero n (3072 * s.ticks + fc) then zeroSamples else wordAt (streamOf st.adcs n) fc
/-- The word that ADC `n` places on its fabric port at `fc` of this Turn: an uncorrectable error makes it zeros. -/
def State.adcWord (s : State) (st : Stream) (n fc : Nat) : FabWord :=
  let l := s.adcInputs st n fc
  let t := 3072 * s.ticks + fc
  let lost := s.fab.badWords.any (fun e => e.1 == n && e.2.1 == t && e.2.2)
  ⟨sideband s.turn.toNat fc (l.any clips) (s.adcDirty n t), if lost then zeroSamples else l.map adcSample⟩
/-- The cycles of this Turn, of those the stream lists, whose word of the ADC carries OVR. -/
def State.ovrCycles (s : State) (st : Stream) (n : Nat) : List Nat :=
  ((streamOf st.adcs n).map (·.1)).filter (fun fc => fc < 3072 && (s.adcInputs st n fc).any clips)

/-- What a new Turn starts with: dies that are out of lock or not aligned, and re-centred dovetails, whose marking ends at the next
boundary (R44, R61). -/
def State.convTurn (s : State) : State :=
  let bad := [0, 1].filter (fun w => !s.dieLocked w || s.fab.recentred.contains w)
  let off := [0, 1].filter (fun w => s.synth w != 2)
  s.setCva { s.cva with badAt := bad.map (fun w => (w, s.now)), zeros := off.map (fun w => (w, s.now, none)), muteAt := [] }

/-! ### Over-range (R39) -/

/-- Shift the Turn just ended into an ADC's window of 256 Turns; 63 to 64 signals the storm. -/
def State.ovrTurn (s : State) (st : Stream) (n : Nat) : State :=
  let h := sparseGet 0 s.cva.ovr n
  let was := s.get (F.CVA_ADC_OVR_WINDOW_COUNT n)
  let l := s.ovrCycles st n
  let o := !l.isEmpty
  let h' := (2 * h + b2n o) % 2 ^ 256
  let cnt := popcount 256 h'
  let s := s.setCva { s.cva with ovr := sparseSet 0 s.cva.ovr n h' }
  let s := (s.put (F.CVA_ADC_OVR_WINDOW_COUNT n) cnt).putBit F.CVA_OVR_STORM_LIVE_STORM n (64 ≤ cnt)
  let s := s.putB (F.CVA_ADC_STATUS_OVR_NOW n) (l.contains 3071)
  let s := if o then s.bump (F.CVA_ADC_OVR_OVR_TURNS n) 1 else s
  if was < 64 ∧ 64 ≤ cnt then s.raise 0 else s

def State.ovrBoundary (s : State) (st : Stream) : State :=
  let s := s.each (adcsOf s.variant) (fun s n => s.ovrTurn st n)
  s.live 0 (s.flag F.CVA_OVR_STORM_LIVE_STORM)

/-! ### Factors (R47, R48) -/

def nominalFactors (v : Variant) : Factors :=
  ⟨[Config.nominalBand 0, Config.nominalBand 1], (adcsOf v).map (fun _ => 40), (adcsOf v).map Config.nominalAaf,
   (adcsOf v).map (fun _ => 0), (adcsOf v).map Config.nominalOfs, (dacsOf v).map (fun n => Config.nominalOfs (32 + n)),
   (adcsOf v).map Config.nominalIl⟩

/-- Show a factor set in the ADCs' registers. -/
def State.showFactors (s : State) (f : Factors) : State :=
  s.each (adcsOf s.variant) (fun s n =>
    ((s.put (F.CVA_ADC_CAL_IMG_DBC n) (f.img.getD n 0)).put (F.CVA_ADC_CAL_AAF_CODE n) (f.aaf.getD n 0)).puti
      (F.CVA_ADC_CAL_DCO_RESID n) (f.dco.getD n 0))

def State.commitStamp (s : State) : State :=
  (s.put F.CVA_CAL_TURN_LO_COMMIT_TURN s.turn.toNat).put F.CVA_CAL_TURN_HI_COMMIT_TURN (s.turn.toNat / 2 ^ 32)

/-- On entry to LISTEN with the store empty, the sealed set, or else the nominal factors, are loaded (R48). -/
def State.loadStore (s : State) : State :=
  match s.cva.store with
  | some _ => s
  | none =>
    let (f, st) := match s.cva.sealedSet with | some f => (f, 1) | none => (nominalFactors s.variant, 0)
    let s := (s.setCva { s.cva with store := some f, ilCal := f.il }).showFactors f
    (s.put F.CVA_STATUS_CAL_STATE st).commitStamp

/-- Value `i` of a new list where its converter is one of those set, else of the old list. -/
def mergeFactor {α : Type} (old new : List α) (set : Nat → Bool) (n : Nat) (d : α) : List α :=
  (List.range n).map (fun i => if set i then new.getD i d else old.getD i d)

/-! ### Calibration (R46 to R51) -/

/-- A calibration starts at a boundary (R46). -/
def State.calStart (s : State) (code adc dac synth : Nat) (desc : Option DescKey) : State :=
  let c : Cal := ⟨code, adc, dac, if code = 15 then 3 else synth, desc, s.turn, none⟩
  let s := s.setCva { s.cva with cal := some c }
  let s := ((s.putB F.CVA_STATUS_CAL_BUSY true).put F.CVA_STATUS_CAL_KIND (if code = 15 then 1 else code)).put
    F.CVA_CAL_PROGRESS_TURNS_ELAPSED 0
  let s := s.each [0, 1] (fun s w => if c.setsBand w && !s.dieDown w then s.setSynth w 4 else s)
  s.muteDacs

/-- The next step of a running CAL_ALL begins; the end of OSC leaves each synthesiser LOCKED on its new band, or UNLOCKED where none
locks (R47, R50). -/
def State.calStepTo (s : State) (step : Option (Nat × List Nat × List Nat)) : State :=
  match s.cva.cal, step with
  | some c, some (k, bands, none_) =>
    if c.code ≠ 15 then s
    else
      let s := if s.get F.CVA_STATUS_CAL_KIND = 1 ∧ k ≠ 1 then
          s.each [0, 1] (fun s w =>
            if s.synth w ≠ 4 then s
            else if none_.contains w then s.synthFails w
            else ((s.setSynthX w { s.synthX w with oscFailed := false }).put (F.CVA_SYNTH_STATUS_VCO_BAND w) (bands.getD w 0)).synthLock w)
        else s
      s.put F.CVA_STATUS_CAL_KIND k
  | _, _ => s

def State.calLast (s : State) (code outcome cause : Nat) : State :=
  let s := ((s.put F.CVA_CAL_LAST_LAST_KIND code).put F.CVA_CAL_LAST_LAST_OUTCOME outcome).put F.CVA_CAL_LAST_ABORT_CAUSE cause
  s.emit 0xA0 1 4 (leBytes code 1 ++ leBytes outcome 1 ++ leBytes cause 1)

/-- No calibration runs any more. -/
def State.calIdle (s : State) : State :=
  ((s.setCva { s.cva with cal := none }).putB F.CVA_STATUS_CAL_BUSY false).put F.CVA_STATUS_CAL_KIND 0 |>.put
    F.CVA_CAL_PROGRESS_TURNS_ELAPSED 0

/-- Something stops a running calibration: nothing commits (Table 2.8). `cause` is ABORT_CAUSE: 0 reset, 1 synthesiser
unlocked, 2 state change, 3 rail. -/
def State.calAbort (s : State) (cause : Nat) : State :=
  match s.cva.cal with
  | none => s
  | some c =>
    let s := s.calIdle
    let s := if c.code = 15 then s.put F.CVA_STATUS_CAL_STATE 3 else s
    let s := s.calLast c.code 3 cause
    -- the synthesisers return to the active bands before they return to service
    let s := s.each [0, 1] (fun s w =>
      if c.setsBand w && (s.synth w == 4 || s.synth w == 2) && cause != 1 then s.reacquire w false else s)
    let s := match c.desc with
      | none => s
      | some k =>
        if cause = 1 then s.failed k 0x0A 0
        else if cause = 2 then s.failed k 0x0B 0
        else s.completeAt k 4 0 0 0 0 s.turn s.fc
    s.muteDacs

/-- Does the calibration fail for the ADC, and for which kind (R50)? An OSC failure fails the whole die. -/
def failKind (f : CalFails) (c : Cal) (v : Variant) (n : Nat) : Option Nat :=
  if !c.hasAdc v n then none
  else if f.osc.any (fun w => c.setsBand w && adcDie v n == w) then some 1
  else (f.adc.find? (fun e => e.1 == n)).map (·.2)
def failsDac (f : CalFails) (c : Cal) (v : Variant) (n : Nat) : Bool :=
  c.hasDac v n && (f.osc.any (fun w => c.setsBand w && dacDie v n == w) || (c.code != 1 && f.dac.contains n))

/-- After an OSC failure only OSC or CAL_ALL brings the die's converters back (R50). -/
def State.oscHeld (s : State) (c : Cal) (w : Nat) : Bool := (s.synthX w).oscFailed && !c.setsBand w

/-- The synthesisers that OSC failed: as its step of a CAL_ALL found, or as its end finds (R50). -/
def State.oscFails (s : State) (c : Cal) (f : CalFails) : List Nat :=
  [0, 1].filter (fun w => c.setsBand w && (if s.synth w == 4 then f.osc.contains w else (s.synthX w).oscFailed))

/-- CAL_END: each converter in scope passes or fails its limits (R50); the new factors wait for the boundary. -/
def execCalEnd (fc : Nat) (new : Factors) (fails : CalFails) (s : State) : Host.Outcome State Fault Refusal :=
  let s := s.at fc
  match s.cva.cal with
  | none => .next s
  | some c =>
    if c.ended.isSome then .next s
    else
      let v := s.variant
      let fails := { fails with osc := s.oscFails c fails }
      let badAdc := (adcsOf v).filter (fun n => (failKind fails c v n).isSome)
      let badDac := (dacsOf v).filter (fun n => failsDac fails c v n)
      let failed := !badAdc.isEmpty || !badDac.isEmpty
      let s := s.setCva { s.cva with cal := some { c with ended := some (new, fails) } }
      let s := s.each [0, 1] (fun s w =>
        if !c.setsBand w then s
        else if fails.osc.contains w then (if s.synth w == 4 then s.synthFails w else s)
        else s.setSynthX w { s.synthX w with oscFailed := false })
      let s := s.each (adcsOf v) (fun s n =>
        if !c.hasAdc v n then s
        else match failKind fails c v n with
          | some k => (s.putBit F.CVA_ADC_FAIL_ADC_FAIL n true).put (F.CVA_ADC_STATUS_FAIL_KIND n) k
          | none => if s.oscHeld c (adcDie v n) then s
            else (s.putBit F.CVA_ADC_FAIL_ADC_FAIL n false).put (F.CVA_ADC_STATUS_FAIL_KIND n) 0)
      let s := s.each (dacsOf v) (fun s n =>
        if !c.hasDac v n then s
        else if failsDac fails c v n then s.putBit F.CVA_DAC_FAIL_DAC_FAIL n true
        else if s.oscHeld c (dacDie v n) then s else s.putBit F.CVA_DAC_FAIL_DAC_FAIL n false)
      let s := s.live 3 (s.flag F.CVA_ADC_FAIL_ADC_FAIL || s.flag F.CVA_DAC_FAIL_DAC_FAIL)
      let s := if failed then s.raise 3 else s
      let s := s.calLast c.code (if failed then 2 else 1) 0
      let s := match c.desc with | some k => if failed then s.failed k 0x09 0 else s | none => s
      .next s.muteDacs

/-- The boundary after a calibration has ended: every new factor of the converters that passed commits in one step (R47,
R49, R50). -/
def State.calCommit (s : State) : State :=
  match s.cva.cal with
  | none => s
  | some c =>
    match c.ended with
    | none => s.bump F.CVA_CAL_PROGRESS_TURNS_ELAPSED 1
    | some (new, fails) =>
      let v := s.variant
      let old := match s.cva.store with | some f => f | none => nominalFactors v
      let sets (k n : Nat) : Bool := (c.code == k || c.code == 15) && c.hasAdc v n && (failKind fails c v n).isNone
      let f : Factors :=
        ⟨mergeFactor old.bands new.bands (fun w => c.setsBand w && !fails.osc.contains w) 2 0,
         mergeFactor old.img new.img (sets 4) (nAdcOf v) 0, mergeFactor old.aaf new.aaf (sets 3) (nAdcOf v) 0,
         mergeFactor old.dco new.dco (sets 2) (nAdcOf v) 0, mergeFactor old.adcOfs new.adcOfs (sets 2) (nAdcOf v) 0,
         mergeFactor old.dacOfs new.dacOfs (fun n => (c.code == 2 || c.code == 15) && c.hasDac v n && !failsDac fails c v n) (nDacOf v) 0,
         mergeFactor old.il new.il (sets 4) (nAdcOf v) []⟩
      let cal := mergeFactor s.cva.ilCal new.il (sets 4) (nAdcOf v) []
      let s := (s.setCva { s.cva with store := some f, ilCal := cal }).showFactors f
      let s := if c.code = 15 then s.put F.CVA_STATUS_CAL_STATE 2 else s
      let s := s.each [0, 1] (fun s w =>
        if c.setsBand w && !fails.osc.contains w then
          let s := s.put (F.CVA_SYNTH_STATUS_VCO_BAND w) (f.bands.getD w 0)
          if s.synth w = 4 ∨ s.synth w = 3 then s.synthLock w else s
        else s)
      let s := s.commitStamp.calIdle
      match c.desc with
      | some k => s.doneBoundary k 0
      | none => s

/-- CAL_RUN: staged for a boundary; WRONG_STATE outside LISTEN, RELAY and SAFE, CAL_BUSY while a calibration runs (R46,
R51). -/
def execCalRun (fc sq idx : Nat) (s : State) : Host.Outcome State Fault Refusal :=
  .next (s.withDesc fc sq idx Op.calRun (fun d s =>
    let k : DescKey := d.key
    let waits := s.staged.any (fun e => match e.eff with | .calRun _ _ _ _ => true | _ => false)
    if !s.running then s.failed k 0x03 s.pstate
    else if s.cva.cal.isSome || waits then s.failed k 0x08 0
    else s.stage k (.calRun (dCode d.body) (dAdcMask d.body) (dDacMask d.body) (dSynthMask d.body))))

/-- A tracked factor moves by no more than 1/16 of its calibrated value (R52). -/
def trackFactor (cal now_ new : Int) : Int :=
  let d : Int := cal.natAbs / 16
  clampInt (now_ - d) (now_ + d) new

/-- TRACK_UPDATE: at a boundary, at most once every 256 Turns, an in-service ADC whose words are clean commits a tracked update of its
interleave factors (R52). -/
def execTrackUpdate (fc adc : Nat) (f : Tracked) (s : State) : Host.Outcome State Fault Refusal :=
  let s := s.at fc
  let recent := match s.cva.tracked.find? (fun e => e.1 == adc) with
    | some e => turnsSince s.turn (BitVec.ofNat 48 e.2) < 256
    | none => false
  let s' := if s.fc ≠ 0 || !s.flag F.CVA_CAL_CTRL_TRACK_EN || !s.adcInService adc || s.adcDirty adc s.now || recent then s
    else
      let old := match s.cva.store with | some g => g.il.getD adc [] | none => []
      let new := ((s.cva.ilCal.getD adc []).zip (old.zip f.il)).map (fun e => trackFactor e.1 e.2.1 e.2.2)
      let store := s.cva.store.map (fun g => { g with img := g.img.set adc f.img, il := g.il.set adc (new ++ old.drop new.length) })
      (s.setCva { s.cva with store := store, tracked := sparseInsert s.cva.tracked adc s.turn.toNat }).put
        (F.CVA_ADC_CAL_IMG_DBC adc) f.img
  okIf (adc < nAdcOf s.variant && f.img < 256) s'

/-- CONVERTER_ENABLE_SETTLE, at a boundary: 16 Turns after a swap enabled them, converters end their dirty marking or mute (R42, R187). -/
def execConverterEnableSettle (fc : Nat) (s : State) : Host.Outcome State Fault Refusal :=
  let s := s.at fc
  let keep := s.cva.settle.filter (fun e => turnsSince s.turn (BitVec.ofNat 48 e.2) < 16)
  .next (s.awake (if s.fc = 0 then (s.setCva { s.cva with settle := keep }).boundaryDacs else s))

/-- Retry calibrations that have ended: the synthesiser tries again on the band chosen (R43). -/
def State.oscRetries (s : State) (l : List (Nat × Nat)) : State :=
  s.each l (fun s e =>
    if e.1 < 2 && s.synth e.1 == 4 && !s.calSynth e.1 then 
      ((s.setSynthX e.1 { s.synthX e.1 with lockedAt := s.turn }).put (F.CVA_SYNTH_STATUS_VCO_BAND e.1) e.2).setSynth e.1 1 else s)

/-- Streams that have re-aligned after a relock, at the latest 2 Turns after it (R44). -/
def State.realign (s : State) (l : List Nat) : State :=
  (s.each [0, 1] (fun s w =>
    let x := s.synthX w
    if s.synth w == 2 && !x.aligned && (l.contains w || 2 ≤ turnsSince s.turn x.lockedAt) then
      s.setSynthX w { x with aligned := true }
    else s)).syncSlips

end Sys2Proof.Machine
end

