-- ==== Sys2Proof/Machine/Slots.lean ====
section
/-! DEFINITION. The sample fabric and the band slots (spec/03): tiles and spares, mute causes, level readings, the staging of
gains and of the Chuck's caps, dovetails, merge points, memory and coefficient errors, and tile migration. -/
namespace Sys2Proof.Machine

def gdNone : GdSlot :=
  { backoff := 0, boEnd := none, falling := false, boBy := 0, cont := 0, boAt := 0, muteEnd := none, oscMute := false, stageMute := none,
    stageBo := 0, lastBo := 0, warnCnt := 0, nrCnt := 0, nrBlock := [], nrSums := [], emCnt := 0, dlBelow := 0, dlAbove := 0,
    inLoss := false, ref := [], oscAt := [], overranAt := none, ovrMute := false, ovrEnd := false, cond := none, acted := false }
def State.gd (s : State) (sl : Nat) : GdSlot := sparseGet gdNone s.grd.slots sl
def State.setGrd (s : State) (g : Grd) : State := { s with grd := g }
def State.setGd (s : State) (sl : Nat) (x : GdSlot) : State :=
  s.setGrd { s.grd with slots := sparseSet gdNone s.grd.slots sl x }

/-! ### Tiles (R64, R75, R76) -/

def homeTile (v : Variant) (sl : Nat) : Nat := if slotIsUl sl then nDirOf v + sl % 64 else sl
def State.tileOf (s : State) (sl : Nat) : Nat := sparseGet (homeTile s.variant sl) s.fab.tiles sl
def State.tileRetired (s : State) (t : Nat) : Bool := s.getBit (F.FAB_TILE_RETIRED_RETIRED (t / 32)) (t % 32)
/-- Numbers of the spare tiles, and of the spare lanes. -/
def spareNumbers (v : Variant) : List Nat := (List.range (nTileOf v)).filter (fun t => 2 * nDirOf v ≤ t)
def State.freeTiles (s : State) : List Nat :=
  (spareNumbers s.variant).filter (fun t => !s.tileRetired t && s.fab.tiles.all (fun e => e.2 != t) &&
    s.fab.migs.all (fun m => m.spare != some t))
def State.laneRetired (s : State) (t : Nat) : Bool := s.getBit (F.GOUGE_LANE_RETIRED_RETIRED (t / 32)) (t % 32)
def State.laneOf (s : State) (sl : Nat) : Nat := sparseGet (homeTile s.variant sl) s.gouge.lanes sl
def State.freeLanes (s : State) : List Nat :=
  (spareNumbers s.variant).filter (fun t => !s.laneRetired t && s.gouge.lanes.all (fun e => e.2 != t) &&
    s.gouge.migs.all (fun m => m.spare != some t))
/-- FAB_SPARE_EXHAUSTED is live while no spare tile or no spare lane is free (R76, R109). -/
def State.syncSpares (s : State) : State := s.live 46 (s.freeTiles.isEmpty || s.freeLanes.isEmpty)

/-! ### What a slot uses -/

def State.slotOn (s : State) (sl : Nat) : Bool := s.actB (F.CHZ_SLOT_CFG_EN sl)
/-- Slots enabled in the Active Plan. -/
def State.slotsOn (s : State) : List Nat := (slotsOf s.variant).filter s.slotOn
/-- The source ADC: SRC, or the chosen member of its diversity pair with DIV = 1 (R58, R162). -/
def State.srcAdc (s : State) (sl : Nat) : Nat :=
  let a := s.act (F.CHZ_SLOT_CFG_SRC sl)
  if s.actB (F.CHZ_SLOT_CFG_DIV sl) then a / 2 * 2 + s.get (F.CHZ_SLOT_STATUS_DIV_SEL sl) else a
/-- Combiners, and so DACs, that a slot feeds. -/
def State.combsOf (s : State) (sl : Nat) : List Nat := (dacsOf s.variant).filter (fun k => bit (s.act (F.CHZ_SLOT_COMB_COMB_MASK sl)) k)

/-- A converter that the slot uses is out of service, or a DAC of it is muted (M_CONV). -/
def State.convMuted (s : State) (sl : Nat) : Bool :=
  !s.adcInService (s.srcAdc sl) || (s.combsOf sl).any s.dacMuted

/-- Under any Guard mute: a step of 2 or more, donor loss, stability, or two overruns in a row (R23, R118, R128, R129). -/
def State.guardMuted (s : State) (sl : Nat) : Bool :=
  2 ≤ s.get (F.GRD_SLOT_STATUS_ACTION sl) || s.flag (F.GRD_SLOT_STATUS_D_DONOR sl) ||
  s.flag (F.GRD_SLOT_STATUS_D_STAB sl) || (s.gd sl).ovrMute

/-- The slot is in repair of a coefficient, or its tile or lane migrates. -/
def State.inRepair (s : State) (sl : Nat) : Bool :=
  s.fab.coef.any (fun e => e.1 == sl) || s.fab.migs.any (fun m => m.slot == sl) || s.gouge.migs.any (fun m => m.slot == sl)
def State.spareless (s : State) (sl : Nat) : Bool := s.fab.noSpare.contains sl || s.gouge.noSpare.contains sl

/-! ### Mutes (R69, Table 3.24) -/

/-- Recompute MUTED from the causes shown. -/
def State.syncMuted (s : State) (sl : Nat) : State :=
  s.putB (F.CHZ_SLOT_STATUS_MUTED sl) (!s.slotOn sl || s.flag (F.CHZ_SLOT_STATUS_M_CHUCK sl) ||
    s.flag (F.CHZ_SLOT_STATUS_M_GUARD sl) || s.flag (F.CHZ_SLOT_STATUS_M_SEQ sl) || s.flag (F.CHZ_SLOT_STATUS_M_CONV sl) ||
    s.flag (F.CHZ_SLOT_STATUS_M_REPAIR sl) || s.flag (F.CHZ_SLOT_STATUS_M_NO_SPARE sl))

def State.slotMuted (s : State) (sl : Nat) : Bool := s.flag (F.CHZ_SLOT_STATUS_MUTED sl)
/-- A cause acts at once: REPAIR in the cycle of detection, GUARD at fc 768. -/
def State.muteNow (s : State) (f : Field) (sl : Nat) : State :=
  if !s.slotOn sl then s
  else
    let s := if s.slotMuted sl then s else s.setFab { s.fab with muteAt := s.fab.muteAt ++ [(sl, s.now)] }
    (s.putB f true).syncMuted sl
/-- The slot is muted at time `t` of this Turn: since it began, or since a cause acted in it. -/
def State.mutedAt (s : State) (sl t : Nat) : Bool :=
  s.slotMuted sl && (match s.fab.muteAt.find? (fun e => e.1 == sl) with | some e => e.2 ≤ t | none => true)

/-- The Chuck's view of a slot at a boundary: M_CHUCK, CAP's token, and the noise limit (R338, R353). -/
def State.chuckSlot (s : State) (sl : Nat) : State :=
  match (if s.lifecycle = 4 then none else s.governing s.active sl) with
  | none =>
    (((s.putB (F.CHZ_SLOT_STATUS_M_CHUCK sl) (s.slotOn sl)).putB (F.SEC_SLOT_CAP_NONE sl) true).put
      (F.SEC_SLOT_CAP_TOKEN sl) 0).puti (F.GRD_SLOT_NOISE_NR_LIMIT sl) (-32768)
  | some t =>
    (((s.putB (F.CHZ_SLOT_STATUS_M_CHUCK sl) false).putB (F.SEC_SLOT_CAP_NONE sl) false).put
      (F.SEC_SLOT_CAP_TOKEN sl) t.index).puti (F.GRD_SLOT_NOISE_NR_LIMIT sl) t.nrLimit

/-- Every mute and unmute that waits for a boundary is decided for a slot. -/
def State.boundarySlot (s : State) (sl : Nat) : State :=
  if s.slotOn sl then
    let s := s.chuckSlot sl
    let s := s.putB (F.CHZ_SLOT_STATUS_M_CONV sl) (s.convMuted sl)
    let s := s.putB (F.CHZ_SLOT_STATUS_M_GUARD sl) (s.guardMuted sl)
    let s := s.putB (F.CHZ_SLOT_STATUS_M_REPAIR sl) (s.inRepair sl)
    (s.putB (F.CHZ_SLOT_STATUS_M_NO_SPARE sl) (s.spareless sl)).syncMuted sl
  else
    let s := (s.putB (F.CHZ_SLOT_STATUS_M_CHUCK sl) false).putB (F.CHZ_SLOT_STATUS_M_CONV sl) false
    let s := (s.putB (F.CHZ_SLOT_STATUS_M_GUARD sl) false).putB (F.CHZ_SLOT_STATUS_M_REPAIR sl) false
    let s := (s.putB (F.CHZ_SLOT_STATUS_M_NO_SPARE sl) (s.spareless sl)).putB (F.CHZ_SLOT_STATUS_M_SEQ sl) false
    ((s.putB (F.SEC_SLOT_CAP_NONE sl) true).puti (F.GRD_SLOT_NOISE_NR_LIMIT sl) (-32768)).syncMuted sl

def State.boundaryMutes (s : State) : State := s.each (slotsOf s.variant) State.boundarySlot

/-! ### Gain (R21, R69, R207, R339) -/

def State.wantOf (s : State) (sl : Nat) : Int := sparseGet (-600) s.fab.want sl
def State.setWant (s : State) (sl : Nat) (g : Int) : State := s.setFab { s.fab with want := sparseSet (-600) s.fab.want sl g }
def State.planGain (s : State) (sl : Nat) (g : Int) : Int :=
  clampInt (s.actI (F.CHZ_SLOT_GAIN_LIM_GAIN_MIN sl)) (s.actI (F.CHZ_SLOT_GAIN_LIM_GAIN_MAX sl)) g
def State.gainNow (s : State) (sl : Nat) : Int := s.geti (F.CHZ_SLOT_GAIN_GAIN_NOW sl)

/-- The Chuck's level cap L of a slot for the next Turn (R339); MAX_LEVEL in 0.01 dB, gains in 0.05 dB. -/
def State.levelCap (s : State) (sl : Nat) : Int := sparseGet 1200 s.sec.levelCap sl
def nextLevelCap (gain out maxLevel old : Int) : Int :=
  if maxLevel < out then min 1200 ((5 * gain - (out - maxLevel)) / 5) else min 1200 (old + 10)

/-- Step 3 of the commit window, the Chuck's part: CAP of a covered slot. -/
def State.stageCap (s : State) (sl : Nat) : State :=
  match s.governing s.active sl with
  | none => s
  | some t =>
    let l := nextLevelCap (s.gainNow sl) (s.geti (F.CHZ_SLOT_LEVEL_OUT_LEVEL sl)) t.maxLevel (s.levelCap sl)
    let s := s.setSec { s.sec with levelCap := sparseSet 1200 s.sec.levelCap sl l }
    s.puti (F.SEC_SLOT_CAP_CAP sl) (min t.maxGain l)

/-- The limits of step 3 on a gain: the Guard's and the Chuck's; a gain is never below −30.00 dB (R15, R69). -/
def State.limitGain (s : State) (sl : Nat) (g : Int) : Int :=
  let lim := s.geti (F.GRD_SLOT_LIMIT_G_LIM sl)
  let g := if lim = -32768 then g else min g lim
  max (-600) (min g (s.geti (F.SEC_SLOT_CAP_CAP sl)))

/-- SLOT_GAIN: staged in step 2 of the commit window (R207); WRONG_STATE for a slot not enabled, LOOP_OWNED for one whose
level loop is enabled (R16). -/
def execSlotGain (fc sq idx : Nat) (s : State) : Host.Outcome State Fault Refusal :=
  .next (s.withDesc fc sq idx Op.slotGain (fun d s =>
    let k : DescKey := d.key
    let sl := dSlot d.body
    if !s.slotOn sl then s.failed k 0x03 s.pstate
    else if s.actB (F.CTL_LVL_CFG_LVL_EN sl) then s.failed k 0x04 0
    else s.setFab { s.fab with gains := s.fab.gains ++ [⟨k, sl, dGain d.body, s.dueTurn⟩] }))

/-- Steps 2 and 3 of the commit window: the SLOT_GAINs of this Turn, then the limits (R21). Gains of level loops have
been asked for already. -/
def State.stageGains (s : State) : State :=
  let due := s.fab.gains.filter (fun g => g.due == s.turn + 1)
  let was (sl : Nat) : Int := s.planGain sl (s.wantOf sl)
  let s := s.setFab { s.fab with gains := s.fab.gains.filter (fun g => !(g.due == s.turn + 1)),
                                 gainDone := due.map (fun g => (g.desc, g.slot, was g.slot, was g.slot)) }
  let s := s.each due (fun s g => s.setWant g.slot g.gain)
  s.each s.slotsOn (fun s sl =>
    let s := (s.setWant sl (s.planGain sl (s.wantOf sl))).stageCap sl
    let done := s.fab.gainDone.map (fun g => if g.2.1 == sl then (g.1, sl, g.2.2.1, s.limitGain sl g.2.2.1) else g)
    s.setFab { s.fab with next := sparseInsert s.fab.next sl (s.limitGain sl (s.wantOf sl)), gainDone := done })

/-- The staged gains take effect at the boundary, and their descriptors complete with GAIN_NOW (R207). -/
def State.applyGains (s : State) : State :=
  let s := s.each s.fab.next (fun s e => if s.slotOn e.1 then s.puti (F.CHZ_SLOT_GAIN_GAIN_NOW e.1) e.2 else s)
  let ds := s.fab.gainDone
  let s := s.setFab { s.fab with next := [], gainDone := [] }
  s.each ds (fun s d => s.doneBoundary d.1 (s.get (F.CHZ_SLOT_GAIN_GAIN_NOW d.2.1)))

/-- A swap discards what was staged: each SLOT_GAIN completes FAILED with PLAN_SWAPPED (R22). -/
def State.discardGains (s : State) : State :=
  let ds := s.fab.gainDone.map (·.1) ++ (s.fab.gains.filter (fun g => g.due == s.turn)).map (·.desc)
  let s := s.setFab { s.fab with next := [], gainDone := [], gains := s.fab.gains.filter (fun g => !(g.due == s.turn)) }
  s.each ds (fun s k => s.completeAt k 3 0x05 0 0 0 s.turn 0)

/-! ### The channel filter, restarts and dirty marks (R67, R72, R73) -/

/-- Channel-filter taps (Table 3.4). -/
def filterTaps (trans rej : Nat) : Nat := (([[512, 768, 1024], [224, 320, 416], [96, 144, 192]].getD trans []).getD rej 0)
/-- Its group delay G in half slot samples: (taps − 1)/2 samples with linear phase, the table's at the slot centre with minimum phase. -/
def filterDelay (trans rej : Nat) (minimum : Bool) : Nat :=
  if minimum then 2 * (([[62, 88, 112], [28, 38, 48], [13, 18, 24]].getD trans []).getD rej 0) else filterTaps trans rej - 1
/-- Its dirty span D in slot samples. -/
def dirtySpan (trans : Nat) : Nat := [61, 25, 13].getD trans 0
/-- Decimation of a RATE code (Table 3.3). -/
def decim (rate : Nat) : Nat := [3200, 1600, 800, 400, 200, 100, 50].getD rate 50
def State.slotDecim (s : State) (sl : Nat) : Nat := decim (s.act (F.CHZ_SLOT_CFG_RATE sl))
/-- Length of a slot's filter, and of its dirty span, in converter samples. -/
def State.fillLen (s : State) (sl : Nat) : Nat :=
  filterTaps (s.act (F.CHZ_SLOT_CFG_TRANS sl)) (s.act (F.CHZ_SLOT_CFG_REJ sl)) * s.slotDecim sl
def State.spanLen (s : State) (sl : Nat) : Nat := dirtySpan (s.act (F.CHZ_SLOT_CFG_TRANS sl)) * s.slotDecim sl
/-- Length of a slot's filter fill in fc, rounded up: taps × decimation samples at 16 a fc. -/
def State.fillFc (s : State) (sl : Nat) : Nat := (s.fillLen sl + 15) / 16

/-- Mark a slot dirty over a span of converter samples. -/
def State.markSlot (s : State) (sl from_ upto : Nat) (ovr : Bool) : State :=
  s.setFab { s.fab with marks := s.fab.marks ++ [(sl, from_, upto, ovr)] }
/-- A source word that is dirty, or clipped, at time `t` marks the slot for as long as it acts on it: the word, and D slot samples (R72). -/
def State.markWord (s : State) (sl t : Nat) (ovr : Bool) : State := s.markSlot sl (16 * t) (16 * t + 16 + s.spanLen sl) ovr

/-- The filter of a slot begins to fill: its history is cleared and its output dirty for one filter length (R73); the Guard's reference
history starts afresh (R120). -/
def State.startFill (s : State) (sl : Nat) : State :=
  let s := s.setGd sl { s.gd sl with ref := [] }
  let s := s.setFab { s.fab with fill := sparseInsert s.fab.fill sl s.turn.toNat, paths := s.fab.paths.filter (fun e => e.1 != sl) }
  (s.markSlot sl (16 * s.now) (16 * s.now + s.fillLen sl) false).putB (F.CHZ_SLOT_STATUS_FILLING sl) true

/-- FILL_END: one filter length has passed since the restart (R73). -/
def execFillEnd (fc sl : Nat) (s : State) : Host.Outcome State Fault Refusal :=
  let s := s.at fc
  let s' := match s.fab.fill.find? (fun e => e.1 == sl) with
    | none => s
    | some e =>
      if s.fillFc sl ≤ 3072 * turnsSince s.turn (BitVec.ofNat 48 e.2) + s.fc then
        (s.setFab { s.fab with fill := sparseErase s.fab.fill sl }).putB (F.CHZ_SLOT_STATUS_FILLING sl) false
      else s
  okIf (slotIn s.variant sl) s'

/-! ### Tile faults (R74 to R76) -/

/-- The slot a tile serves, or is being given. -/
def State.slotOfTile (s : State) (t : Nat) : Option Nat :=
  match s.fab.migs.find? (fun m => m.spare == some t) with
  | some m => some m.slot
  | none => (slotsOf s.variant).find? (fun sl => s.tileOf sl == t)

/-- A tile signals FAB_TILE_FAIL: it is retired, its slot is muted with cause REPAIR from this cycle, and migrates; with no
spare free its cause is NO_SPARE from the next boundary (R69, R76). The tile of a slot that is not enabled migrates too: the spec speaks of
slots and does not say (DESIGN CHOICE, log entry 58). -/
def State.tileFail (s : State) (t : Nat) : State :=
  if s.tileRetired t then s
  else
    let s := (s.putBit (F.FAB_TILE_RETIRED_RETIRED (t / 32)) (t % 32) true).raise 6
    let s : State := match s.slotOfTile t with
      | none => s
      | some sl =>
        let rest := s.fab.migs.filter (fun m => m.slot != sl)
        let again := (s.fab.migs.find? (fun m => m.slot == sl)).any (fun m => m.restart)
        let coef := s.fab.coef.filter (fun e => e.1 != sl)
        let s := (s.setFab { s.fab with coef := coef }).live 8 (coef.any (fun e => e.2 == 0))
        if s.freeTiles.isEmpty then
          (s.setFab { s.fab with migs := rest, noSpare := s.fab.noSpare ++ [sl] }).muteNow (F.CHZ_SLOT_STATUS_M_REPAIR sl) sl
        else
          (s.setFab { s.fab with migs := rest ++ [⟨sl, s.turn, s.now, none, false, again⟩] }).muteNow (F.CHZ_SLOT_STATUS_M_REPAIR sl) sl
    (s.live 6 (!s.fab.migs.isEmpty)).syncSpares

/-- FAB_TILE_FAIL: a tile's duplicated logic disagrees. -/
def execFabTileFail (fc tile : Nat) (s : State) : Host.Outcome State Fault Refusal :=
  let s := s.at fc
  okIf (tile < nTileOf s.variant) (s.awake (s.tileFail tile))

/-- One slot's migration at a boundary (Table 3.5): the spare is chosen at T + 1, attached at T + 5, and carries the output
from T + 6. `bad`: the copied history failed its check. -/
def State.migrateTile (s : State) (bad : List Nat) (m : TileMig) : State :=
  let age := turnsSince s.turn m.fail
  let upd (s : State) (m : TileMig) : State :=
    s.setFab { s.fab with migs := s.fab.migs.map (fun n => if n.slot == m.slot then m else n) }
  match m.spare with
  | none =>
    if age = 0 then s
    else match s.freeTiles.head? with
      | none =>
        let s := s.setFab { s.fab with migs := s.fab.migs.filter (fun n => n.slot != m.slot),
                                       noSpare := s.fab.noSpare ++ [m.slot] }
        s.boundarySlot m.slot
      | some t =>
        let s := upd s { m with spare := some t }
        if s.freeTiles.isEmpty then s.raise 46 else s
  | some t =>
    let m := { m with bad := m.bad || bad.contains m.slot }
    if age < 5 then upd s m
    else if age < 6 then upd (s.setFab { s.fab with tiles := sparseInsert s.fab.tiles m.slot t }) m
    else
      let s := s.setFab { s.fab with tiles := sparseInsert s.fab.tiles m.slot t,
                                     migs := s.fab.migs.filter (fun n => n.slot != m.slot) }
      let s := s.putB (F.CHZ_SLOT_STATUS_MIGRATED m.slot) true
      let s := if m.bad || m.restart then s.startFill m.slot else s
      s.boundarySlot m.slot

/-- SPARE_MIGRATION_STEP: every migration advances at a boundary, in order of slot index (R75). -/
def execSpareMigrationStep (fc : Nat) (bad : List Nat) (s : State) : Host.Outcome State Fault Refusal :=
  let s := s.at fc
  let order := (slotsOf s.variant).filterMap (fun sl => s.fab.migs.find? (fun m => m.slot == sl))
  let s := s.each order (fun s m => s.migrateTile bad m)
  .next ((s.live 6 (!s.fab.migs.isEmpty)).syncSpares)

/-- The slots fed from an ADC. -/
def State.slotsFrom (s : State) (adc : Nat) : List Nat := s.slotsOn.filter (fun sl => s.srcAdc sl == adc)
/-- A word of an ingress lane is bad now: dirty, and zeros where its content is lost; slots fed by it are marked (R25, R63, R72). -/
def State.badWord (s : State) (port : Nat) (lost : Bool) : State :=
  let s := s.setFab { s.fab with badWords := s.fab.badWords ++ [(port, s.now, lost)] }
  s.each (s.slotsFrom port) (fun s sl => s.markWord sl s.now false)

/-- The port or the tile of an error is present. -/
def fabErrOk (v : Variant) (e : FabErr) : Bool :=
  match e with
  | .lane p => decide (p < nFportOf v)
  | .tile t => decide (t < nTileOf v)
  | .sideband p side => decide (p < nFportOf v) && decide (side < 2 ^ 20)

/-- FAB_ECC: an error in crossbar memory, or in the data memory of a tile (R63), where two uncorrectable ones within 256 Turns fail the
tile (R74); or a sideband whose parity does not hold (R25). -/
def execFabEcc (fc : Nat) (e : FabErr) (single : Bool) (s : State) : Host.Outcome State Fault Refusal :=
  let s := s.at fc
  let s' : State := match e with
    | .sideband p side => if sideGood side then s else (s.raise 5).badWord p false
    | _ => if single then (s.bump F.FAB_ECC_COUNT_CORRECTED 1).raise 5
      else
        let s := (s.bump F.FAB_ECC_COUNT_UNCORRECTED 1).raise 5
        match e with
        | .tile t =>
          let s := match s.slotOfTile t with | some sl => s.markWord sl s.now false | none => s
          let twice := s.fab.ecc.any (fun e => e.1 == t && turnsSince s.turn (BitVec.ofNat 48 e.2) < 256)
          let s := s.setFab { s.fab with ecc := sparseInsert s.fab.ecc t s.turn.toNat }
          if twice then s.tileFail t else s
        | .lane p => s.badWord p true
        | .sideband _ _ => s
  okIf (fabErrOk s.variant e) (s.awake s')

/-- The tile that holds a slot's coefficients: the spare being given, or its own; none while the spare is still to be chosen. -/
def State.coefTile (s : State) (sl : Nat) : Option Nat := match s.fab.migs.find? (fun m => m.slot == sl) with
  | some m => m.spare
  | none => some (s.tileOf sl)

/-- CHZ_COEF_PARITY: the slot is muted with cause REPAIR until the coefficient is reloaded and verified (R74); a tile already retired
reloads nothing. -/
def execChzCoefParity (fc sl : Nat) (s : State) : Host.Outcome State Fault Refusal :=
  let s := s.at fc
  let t := s.raise 8
  let s' := match s.coefTile sl with
    | none => t
    | some _ => ((t.live 8 true).setFab { s.fab with coef := sparseInsert s.fab.coef sl 0 }).muteNow (F.CHZ_SLOT_STATUS_M_REPAIR sl) sl
  okIf (slotIn s.variant sl) (s.awake s')

/-- COEF_RELOAD at a boundary: a coefficient verified at the last one unmutes its slot; a reload whose read-back is wrong, as one with
injected check bits is, fails the tile. -/
def State.coefBoundary (s : State) (readBack : List Nat) : State :=
  let was := s.fab.coef
  let s := s.setFab { s.fab with coef := was.filterMap (fun e => if e.2 = 0 then some (e.1, 1) else none) }
  let s := s.each (was.filter (fun e => e.2 == 2 || (e.2 == 0 && readBack.contains e.1))) (fun s e =>
    match s.coefTile e.1 with | some t => s.tileFail t | none => s)
  s.live 8 (s.fab.coef.any (fun e => e.2 == 0))

/-! ### Dovetails and merge points (R61, R62) -/

/-- DOVETAIL_SLIP: a dovetail's occupancy would lie further from its centre than the 4 fc it may. -/
def execDovetailSlip (fc : Nat) (o : Occupancy) (s : State) : Host.Outcome State Fault Refusal :=
  let s := s.at fc
  let s' := if s.fab.slipped.contains o.dovetail || decide (o.offset.natAbs ≤ 4) then s
    else
      let s := ((s.putBit F.FAB_SLIP_SLIPPED o.dovetail true).bump F.FAB_SLIP_SLIP_COUNT 1).raise 7
      let s := s.setFab { s.fab with slipped := s.fab.slipped ++ [o.dovetail] }
      (if o.dovetail < 2 then s.dirtyDie o.dovetail else s).syncSlips
  okIf (o.dovetail < 4) (s.awake s')

/-- DOVETAIL_RECENTRE at a boundary; DIRTY marking ends at the boundary after it (R61). -/
def State.slipBoundary (s : State) : State :=
  (s.setFab { s.fab with slipped := [], recentred := s.fab.slipped }).syncSlips

/-- The stamps of the words that meet are all equal (R25). -/
def stampsEqual : List Nat → Bool
  | [] => true
  | a :: l => l.all (sameStamp a)

/-- MERGE_MISMATCH: words meet at a merge point. Where their stamps differ the event is raised, once in each
Turn (R62); the output is then dirty to the end of the Turn (log entry 59). -/
def execMergeMismatch (fc : Nat) (m : Meeting) (s : State) : Host.Outcome State Fault Refusal :=
  let s := s.at fc
  let s' := if s.fab.mergeNow.contains m.point || stampsEqual m.sides then s
    else
      let s := ((s.putB F.FAB_SLIP_MERGE true).bump F.FAB_SLIP_SLIP_COUNT 1).raise 7
      let s := s.setFab { s.fab with mergeNow := s.fab.mergeNow ++ [m.point], mergeAt := s.fab.mergeAt ++ [(m.point, s.now)] }
      (if m.point < 128 then s.markSlot m.point (16 * s.now) (16 * 3072 * (s.ticks + 1)) false else s).syncSlips
  okIf (if m.point < 128 then slotIn s.variant m.point
    else if m.point < 160 then m.point - 128 < nDacOf s.variant
    else if m.point < 192 then m.point - 160 < nEmOf s.variant else m.point - 192 < nObsOf s.variant) (s.awake s')

/-- The Turn's merge differences are accounted: four Turns in a row inside a tile, with the dovetail of its source not re-aligning, fail
it. -/
def State.mergeBoundary (s : State) : State :=
  let quiet (p : Nat) : Bool := !s.slipLive (adcDie s.variant (s.srcAdc p))
  let run := s.fab.mergeNow.map (fun p => (p, if p < 128 && quiet p then sparseGet 0 s.fab.mergeRun p + 1 else 0))
  let s := s.setFab { s.fab with mergeNow := [], mergeAt := [], mergeRun := run }
  let s := s.each (run.filter (fun e => 4 ≤ e.2)) (fun s e => s.tileFail (s.tileOf e.1))
  s.syncSlips

/-- Dovetail offsets over the Turn just ended. -/
def State.fabricMeas (s : State) (fill : List Int) : State :=
  let f (i : Nat) : Int := clampInt (-4) 4 (fill.getD i 0)
  let s := ((s.puti F.FAB_DOVETAIL_FILL_FILL0 (f 0)).puti F.FAB_DOVETAIL_FILL_FILL1 (f 1)).puti F.FAB_DOVETAIL_FILL_FILL2 (f 2)
  s.puti F.FAB_DOVETAIL_FILL_FILL3 (f 3)

end Sys2Proof.Machine
end

