-- ==== Sys2Proof/Machine/Paths.lean ====
section
/-! DEFINITION. The sample paths (spec/01, spec/03, spec/04): what the words of each lane of the fabric carry, the samples of the slots with
what holds of each, the probe, the Gouge's subtraction, and the level detectors. The state of the slots' duplex groups and of the Gouge
that they read stands here too. -/
namespace Sys2Proof.Machine

/-! ### Duplex groups (R139 to R141) -/

def State.setSeq (s : State) (q : Seq) : State := { s with seq := q }
def State.sg (s : State) (g : Nat) : SeqGroup := sparseGet sgNone s.seq.groups g
def State.setSg (s : State) (g : Nat) (x : SeqGroup) : State := s.setSeq { s.seq with groups := sparseInsert s.seq.groups g x }
def allGroups : List Nat := List.range 8
def allPins : List Nat := List.range 32

def State.groupOn (s : State) (g : Nat) : Bool := s.actB (F.SEQ_DG_CFG_EN g)
def State.isTdd (s : State) (g : Nat) : Bool := s.actB (F.SEQ_DG_CFG_MODE g)
def State.syncState (s : State) (g : Nat) : Nat := s.get (F.SEQ_DG_STATUS_SYNC_STATE g)
/-- The rest state: IDLE or LISTEN, by REST (R140). -/
def State.restOf (s : State) (g : Nat) : Nat := s.act (F.SEQ_DG_CFG_REST g)
/-- State of a half, 0 DL and 1 UL; a TDD group has one state, shown in both (R139). -/
def State.half (s : State) (g h : Nat) : Nat := s.get (if h = 0 then F.SEQ_DG_STATUS_STATE g else F.SEQ_DG_STATUS_STATE_UL g)
/-- A half leaves `old` for `v` at port time `t`: transitions of the last two Turns are kept. -/
def State.moved (s : State) (g h old v t : Nat) : State :=
  let x := s.sg g
  let keep := x.moves.filter (fun m => s.now < m.2.1 + 6208)
  if old = v then s else s.setSg g { x with moves := (h, t, old, v) :: keep }
/-- A half goes to a state. -/
def State.putHalf (s : State) (g h v t : Nat) : State :=
  let s := s.moved g h (s.half g h) v t
  if s.isTdd g then (s.put (F.SEQ_DG_STATUS_STATE g) v).put (F.SEQ_DG_STATUS_STATE_UL g) v
  else s.put (if h = 0 then F.SEQ_DG_STATUS_STATE g else F.SEQ_DG_STATUS_STATE_UL g) v
/-- The machines of a group: one for TDD, two for FDD. -/
def State.halves (s : State) (g : Nat) : List Nat := if s.isTdd g then [0] else [0, 1]
def State.groupOfSlot (s : State) (sl : Nat) : Nat := s.act (F.SEQ_SLOT_GRP_GROUP sl)
/-- The half that gates a slot. -/
def State.halfOfSlot (s : State) (sl : Nat) : Nat := if s.isTdd (s.groupOfSlot sl) then 0 else b2n (slotIsUl sl)
def State.slotsOfGroup (s : State) (g : Nat) : List Nat := s.slotsOn.filter (fun sl => s.groupOfSlot sl == g)
/-- The transmit gate of a slot is open (R141). -/
def State.gateOpen (s : State) (sl : Nat) : Bool := s.half (s.groupOfSlot sl) (s.halfOfSlot sl) == 2 + b2n (slotIsUl sl)

/-! ### What holds of a slot's group at a time of this Turn (R95, R115) -/

/-- Transitions of the half that gates a slot, newest first: time, state left, state entered. -/
def State.movesOf (s : State) (sl : Nat) : List (Nat × Nat × Nat) :=
  ((s.sg (s.groupOfSlot sl)).moves.filter (fun m => m.1 == s.halfOfSlot sl)).map (·.2)
/-- The state of that half at time `t`. -/
def State.gateState (s : State) (sl t : Nat) : Nat :=
  let l := s.movesOf sl
  match l.find? (fun m => m.1 ≤ t) with
  | some m => m.2.2
  | none => match l.getLast? with
    | some m => m.2.1
    | none => s.half (s.groupOfSlot sl) (s.halfOfSlot sl)
/-- The slot's gate is open at time `t`. -/
def State.gateAt (s : State) (sl t : Nat) : Bool := s.gateState sl t == 2 + b2n (slotIsUl sl)
/-- It was open from after time `a` to time `b`. -/
def State.gateOver (s : State) (sl a b : Nat) : Bool := s.gateAt sl b && (s.movesOf sl).all (fun m => !(a < m.1 && m.1 ≤ b))
/-- A transition lies within the 64 fc before time `t`. -/
def State.gateNear (s : State) (sl t : Nat) : Bool := (s.movesOf sl).any (fun m => m.1 ≤ t && t < m.1 + 64)

/-! ### The words of the lanes (R56, R57, R62, R63, R71, R166) -/

/-- A slot is marked dirty at a converter sample; with `ovr`, by a clipped source sample. -/
def State.markedAt (s : State) (sl x : Nat) (ovr : Bool) : Bool :=
  s.fab.marks.any (fun m => m.1 == sl && m.2.1 ≤ x && x < m.2.2.1 && (m.2.2.2 || !ovr))

/-- The word that the tile of slot `sl` puts out at `fc` of this Turn: zeros while the slot is muted or its gate is closed; a word of which
any sample is marked carries the mark. -/
def State.tileWord (s : State) (st : Stream) (sl fc : Nat) : FabWord :=
  let t := 3072 * s.ticks + fc
  let open_ := s.slotOn sl && !s.mutedAt sl t && s.gateAt sl t
  let hit (ovr : Bool) : Bool := s.fab.marks.any (fun m => m.1 == sl && m.2.1 < 16 * t + 16 && 16 * t < m.2.2.1 && (m.2.2.2 || !ovr))
  ⟨sideband s.turn.toNat fc (hit true) (hit false), if open_ then wordAt (streamOf st.tiles sl) fc else zeroSamples⟩

/-- The S port of a combiner, if it feeds one (R71). -/
def combPort (v : Variant) (k : Nat) : Option Nat := if nPortOf v ≤ k then some (k - nPortOf v) else none
/-- A combiner's attenuation in 0.1 dB: ATTN, and SEARCH_ATTN while a tuner search of its port has it (R71, R165). -/
def State.combAttn (s : State) (k : Nat) : Nat :=
  s.act (F.CHZ_COMB_CFG_ATTN k) + (match combPort s.variant k with
    | some p => if s.seq.attn.contains p then
        (match (List.range (nObsOf s.variant)).find? (fun m => bit (s.act (F.SEQ_MM_CFG_PORTS m)) p) with
          | some m => s.act (F.SEQ_MM_SEARCH_SEARCH_ATTN m) | none => 0)
      else 0
    | none => 0)
/-- A combiner delivers zero words: its port is muted for mismatch (R166). -/
def State.combSilent (s : State) (k : Nat) : Bool :=
  match combPort s.variant k with | some p => s.getBit F.SEQ_PORT_MUTED_MUTED p | none => false
/-- The slots that combiner `k` sums. -/
def State.combSlots (s : State) (k : Nat) : List Nat := s.slotsOn.filter (fun sl => (s.combsOf sl).contains k)

/-- The word of combiner `k` at `fc` of this Turn, and whether it holds a saturated sample (R71). It is dirty where a word it sums is, and
after a merge that found unequal stamps (R62). -/
def State.combWord (s : State) (st : Stream) (k fc : Nat) : FabWord × Bool :=
  let ws := (s.combSlots k).map (fun sl => s.tileWord st sl fc)
  let l := (ws.foldl (fun a w => addWords a w.samples) zeroSamples).map (combSample (s.combAttn k))
  let bad := s.fab.mergeAt.any (fun e => e.1 == 128 + k && e.2 ≤ 3072 * s.ticks + fc)
  let side := sideband s.turn.toNat fc (ws.any (fun w => sideOvr w.side)) (bad || ws.any (fun w => sideDirty w.side))
  if s.combSilent k then (⟨side, zeroSamples⟩, false) else (⟨side, l.map (·.1)⟩, l.any (·.2))
/-- The cycles of this Turn in which combiner `k` saturates. -/
def State.satCycles (s : State) (st : Stream) (k : Nat) : List Nat :=
  let l := (s.combSlots k).flatMap (fun sl => (streamOf st.tiles sl).map (·.1))
  (l.eraseDups.filter (· < 3072)).filter (fun fc => (s.combWord st k fc).2)

/-- The word on the ingress lane of fabric port `p` at `fc` of this Turn (Table 3.1). -/
def State.laneWord (s : State) (st : Stream) (p fc : Nat) : FabWord :=
  let v := s.variant
  let tile0 := nAdcOf v
  let comb0 := tile0 + nTileOf v
  let none_ : FabWord := ⟨sideband s.turn.toNat fc false false, zeroSamples⟩
  if p < tile0 then s.adcWord st p fc
  else
    let w := if p < comb0 then
        (match s.slotsOn.find? (fun sl => s.tileOf sl == p - tile0) with | some sl => s.tileWord st sl fc | none => none_)
      else if p < comb0 + nDacOf v then (s.combWord st (p - comb0) fc).1
      else none_
    let bad := s.fab.badWords.filter (fun e => e.1 == p && e.2.1 == 3072 * s.ticks + fc)
    let w := w.mark (!bad.isEmpty)
    if bad.any (·.2.2) then { w with samples := zeroSamples } else w

/-! ### The Gouge's slots (R82 to R84, R90) -/

def ggNone : GgSlot :=
  { taps := [], staged := none, delay := 0, phaseStart := 0, validTurns := 0, searchIso := none, frozenRun := 0,
    frozen := false, zeroRep := false, powers := [], energies := [], satRun := 0, restore := false, diverged := false,
    sinceRestore := none, indicator := false, ckptTaps := [], ckptDelay := 0, reprobe := none, first := false,
    snap := (0, 0, false), startBit := false, wasValid := false, lfsr := 0, misalign := [], eccFrozen := false, ckptDue := 0 }
def State.gg (s : State) (sl : Nat) : GgSlot := sparseGet ggNone s.gouge.slots sl
def State.setGouge (s : State) (g : Gouge) : State := { s with gouge := g }
def State.setGg (s : State) (sl : Nat) (x : GgSlot) : State :=
  s.setGouge { s.gouge with slots := sparseSet ggNone s.gouge.slots sl x }
def State.nTaps (s : State) (sl : Nat) : Nat := 32 * s.act (F.GOUGE_SLOT_ALLOC_TAPS sl)
/-- The slot has a Gouge allocation (R84). -/
def State.hasLane (s : State) (sl : Nat) : Bool := s.slotOn sl && s.nTaps sl != 0
def State.phase (s : State) (sl : Nat) : Nat := s.get (F.GOUGE_SLOT_STATUS_PHASE sl)

/-- A state of the 23-bit probe generator after one more sample. -/
def probeStep (l : Nat) : Nat := Config.probeNext l % 2 ^ 23
/-- Its seed: from the slot index and the Turn at which the phase begins (R90). -/
def probeStart (sl : Nat) (t : TurnNo) : Nat := Config.probeSeed sl t.toNat % 2 ^ 23
/-- The probe sample of a state: its level and its band are the Plan's. -/
def State.probeAt (s : State) (sl l : Nat) : Int × Int :=
  Config.probeSample (s.act (F.GOUGE_SLOT_PROBE_PROBE_LEVEL sl)) (s.act (F.CHZ_SLOT_BW_BW sl)) (s.act (F.CHZ_SLOT_CFG_RATE sl)) l

/-! ### The samples of a slot over a Turn (R65, R70, R72, R82, R95) -/

/-- The samples of this Turn of a slot decimated by `d`: the first, and how many; a sample stands at every multiple of `d` converter
samples since reset (log entry 60). -/
def State.sampleGrid (s : State) (d : Nat) : Nat × Nat :=
  let a := (49152 * s.ticks + d - 1) / d
  (a, (49152 * (s.ticks + 1) + d - 1) / d - a)

def Samp.refOf (z : Samp) : Int × Int := if z.refBad then (0, 0) else z.ref
/-- The residual of an input, in units of 2^-38, with the reference samples at lag DELAY and after (R82). -/
def residual (taps : List (Int × Int)) (lags : List Samp) (d : Int × Int) : Int × Int :=
  cSub (524288 * d.1, 524288 * d.2) (cDot taps ((lags.take taps.length).map Samp.refOf))

/-- What a path is made from in a Turn: the saturated cycles of the combiners that the slot feeds, and the Turn's samples to come, with
their numbers. -/
def State.pathStep (s : State) (sl d : Nat) (sat : List Nat) (p : Path × Nat) (e : Nat × (Int × Int) × (Int × Int)) : Path × Nat :=
  let x := e.1 * d
  let t := x / 16
  let a := (x - d) / 16
  let start := 3072 * s.ticks
  let first := x < 16 * start + d
  let mute := s.mutedAt sl t
  let off := (s.combsOf sl).any (fun k => s.combSilent k || (s.dacMuted k &&
    (match s.cva.muteAt.find? (fun m => m.1 == k) with | some m => m.2 ≤ t | none => true)))
  let satIn (a : Nat) : Bool := sat.any (fun fc => a < start + fc + 1 && start + fc ≤ t)
  let gate := s.gateAt sl t
  let probing := s.hasLane sl && (s.phase sl == 1 || s.phase sl == 2)
  let y := if mute then (0, 0) else e.2.2
  let l := if probing then probeStep p.2 else p.2
  let ref := if probing && !mute && gate then cAdd y (s.probeAt sl p.2) else y
  let g := s.gg sl
  let taps := if s.hasLane sl && !s.blockHeld .gouge then g.taps else []
  let z : Samp := ⟨e.2.1, (0, 0), ref, y, s.markedAt sl x false, s.markedAt sl x true, s.gateOver sl a t, s.gateNear sl t,
    mute || (first && p.1.endMute), off || (first && p.1.endDac) || satIn (a + 1), gate, mute, off || satIn t, false⟩
  let hist := z :: p.1.hist
  let z := { z with resid := residual taps (hist.drop g.delay) e.2.1 }
  ({ p.1 with hist := z :: p.1.hist }, l)

def pathNone : Path := ⟨[], 0, false, false, false⟩
def State.path (s : State) (sl : Nat) : Path := sparseGet pathNone s.fab.paths sl
/-- The samples of the last completed Turn, newest first. -/
def State.lastSamples (s : State) (sl : Nat) : List Samp := (s.path sl).hist.take (s.path sl).count

/-- The cycles of this Turn whose source word marks the slot, and those of them with OVR: words of its ADC (R72). -/
def State.sourceMarks (s : State) (st : Stream) (sl : Nat) : State :=
  let n := s.srcAdc sl
  let start := 3072 * s.ticks
  -- a stream that is dirty stays so to the end of the Turn; one that was, and is over, ended at a known time
  let s := match (List.range 3072).find? (fun fc => s.adcDirty n (start + fc)) with
    | some fc =>
      if s.adcDirty n (start + 3071) then s.markSlot sl (16 * (start + fc)) (16 * (start + 3072) + s.spanLen sl) false else s
    | none => s
  s.each (s.ovrCycles st n) (fun s fc => s.markWord sl (start + fc) true)

/-- The samples of a slot over the Turn that ends: what the stream lists, and zeros after it. -/
def State.runPath (s : State) (st : Stream) (sl : Nat) : State :=
  let d := s.slotDecim sl
  let (a, n) := s.sampleGrid d
  let m : SlotMeas := (st.slots.find? (fun m => m.slot == sl)).getD ⟨sl, [], []⟩
  let z : List (Int × Int) := List.replicate n (0, 0)
  let ins := ((m.input ++ z).take n).zip ((m.output ++ z).take n)
  let sat := (s.combsOf sl).flatMap (s.satCycles st)
  let p := s.path sl
  let (p, l) := (ins.zipIdx.map (fun e => (a + e.2, e.1))).foldl (s.pathStep sl d sat) (p, (s.gg sl).lfsr)
  let ovr := !(s.ovrCycles st (s.srcAdc sl)).isEmpty
  let p : Path := ⟨p.hist.take 13271, n, ovr, s.slotMuted sl, (s.combsOf sl).any (fun k => s.dacMuted k || s.combSilent k)⟩
  (s.setFab { s.fab with paths := sparseInsert s.fab.paths sl p }).setGg sl { s.gg sl with lfsr := l }

/-- The fabric over the Turn that ends, from what flowed in it; a new Turn's marks, mutes and bad words start afresh. -/
def State.runPaths (s : State) (st : Stream) : State :=
  let s := s.each s.slotsOn (State.sourceMarks · st ·)
  let s := s.each s.slotsOn (State.runPath · st ·)
  s.each (dacsOf s.variant) (fun s k => s.bump (F.CHZ_COMB_SAT_SAT_WORDS k) (s.satCycles st k).length)

/-- What the next Turn starts with: marks that are not yet over. -/
def State.newTurnPaths (s : State) : State :=
  s.setFab { s.fab with marks := s.fab.marks.filter (fun m => 16 * s.now < m.2.2.1), muteAt := [], badWords := [] }

/-! ### Levels (R70) -/

/-- The fc 0 snapshot of a slot's level detector. -/
def State.levelSlot (s : State) (sl : Nat) : State :=
  let off (s : State) : State :=
    ((((s.puti (F.CHZ_SLOT_LEVEL_IN_LEVEL sl) (-32768)).puti (F.CHZ_SLOT_LEVEL_OUT_LEVEL sl) (-32768)).puti
      (F.CHZ_SLOT_PEAK_OUT_PEAK sl) (-32768)).put (F.CHZ_SLOT_PEAK_SAMPLES sl) 0).putB (F.CHZ_SLOT_STATUS_DIRTY sl) false
  if !s.slotOn sl then off s
  else
    let l := s.lastSamples sl
    let peak := (l.map (fun z => cPow z.out)).foldl max 0
    (((s.puti (F.CHZ_SLOT_LEVEL_IN_LEVEL sl) (levelOf (powSum (l.map (·.resid))) (l.length * 2 ^ 76))).puti
      (F.CHZ_SLOT_LEVEL_OUT_LEVEL sl) (levelOf (powSum (l.map (·.out))) (l.length * 2 ^ 38))).puti
      (F.CHZ_SLOT_PEAK_OUT_PEAK sl) (levelOf peak (2 ^ 38))).put (F.CHZ_SLOT_PEAK_SAMPLES sl) l.length
      |>.putB (F.CHZ_SLOT_STATUS_DIRTY sl) (l.any (·.dirty))

def State.levelsBoundary (s : State) : State := s.each (slotsOf s.variant) State.levelSlot

end Sys2Proof.Machine
end

