-- ==== Sys2Proof/Machine/Gouge.lean ====
section
/-! DEFINITION. The Gouge (spec/04): lanes and their phases, the adaptation step, freezes, the record passed to the Guard,
divergence, checkpoints and restore, memory errors and lane migration, host controls and snapshots. -/
namespace Sys2Proof.Machine

/-! ### Arithmetic (R93, R94, R99, R100) -/

/-- Σ|h|², in units of 2^-38. -/
def tapEnergy (h : List (Int × Int)) : Nat := powSum h
/-- The energy of the first 32 and the last 32 taps (R100). -/
def edgeEnergy (h : List (Int × Int)) : Nat :=
  if h.length ≤ 64 then tapEnergy h else tapEnergy (h.take 32) + tapEnergy (h.drop (h.length - 32))

/-- A quotient, rounded up or down as the spec leaves open. -/
def openDiv (num : Int) (den : Nat) (up : Bool) : Int :=
  if den = 0 then 0 else num / den + (if up && num % den != 0 then 1 else 0)
def tapMin : Int := -524288
def tapMax : Int := 524287

/-- One tap of R93, before it is held in 20 bits: h + mu × g / (Pbar + delta), with mu = MU / 2^16, delta = N × 2^-40, and the sums over
the `mv` valid samples: `power` of |x|² over the window in units of 2^-38, `g` of e × conj x in units of 2^-57. -/
def tapExact (mu n mv power : Nat) (up : Bool) (h g : Int) : Int :=
  h + openDiv ((mu : Int) * g) (2 ^ 14 * (4 * power + mv * n)) up
/-- The tap, saturated (R94). -/
def tapStep (mu n mv power : Nat) (up : Bool) (h g : Int) : Int := clampInt tapMin tapMax (tapExact mu n mv power up h g)
/-- The step saturates the tap. -/
def tapOver (mu n mv power : Nat) (up : Bool) (h g : Int) : Bool :=
  let v := tapExact mu n mv power up h g
  decide (v < tapMin) || decide (tapMax < v)

/-- A ratio of energies in 0.1 dB as ESTIMATE shows it, saturating at 999 and at 0; of nothing to nothing the spec gives no value (log entry
1). -/
def estimate (num den : Nat) : Nat :=
  if den = 0 then (if num = 0 then Config.openRatio num % 1000 else 999)
  else if num = 0 then 0
  else (clampInt 0 999 (ratioDb 100 num den)).toNat

/-- The sum of vectors. -/
def addAll (n : Nat) (l : List (List (Int × Int))) : List (Int × Int) :=
  l.foldl (fun a v => (a.zip v).map (fun e => cAdd e.1 e.2)) (List.replicate n (0, 0))

/-- Σ|Δh|² of the mean of these misalignments, as a numerator and a denominator in units of 2^-38 (R100). -/
def misEnergy (n : Nat) (l : List (List (Int × Int) × Nat)) : Nat × Nat :=
  let den := l.foldl (fun a e => a * e.2) 1
  let v := addAll n (l.map (fun e => e.1.map (fun z => (z.1 * ((den / e.2 : Nat) : Int), z.2 * ((den / e.2 : Nat) : Int)))))
  (powSum v, (den * l.length) ^ 2)

/-! ### Invalid samples (R95) -/

/-- The causes that make a slot sample invalid. -/
structure Causes where
  dirty : Bool
  seq : Bool
  mute : Bool
  dac : Bool
deriving DecidableEq, Repr
def Causes.valid (c : Causes) : Bool := !(c.dirty || c.seq || c.mute || c.dac)

/-- Longer than any run that matters. -/
def farRun : Nat := 100000
/-- For each sample, how many in a row from it back have `p`; what lies before the history has. -/
def runsOf (p : Samp → Bool) : List Samp → List Nat
  | [] => []
  | z :: l => let r := runsOf p l; (if p z then r.headD farRun + 1 else 0) :: r

/-- The causes at the newest `count` samples, for a window of `n` lags from `delay`; `search` holds while a tuner search freezes the slot
(R165). -/
def causesIn (delay n count : Nat) (search : Bool) (l : List Samp) : List Causes :=
  let w := delay + n - 1
  let clean := (runsOf (fun z => !(z.dirty || z.refBad)) l).drop delay
  let tx := runsOf (·.tx) l
  let sound := runsOf (fun z => !z.mute) l
  let linear := runsOf (fun z => !z.dac) l
  (l.take count).zipIdx.map (fun e =>
    let old := l.drop (e.2 + w)
    ⟨e.1.dirty || decide (clean.getD e.2 farRun < n),
     search || e.1.near || decide (tx.getD e.2 farRun < w) || (old.take 1).any (fun z => !z.gate),
     decide (sound.getD e.2 farRun < w) || (old.take 1).any (·.muted),
     decide (linear.getD e.2 farRun < w) || (old.take 1).any (·.dacOff)⟩)

/-- A tuner search of a port that the slot feeds runs, or ran in the last Turn. -/
def State.searchFreezes (s : State) (sl : Nat) : Bool :=
  (s.combsOf sl).any (fun k => match combPort s.variant k with
    | some p => s.seq.mms.any (fun m => m.2.search.any (fun q => q.port == p)) || s.seq.attn.contains p || s.seq.searched.contains p
    | none => false)
/-- The causes at the samples of the last Turn, newest first. -/
def State.causesOf (s : State) (sl : Nat) : List Causes :=
  causesIn (s.gg sl).delay (s.nTaps sl) (s.path sl).count (s.searchFreezes sl) (s.path sl).hist
/-- The valid ones, with the reference samples in the window of each. -/
def State.validSamples (s : State) (sl : Nat) : List (Samp × List (Int × Int)) :=
  let l := (s.path sl).hist
  let n := s.nTaps sl
  (((l.zip (s.causesOf sl)).zipIdx).filter (fun e => e.1.2.valid)).map (fun e =>
    (e.1.1, (((l.drop (e.2 + (s.gg sl).delay)).map Samp.ref) ++ List.replicate n (0, 0)).take n))

/-! ### Lanes -/

def State.setPhase (s : State) (sl p : Nat) : State := s.put (F.GOUGE_SLOT_STATUS_PHASE sl) p
def State.laneMoving (s : State) (sl : Nat) : Bool := s.gouge.migs.any (fun m => m.slot == sl)
/-- PHASE as the register shows it: REPAIR during a lane migration, NO_LANE without a spare (Table 4.18). -/
def State.shownPhase (s : State) (sl : Nat) : Nat :=
  if s.gouge.noSpare.contains sl then 5 else if s.laneMoving sl then 4 else s.phase sl

def zeroTaps (n : Nat) : List (Int × Int) := List.replicate n (0, 0)

/-- The tap-based isolation in 0.1 dB, for taps that are not all zero (R99). -/
def tapIso (h : List (Int × Int)) : Option Nat :=
  let e := tapEnergy h
  if e = 0 then none else some (clampInt 0 1500 (ratioDb 100 (2 ^ 38) e)).toNat

/-- The isolation and VALID that R99 gives for a lane with taps `h`, before the limit on its rise; VALID stays 1 until the lane next starts
(R101). -/
def State.isoNow (s : State) (sl : Nat) (h : List (Int × Int)) : Nat × Bool :=
  let x := s.gg sl
  let preset := s.act (F.GOUGE_SLOT_LIMITS_ISO_PRESET sl)
  let t := tapIso h
  if !s.hasLane sl then (preset, false)
  else if s.phase sl = 3 then (t.getD (Config.openIso s.free % 1501), true)
  else if s.phase sl = 1 then (preset, x.wasValid)
  else match x.searchIso with
    | some i => ((match t with | some j => min i j | none => i), true)
    | none =>
      if x.startBit then (match t with | some j => (j, true) | none => (preset, x.wasValid))
      else ((match t with | some j => min preset j | none => preset), x.wasValid)

/-- Stage a record: ISO rises by at most 0.5 dB above that of the Turn before, but for the first record of a newly enabled slot (R99). -/
def State.report (s : State) (sl c : Nat) (h : List (Int × Int)) : State :=
  let (iso, v) := s.isoNow sl h
  let x := s.gg sl
  let iso := if x.first then iso else min iso (x.snap.1 + 5)
  let s := (s.put (F.GOUGE_SLOT_REPORT_ISO sl) iso).put (F.GOUGE_SLOT_REPORT_C_REP sl) c
  (s.putB (F.GOUGE_SLOT_STATUS_VALID sl) v).setGg sl { x with first := false, wasValid := v }

/-- A newly enabled slot's first record stands in the snapshot at once. -/
def State.firstRecord (s : State) (sl : Nat) (first : Bool) : State :=
  if first then
    s.setGg sl { s.gg sl with snap := (s.get (F.GOUGE_SLOT_REPORT_ISO sl), 0, s.flag (F.GOUGE_SLOT_STATUS_VALID sl)) }
  else s

/-- Start a slot's lane with these taps and delay (R88): the probe phase begins, with a delay search where R89 calls for
one; the checkpoint becomes invalid. The G_OSC cap ends unless the Guard itself asked (R119). START is read here and not again. -/
def State.startLane (s : State) (sl : Nat) (taps : List (Int × Int)) (delay : Nat) (guard first : Bool) : State :=
  let start := s.actB (F.GOUGE_SLOT_ALLOC_START sl)
  let search := s.actB (F.GOUGE_SLOT_ALLOC_DELAY_AUTO sl) && !start
  let x : GgSlot := { ggNone with taps := taps, delay := if search then 0 else delay, phaseStart := s.turn, startBit := start,
                                  lfsr := probeStart sl s.turn, first := first, snap := (s.gg sl).snap, frozen := (s.gg sl).frozen }
  let s := (s.setGg sl x).setPhase sl (if search then 1 else 2)
  let s := (s.put (F.GOUGE_SLOT_STATUS_PROBE_FAILS sl) 0).putB (F.GOUGE_SLOT_STATUS_PROBE_FAILED sl) false
  let s := (s.putB (F.GOUGE_SLOT_CKPT_CKPT_VALID sl) false).putB (F.GOUGE_SLOT_STATUS_SPAN_SHORT sl) false
  let s := if guard then s else s.putB (F.GRD_SLOT_STATUS_OSC_CAP sl) false
  (s.report sl 0 taps).firstRecord sl first

/-- The slot's start-coefficient record, with START = 1. -/
def State.startRecord (s : State) (sl : Nat) : Option CoefRec :=
  if s.actB (F.GOUGE_SLOT_ALLOC_START sl) then s.active.coefs.find? (fun c => c.slot == sl) else none
/-- The delay of the Plan: that of the record with START = 1. -/
def State.planDelay (s : State) (sl : Nat) : Nat := match s.startRecord sl with
  | some c => c.delay
  | none => s.act (F.GOUGE_SLOT_ALLOC_DELAY sl)

def State.startZero (s : State) (sl : Nat) : State := s.startLane sl (zeroTaps (s.nTaps sl)) (s.planDelay sl) false false

/-- A slot without a lane: OFF, with the record of R84; what was last reported still bounds the rise of ISO. -/
def State.noLane (s : State) (sl : Nat) (first : Bool) : State :=
  let s := (s.setGg sl { ggNone with first := first, snap := (s.gg sl).snap }).setPhase sl 0
  (s.report sl 0 []).firstRecord sl first

/-- Start a lane with the start values of the Active Plan: its start-coefficient record with START = 1, zero taps otherwise
(R88). A slot with no allocation has no lane (R84). -/
def State.startFromPlan (s : State) (sl : Nat) (first : Bool) : State :=
  if !s.hasLane sl then s.noLane sl first
  else match s.startRecord sl with
    | some c => s.startLane sl c.coefs c.delay false first
    | none => s.startLane sl (zeroTaps (s.nTaps sl)) (s.planDelay sl) false first

/-- A disabled slot's taps are discarded (R186). -/
def State.stopLane (s : State) (sl : Nat) : State :=
  let s := (s.setGg sl { ggNone with snap := (s.gg sl).snap }).setPhase sl 0
  (s.put (F.GOUGE_SLOT_REPORT_C_REP sl) 0).putB (F.GOUGE_SLOT_STATUS_VALID sl) false

/-! ### Freezes at a boundary (R95 to R98) -/

/-- Decide whether the Turn just ended was frozen for a slot, show the causes, and count it. A Turn frozen by a divergence, or by an error of
the accumulators, counts as frozen though the step of this Turn runs (R104, R107). -/
def State.freezeSlot (s : State) (sl : Nat) : State :=
  let x := s.gg sl
  let cs := s.causesOf sl
  let vs := s.validSamples sl
  let mv := vs.length
  let few := decide (2 * mv < cs.length)
  let lowRef := mv != 0 && decide (powSum (vs.map (·.1.ref)) * 10 ^ 7 < mv * 2 ^ 38)
  let host := s.gouge.hostFreeze.contains sl
  let frozen := few || lowRef || host
  let counts := frozen || x.diverged || x.eccFrozen
  let s := (s.putB (F.GOUGE_SLOT_STATUS_F_DIRTY sl) (few && cs.any (·.dirty))).putB (F.GOUGE_SLOT_STATUS_F_SEQ sl) (few && cs.any (·.seq))
  let s := (s.putB (F.GOUGE_SLOT_STATUS_F_MUTE sl) (few && cs.any (·.mute))).putB (F.GOUGE_SLOT_STATUS_F_DAC sl) (few && cs.any (·.dac))
  let s := (s.putB (F.GOUGE_SLOT_STATUS_F_LOW_REF sl) lowRef).putB (F.GOUGE_SLOT_STATUS_F_HOST sl) host
  let s := (s.putB (F.GOUGE_SLOT_STATUS_F_DIVERGED sl) x.diverged).putB (F.GOUGE_SLOT_STATUS_FROZEN sl) counts
  let x := { x with frozen := frozen, eccFrozen := false }
  if counts then s.setGg sl { x with frozenRun := x.frozenRun + 1, zeroRep := false }
  else
    let stale := s.phase sl == 3 && decide (256 * s.act F.GOUGE_CFG_STALE_TURNS < x.frozenRun)
    s.setGg sl { x with frozenRun := 0, zeroRep := stale, validTurns := x.validTurns + 1,
                        sinceRestore := x.sinceRestore.map (fun n => min 4096 (n + 1)) }

/-- Restores, REPROBEs and staged taps take effect at a boundary (R93, R104, R105, R107, R110). Where a REPROBE meets a restore the spec gives
no order: the restore goes first, and the REPROBE acts one boundary later, or not at all where the restore starts the lane afresh (DESIGN
CHOICE, log entry 61). -/
def State.applyLane (s : State) (sl : Nat) : State :=
  let x := s.gg sl
  if x.restore then
    let again := x.diverged && (match x.sinceRestore with | some n => decide (n < 4096) | none => false)
    if again || !s.flag (F.GOUGE_SLOT_CKPT_CKPT_VALID sl) then s.startZero sl
    else
      s.setGg sl { x with taps := x.ckptTaps, delay := x.ckptDelay, staged := none, restore := false, diverged := false,
                          sinceRestore := if x.diverged then some 0 else x.sinceRestore, powers := [],
                          energies := [], satRun := 0 }
  else match x.reprobe with
    | some (zero, guard) =>
      if s.laneMoving sl then s.setGg sl { x with reprobe := none }
      else
        let h := if zero then zeroTaps (s.nTaps sl) else x.staged.getD x.taps
        s.startLane sl h (if zero then s.planDelay sl else x.delay) guard false
    | none => match x.staged with
      | some h => s.setGg sl { x with taps := h, staged := none }
      | none => s

/-- The Gouge at a boundary: counting, the snapshot of the records, then what takes effect; the record of a slot without a lane is staged
anew (R84). -/
def State.gougeBoundary (s : State) : State :=
  let s := s.each (s.slotsOn.filter s.hasLane) State.freezeSlot
  let s := s.each s.slotsOn (fun s sl =>
    s.setGg sl { s.gg sl with snap := (s.get (F.GOUGE_SLOT_REPORT_ISO sl), s.get (F.GOUGE_SLOT_REPORT_C_REP sl),
                                       s.flag (F.GOUGE_SLOT_STATUS_VALID sl)) })
  let s := s.each (s.slotsOn.filter s.hasLane) State.applyLane
  let s := s.each (s.slotsOn.filter (fun sl => !s.hasLane sl)) (fun s sl => s.report sl 0 [])
  s.setGouge { s.gouge with hostFreeze := (slotsOf s.variant).filter (fun sl => s.flag (F.GOUGE_SLOT_CTRL_FREEZE sl)) }

/-- Restarts that waited for a lane migration to end (R108). -/
def State.lateRestarts (s : State) : State :=
  let l := s.gouge.restarts
  let s := s.setGouge { s.gouge with restarts := [] }
  s.each l (fun s r =>
    let s := if r.2.1 then s.startFill r.1 else s
    if r.2.2.1 then s.startFromPlan r.1 r.2.2.2 else s)

/-! ### The adaptation step (R93 to R104) -/

/-- Powers compared in dB: a exceeds b by more than d dB. -/
def exceedsDb (a b d : Nat) : Bool := decide (b ^ 10 * 10 ^ d < a ^ 10)

/-- The indicators of R102 over the last valid Turns. -/
def diverges (powers : List (Nat × Nat)) (energies : List Nat) (satRun thresh : Nat) : Bool :=
  let r := powers.foldl (fun a p => a + p.1) 0
  let i := powers.foldl (fun a p => a + p.2) 0
  exceedsDb r i thresh ||
  (match energies with
    | e :: rest => rest.any (fun o => exceedsDb e o 6)
    | [] => false) ||
  4 ≤ satRun

/-- The record of a lane in an unfrozen Turn (R101): C_REP falls at once and rises by at most 0.5 dB. Where C_EDGE ties with another term
for the smallest the spec does not say what SPAN_SHORT shows: it is 0 (DESIGN CHOICE, log entry 61). -/
def State.stageRecord (s : State) (sl : Nat) (h : List (Int × Int)) : State :=
  let x := s.gg sl
  if s.phase sl ≠ 3 ∨ x.zeroRep then (s.putB (F.GOUGE_SLOT_STATUS_SPAN_SHORT sl) false).report sl 0 h
  else
    let edge := s.get (F.GOUGE_SLOT_ESTIMATE_C_EDGE sl)
    let others := min (s.get (F.GOUGE_SLOT_ESTIMATE_C_EST sl))
      (min (s.get (F.GOUGE_SLOT_REPORT_C_REP sl) + 5) (s.act (F.GOUGE_SLOT_LIMITS_CANCEL_CAP sl)))
    (s.putB (F.GOUGE_SLOT_STATUS_SPAN_SHORT sl) (edge < others)).report sl (min others edge) h

/-- One slot's adaptation step, on the samples of the Turn just ended. In a divergence the Turn is frozen: the new taps and estimates are
dropped, and C_REP is 0 (R97, R104). The estimate is of the taps as updated, and C_EDGE of taps that are all zero has no value the spec
gives (log entries 1, 61). -/
def State.adapt (s : State) (sl : Nat) : State :=
  let x := s.gg sl
  let vs := s.validSamples sl
  if !s.hasLane sl || s.laneMoving sl || s.spareless sl || x.frozen || s.gouge.hostFreeze.contains sl then s
  else if s.phase sl = 1 then s.stageRecord sl x.taps
  else if vs.isEmpty then s
  else
    let n := s.nTaps sl
    let mu := s.act (if s.phase sl = 3 then F.GOUGE_SLOT_ADAPT_MU sl else F.GOUGE_SLOT_ADAPT_MU_PROBE sl)
    let mv := vs.length
    let power := vs.foldl (fun a v => a + powSum v.2) 0
    let g := addAll n (vs.map (fun v => v.2.map (fun r => cMul v.1.resid (cConj r))))
    let up (k : Nat) : Bool := Config.roundUp (s.free + k + 1)
    let idx := (x.taps.zip g).zipIdx
    let h := idx.map (fun e => (tapStep mu n mv power (up (2 * e.2)) e.1.1.1 e.1.2.1,
      tapStep mu n mv power (up (2 * e.2 + 1)) e.1.1.2 e.1.2.2))
    let sat := idx.any (fun e => tapOver mu n mv power (up (2 * e.2)) e.1.1.1 e.1.2.1 ||
      tapOver mu n mv power (up (2 * e.2 + 1)) e.1.1.2 e.1.2.2)
    let mis := ((g.map (fun z => ((n : Int) * z.1, (n : Int) * z.2)), mv * power) :: x.misalign).take
      (2 ^ s.act (F.GOUGE_SLOT_LIMITS_CANCEL_AVG sl))
    let e := tapEnergy h
    let m := misEnergy n mis
    let track := s.phase sl == 3
    let powers := if track then ((powSum (vs.map (·.1.resid)), 2 ^ 38 * powSum (vs.map (·.1.input))) :: x.powers).take 16 else []
    let energies := if track then (e :: x.energies).take 64 else []
    let satRun := if sat then x.satRun + 1 else 0
    let s := { s with free := s.free + 2 * n + 2 }
    let x := { x with powers := powers, energies := energies, satRun := satRun }
    if track && diverges powers energies satRun (s.act F.GOUGE_CFG_DIV_THRESH) then
      let s := (s.raise 9).bump (F.GOUGE_SLOT_CKPT_DIV_COUNT sl) 1
      let s := (s.putB (F.GOUGE_SLOT_STATUS_SPAN_SHORT sl) false).put (F.GOUGE_SLOT_REPORT_C_REP sl) 0
      s.setGg sl { x with diverged := true, restore := true, indicator := true, staged := none }
    else
      let s := s.put (F.GOUGE_SLOT_ESTIMATE_C_EST sl) (if m.2 = 0 then Config.openRatio s.free % 1000 else estimate (e * m.2) m.1)
      let s := s.put (F.GOUGE_SLOT_ESTIMATE_C_EDGE sl) (estimate e (edgeEnergy h))
      (s.setGg sl { x with staged := some h, misalign := mis }).stageRecord sl h

/-- GOUGE_ADAPTATION_STEP: the steps of these slots complete at `fc`, by the deadline; each slot's runs once in a Turn, and not after it has
overrun (R23, R93). -/
def execGougeAdaptationStep (fc : Nat) (l : List Nat) (s : State) : Host.Outcome State Fault Refusal :=
  let s := s.at fc
  let late := s.fc > 2047 || bit s.overran 1 || !s.running || s.blockHeld .gouge
  okIf (l.all (slotIn s.variant)) (if late then s else s.each l (fun s sl => s.once 1 sl State.adapt))

/-! ### Probe phase (R89 to R92) -/

/-- The lane enters TRACK: VALID is 1 and the G_OSC cap ends (R101, R119). -/
def State.enterTrack (s : State) (sl : Nat) : State :=
  let x := s.gg sl
  let x := { x with validTurns := 0, ckptDue := 0, indicator := false, wasValid := true }
  let s := ((s.setGg sl x).setPhase sl 3).putB (F.GOUGE_SLOT_STATUS_VALID sl) true
  s.putB (F.GRD_SLOT_STATUS_OSC_CAP sl) false

/-- A probe phase has failed: it repeats from zero, or on the third failure the lane enters TRACK (R92). -/
def State.probeFailed (s : State) (sl : Nat) : State :=
  let n := s.get (F.GOUGE_SLOT_STATUS_PROBE_FAILS sl) + 1
  let s := s.put (F.GOUGE_SLOT_STATUS_PROBE_FAILS sl) (min 3 n)
  if 3 ≤ n then
    ((s.putB (F.GOUGE_SLOT_STATUS_PROBE_FAILED sl) true).emit 0x70 3 6 (leBytes sl 1)).enterTrack sl
  else
    let x := s.gg sl
    let search := s.actB (F.GOUGE_SLOT_ALLOC_DELAY_AUTO sl) && !x.startBit
    let s := s.setGg sl { x with taps := zeroTaps (s.nTaps sl), staged := none, validTurns := 0, phaseStart := s.turn,
                                 lfsr := probeStart sl s.turn, searchIso := none, delay := if search then 0 else x.delay }
    s.setPhase sl (if search then 1 else 2)

/-- DELAY_SEARCH_END: after 64 valid Turns the strongest peak, at `lag`, `peak` tenths of a dB above the mean, gives the
delay and the isolation `iso`, or the search has failed (R91). -/
def execDelaySearchEnd (fc sl lag peak iso : Nat) (s : State) : Host.Outcome State Fault Refusal :=
  let s := s.at fc
  let x := s.gg sl
  let s' := if s.phase sl ≠ 1 ∨ x.validTurns < 64 then s
    else if peak < 120 then s.probeFailed sl
    else
      let d := lag - 32 * s.act (F.GOUGE_SLOT_ALLOC_PRE_TAPS sl)
      let s := (s.setGg sl { x with delay := d, searchIso := some (min 1500 iso), wasValid := true }).setPhase sl 2
      s.putB (F.GOUGE_SLOT_STATUS_VALID sl) true
  okIf (slotIn s.variant sl && lag < 8192) s'

/-- PROBE_PHASE_END: PROBE_TURNS valid Turns have passed (R89, R92). -/
def execProbePhaseEnd (fc sl : Nat) (s : State) : Host.Outcome State Fault Refusal :=
  let s := s.at fc
  let s' := if s.phase sl ≠ 2 ∨ (s.gg sl).validTurns < s.act (F.GOUGE_SLOT_PROBE_PROBE_TURNS sl) then s
    else if 10 * s.act F.GOUGE_CFG_PROBE_MIN ≤ s.get (F.GOUGE_SLOT_ESTIMATE_C_EST sl) then s.enterTrack sl
    else s.probeFailed sl
  okIf (slotIn s.variant sl) s'

/-- Valid Turns between checkpoints (R103). -/
def State.ckptTurns (s : State) : Nat := 64 * s.act F.GOUGE_CFG_CKPT_TURNS
/-- CHECKPOINT: CKPT_TURNS valid Turns have passed since one last fell due; the taps are copied unless an indicator has fired since the last
checkpoint or C_EST has fallen by more than 3 dB (R103). One due in a snapshot's copy Turn waits (R111), and shifts none after it. -/
def execCheckpoint (fc sl : Nat) (s : State) : Host.Outcome State Fault Refusal :=
  let s := s.at fc
  let x := s.gg sl
  let copying := s.gouge.copyAt == some s.turn || s.gouge.snap.any (fun q => laterThan s.turn q.2.2.2)
  let c := s.get (F.GOUGE_SLOT_ESTIMATE_C_EST sl)
  let worse := s.flag (F.GOUGE_SLOT_CKPT_CKPT_VALID sl) && decide (c + 30 < s.get (F.GOUGE_SLOT_CKPT_CKPT_C sl))
  let age := x.validTurns - x.ckptDue
  let due := x.validTurns - age % s.ckptTurns
  let s' := if s.phase sl ≠ 3 ∨ age < s.ckptTurns ∨ copying ∨ s.fc < 2048 then s
    else if x.indicator || worse then s.setGg sl { x with ckptDue := due }
    else
      let s := s.setGg sl { x with ckptDue := due, indicator := false, ckptTaps := x.taps, ckptDelay := x.delay }
      (s.putB (F.GOUGE_SLOT_CKPT_CKPT_VALID sl) true).put (F.GOUGE_SLOT_CKPT_CKPT_C sl) c
  okIf (slotIn s.variant sl) s'

/-! ### Memory errors and lanes (R106 to R109) -/

/-- A lane fails: it is retired, its slot is muted with cause REPAIR and migrates, and the step of this Turn is
discarded (R108); without a spare the cause is NO_SPARE from the next boundary. The lane of a slot that is not enabled migrates too: the spec
speaks of slots and does not say (DESIGN CHOICE, log entry 58). -/
def State.laneFail (s : State) (lane : Nat) : State :=
  if s.laneRetired lane then s
  else
    let s := (s.putBit (F.GOUGE_LANE_RETIRED_RETIRED (lane / 32)) (lane % 32) true).raise 10
    let slot := match s.gouge.migs.find? (fun m => m.spare == some lane) with
      | some m => some m.slot
      | none => (slotsOf s.variant).find? (fun sl => s.laneOf sl == lane)
    let s : State := match slot with
      | none => s
      | some sl =>
        -- C_REP continues from its value in the Turn before (Table 4.3)
        let s := (s.setGg sl { s.gg sl with staged := none }).put (F.GOUGE_SLOT_REPORT_C_REP sl) (s.gg sl).snap.2.1
        let old := s.gouge.migs.find? (fun m => m.slot == sl)
        let rest := s.gouge.migs.filter (fun m => m.slot != sl)
        if s.freeLanes.isEmpty then
          (s.setGouge { s.gouge with migs := rest, noSpare := s.gouge.noSpare ++ [sl] }).muteNow (F.CHZ_SLOT_STATUS_M_REPAIR sl) sl
        else
          let m : LaneMig := ⟨sl, s.turn, none, old.any (·.tile), old.any (·.lane), old.any (·.first)⟩
          (s.setGouge { s.gouge with migs := rest ++ [m] }).muteNow (F.CHZ_SLOT_STATUS_M_REPAIR sl) sl
    (s.live 10 (!s.gouge.migs.isEmpty)).syncSpares

/-- LANE_FAIL: a lane's duplicated control logic disagrees. -/
def execLaneFail (fc lane : Nat) (s : State) : Host.Outcome State Fault Refusal :=
  let s := s.at fc
  okIf (lane < nTileOf s.variant) (s.awake (s.laneFail lane))

/-- Word `w` of a slot's reference history, counted back from the newest: its 4 samples count as dirty, and as zero in the subtraction
(R107). -/
def State.refWordBad (s : State) (sl w : Nat) : State :=
  let p := s.path sl
  let h := p.hist.zipIdx.map (fun e => if e.2 / 4 = w then { e.1 with refBad := true } else e.1)
  s.setFab { s.fab with paths := sparseInsert s.fab.paths sl { p with hist := h } }

/-- GOUGE_TAP_ECC: an error in the taps (`kind` 0), the checkpoint (1) or a word of the reference history (2) of a slot, or in the
accumulators (3) of a lane (R106, R107). The step of a Turn frozen by the accumulators is dropped, its record staged unchanged. -/
def execGougeTapEcc (fc kind : Nat) (at_ : GougeWord) (single : Bool) (s : State) : Host.Outcome State Fault Refusal :=
  let s := s.at fc
  let s' := if single then (s.bump F.GOUGE_ECC_COUNT_CORRECTED 1).raise 10
    else
      let s := (s.bump F.GOUGE_ECC_COUNT_UNCORRECTED 1).raise 10
      match kind with
      | 0 =>
        if !s.hasLane at_.unit then s
        else (s.setGg at_.unit { s.gg at_.unit with restore := true, zeroRep := true }).put (F.GOUGE_SLOT_REPORT_C_REP at_.unit) 0
      | 1 => s.putB (F.GOUGE_SLOT_CKPT_CKPT_VALID at_.unit) false
      | 2 => s.refWordBad at_.unit at_.word
      | _ =>
        let twice := s.gouge.ecc.any (fun e => e.1 == at_.unit && turnsSince s.turn (BitVec.ofNat 48 e.2) < 256)
        let s := s.setGouge { s.gouge with ecc := sparseInsert s.gouge.ecc at_.unit s.turn.toNat }
        let s := match (slotsOf s.variant).find? (fun sl => s.laneOf sl == at_.unit && s.hasLane sl) with
          | some sl =>
            let x := s.gg sl
            let s := (s.put (F.GOUGE_SLOT_REPORT_ISO sl) x.snap.1).put (F.GOUGE_SLOT_REPORT_C_REP sl) x.snap.2.1
            s.setGg sl { x with eccFrozen := true, frozen := true, staged := none }
          | none => s
        if twice then s.laneFail at_.unit else s
  okIf (if kind = 3 then at_.unit < nTileOf s.variant else kind < 3 && slotIn s.variant at_.unit) (s.awake s')

/-- One lane migration at a boundary (Table 4.3): the spare is attached at T + 1, its self-check is over at T + 3, and the
output resumes at T + 4; a spare that fails its check is retired, and the next is attached at the following boundary. -/
def State.migrateLane (s : State) (bad : List Nat) (m : LaneMig) : State :=
  let age := turnsSince s.turn m.fail
  let upd (s : State) (m : LaneMig) : State :=
    s.setGouge { s.gouge with migs := s.gouge.migs.map (fun n => if n.slot == m.slot then m else n) }
  match m.spare with
  | none =>
    if age = 0 then s
    else match s.freeLanes.head? with
      | none =>
        let s := s.setGouge { s.gouge with migs := s.gouge.migs.filter (fun n => n.slot != m.slot),
                                           noSpare := s.gouge.noSpare ++ [m.slot] }
        s.boundarySlot m.slot
      | some t =>
        let s := upd s { m with spare := some t }
        if s.freeLanes.isEmpty then s.raise 46 else s
  | some t =>
    if age = 3 ∧ bad.contains m.slot then
      upd (s.putBit (F.GOUGE_LANE_RETIRED_RETIRED (t / 32)) (t % 32) true) { m with fail := s.turn, spare := none }
    else if age < 4 then s
    else
      let s := s.setGouge { s.gouge with lanes := sparseInsert s.gouge.lanes m.slot t,
                                         migs := s.gouge.migs.filter (fun n => n.slot != m.slot),
                                         restarts := if m.tile || m.lane then s.gouge.restarts ++ [(m.slot, m.tile, m.lane, m.first)]
                                           else s.gouge.restarts }
      (s.putB (F.GOUGE_SLOT_STATUS_MIGRATED m.slot) true).boundarySlot m.slot

/-- LANE_MIGRATION_STEP: every lane migration advances at a boundary, in order of slot index (R108). -/
def execLaneMigrationStep (fc : Nat) (bad : List Nat) (s : State) : Host.Outcome State Fault Refusal :=
  let s := s.at fc
  let order := (slotsOf s.variant).filterMap (fun sl => s.gouge.migs.find? (fun m => m.slot == sl))
  let s := s.each order (fun s m => s.migrateLane bad m)
  .next ((s.live 10 (!s.gouge.migs.isEmpty)).syncSpares)

/-! ### Host controls (R110) and snapshots (R111, R112) -/

/-- FREEZE: the bit acts from the next boundary; a write to a slot the variant lacks is ignored (R2). -/
def execFreeze (fc sl : Nat) (on : Bool) (s : State) : Host.Outcome State Fault Refusal :=
  let s := s.at fc
  okIf (sl < 128) (if slotIn s.variant sl then s.putB (F.GOUGE_SLOT_CTRL_FREEZE sl) on else s)

/-- REPROBE: ignored for a slot with no allocation, in REPAIR, or that the variant lacks (R2). -/
def execReprobe (fc sl : Nat) (zero : Bool) (s : State) : Host.Outcome State Fault Refusal :=
  let s := s.at fc
  okIf (sl < 128)
    (if !slotIn s.variant sl || !s.hasLane sl || s.laneMoving sl then s else s.setGg sl { s.gg sl with reprobe := some (zero, false) })

/-- A snapshot is being copied or written. -/
def State.snapBusy (s : State) : Bool :=
  s.gouge.snap.isSome || s.hif.xfers.any (fun x => match s.findDesc (x.sq, x.order) with
    | some d => d.opcode == Op.snapshot
    | none => false)

/-- Bytes of a snapshot of these slots (R112). -/
def State.snapLen (s : State) (l : List Nat) : Nat := l.foldl (fun a sl => a + 32 + 5 * (s.gg sl).taps.length) 32

/-- GOUGE_SNAPSHOT. -/
def execGougeSnapshot (fc sq idx : Nat) (s : State) : Host.Outcome State Fault Refusal :=
  .next (s.withDesc fc sq idx Op.snapshot (fun d s =>
    let k : DescKey := d.key
    let l := maskSlots s.variant (dSlots d.body)
    if s.snapBusy then s.failed k 0x10 0
    else if dLen d.body < s.snapLen l then s.failed k 0x12 (s.snapLen l)
    else s.setGouge { s.gouge with snap := some (k, l, dAddr d.body, s.turn) }))

/-- A tap in 5 bytes: I in bits [19:0], Q in bits [39:20]. -/
def tapBytes (t : Int × Int) : List Byte := leBytes (unsgn 20 t.1 + 2 ^ 20 * unsgn 20 t.2) 5

/-- A snapshot record: the header of Table 4.5 and the taps. Its "MU in force" is ADAPT.MU in every phase; the spec does not say whether the
probe phase, which adapts with MU_PROBE, shows that one (DESIGN CHOICE, log entry 61). -/
def State.snapRecord (s : State) (sl : Nat) : List Byte :=
  let x := s.gg sl
  let taps := x.taps.flatMap tapBytes
  let flags := b2n (s.flag (F.GOUGE_SLOT_STATUS_FROZEN sl)) + 2 * b2n (s.flag (F.GOUGE_SLOT_STATUS_VALID sl)) +
    4 * b2n (s.flag (F.GOUGE_SLOT_STATUS_SPAN_SHORT sl)) + 8 * b2n (s.laneMoving sl)
  padTo 32 (leBytes sl 1 ++ leBytes (s.shownPhase sl) 1 ++ leBytes x.taps.length 2 ++ leBytes x.delay 2 ++
    leBytes (s.act (F.GOUGE_SLOT_ADAPT_MU sl)) 2 ++ leBytes (s.get (F.GOUGE_SLOT_REPORT_C_REP sl)) 2 ++
    leBytes (s.get (F.GOUGE_SLOT_REPORT_ISO sl)) 2 ++ leBytes flags 2 ++ leBytes 0 2 ++ leBytes (crc32c taps) 4) ++ taps

/-- SNAPSHOT_COPY: in the first Turn that begins after acceptance the taps in force are copied, and the transfer becomes
ready; a buffer that a swap has made too short fails it (R111, R209). -/
def execSnapshotCopy (fc : Nat) (s : State) : Host.Outcome State Fault Refusal :=
  let s := s.at fc
  match s.gouge.snap with
  | none => .next s
  | some (k, l, va, acc) =>
    if !laterThan s.turn acc ∨ s.fc < 2048 then .next s
    else
      let n := s.snapLen l
      let head := padTo 32 ([3, 0] ++ leBytes l.length 2 ++ leBytes s.turn.toNat 6 ++ leBytes s.epoch.toNat 2 ++ leBytes n 4)
      let bytes := head ++ l.flatMap s.snapRecord
      let s := s.setGouge { s.gouge with snap := none, copyAt := some s.turn }
      match s.findDesc k with
      | none => .next s
      | some d => .next (if dLen d.body < n then s.failed k 0x12 n else s.addXfer d (.bytes bytes) va n)

end Sys2Proof.Machine
end

