-- ==== Sys2Proof/Machine/Guard.lean ====
section
/-! DEFINITION. The Network Guard (spec/05): the gain limit, the detectors, the action ladder with its holds and escalations,
the latched shutdown and its clearing, and what an overrunning evaluation does. -/
namespace Sys2Proof.Machine

/-- `t` has come: it is not later than the present Turn. -/
def State.reached (s : State) (t : TurnNo) : Bool := !laterThan t s.turn
def State.reachedOpt (s : State) (t : Option TurnNo) : Bool := match t with | some t => s.reached t | none => false
def State.slotHold (s : State) : TurnNo := BitVec.ofNat 48 (s.act F.GRD_HOLD_SLOT_HOLD)
def State.dirHold (s : State) : TurnNo := BitVec.ofNat 48 (s.act F.GRD_HOLD_DIR_HOLD)
/-- The Turns of a list that lie within ESC_WINDOW. -/
def State.inWindow (s : State) (l : List TurnNo) : List TurnNo :=
  l.filter (fun t => turnsSince s.turn t < 4096 * s.act F.GRD_CFG_ESC_WINDOW)

/-! ### What a slot shows -/

def State.latchOn (s : State) : Bool := s.flag F.GRD_STATUS_LATCHED
def State.dirMuted (s : State) (ul : Bool) : Bool := s.grd.dirEnd.any (fun e => e.1 == ul)

/-- The step of Table 5.2 in force for a slot: the highest prevails (R129); 5 also after a granted clear (R133). -/
def State.guardStep (s : State) (sl : Nat) : Nat :=
  if s.latchOn || s.grd.cleared then 5
  else if s.grd.allEnd.isSome then 4
  else if s.dirMuted (slotIsUl sl) then 3
  else if (s.gd sl).muteEnd.isSome then 2
  else if (s.gd sl).backoff ≠ 0 then 1 else 0

/-- Show a slot's action and the verdicts in force. -/
def State.syncGuard (s : State) (sl : Nat) : State :=
  let x := s.gd sl
  let s := (s.put (F.GRD_SLOT_STATUS_ACTION sl) (s.guardStep sl)).putB (F.GRD_SLOT_STATUS_D_OSC sl) x.oscMute
  ((s.putB (F.GRD_SLOT_STATUS_D_WARN sl) (bit x.boBy 0)).putB (F.GRD_SLOT_STATUS_D_NR sl) (bit x.boBy 1)).putB
    (F.GRD_SLOT_STATUS_D_EM sl) (bit x.boBy 2)

/-- A channel in use shows VIOLATION. -/
def State.violated (s : State) : Bool :=
  (List.range (nEmOf s.variant)).any (fun c => s.actB (F.GRD_EM_CFG_EN c) && s.flag (F.GRD_EM_STATUS_VIOLATION c))

/-- The four sources that are live on conditions of slots and channels (Table 5.6). -/
def State.syncGuardLive (s : State) : State :=
  let l := slotsOf s.variant
  let noisy (sl : Nat) : Bool :=
    let n := s.geti (F.GRD_SLOT_NOISE_NOISE_OUT sl)
    let lim := s.geti (F.GRD_SLOT_NOISE_NR_LIMIT sl)
    slotIsUl sl && n != -32768 && lim != -32768 && decide (lim < n)
  let s := (s.live 11 (l.any (fun sl => (s.gd sl).oscMute))).live 12 (l.any noisy)
  (s.live 13 s.violated).live 14
    (l.any (fun sl => (s.gd sl).inLoss))

def State.syncGuardAll (s : State) : State := (s.each (slotsOf s.variant) State.syncGuard).syncGuardLive

/-- Interrupt source 5, once in a Turn (R411). -/
def State.guardIrq (s : State) : State :=
  if s.grd.irqAt = some s.turn then s else (s.setGrd { s.grd with irqAt := some s.turn }).irq 5

/-! ### The gain limit (R117 to R119) -/

/-- BACKOFF of the next Turn: a trigger makes it 6.0 dB, and after its hold it falls by 0.5 dB a Turn (R129). -/
def nextBackoff (x : GdSlot) : Nat := if x.stageBo ≠ 0 then 60 else if x.falling then x.backoff - 5 else x.backoff

/-- ISO + C_REP of the snapshot, in 0.05 dB. -/
def State.credit (s : State) (sl : Nat) : Int := let r := (s.gg sl).snap; 2 * ((r.1 : Int) + r.2.1)

/-- G_LIM in 0.05 dB for a BACKOFF in 0.1 dB. -/
def State.gLim (s : State) (sl backoff : Nat) : Int :=
  let c := s.credit sl
  let c := if s.flag (F.GRD_SLOT_STATUS_OSC_CAP sl) then min c (s.geti (F.GRD_SLOT_OSC_G_OSC sl)) else c
  c - 2 * s.act (F.GRD_SLOT_CFG_MARGIN sl) - 2 * backoff

/-- The limit of a slot that a boundary enables is the one R117 gives for its first record. -/
def State.firstLimit (s : State) (sl : Nat) : State := s.puti (F.GRD_SLOT_LIMIT_G_LIM sl) (s.gLim sl (s.gd sl).backoff)

/-! ### What the detectors measure (R115, R116, R120) -/

/-- The gated-in samples of the last Turn. -/
def State.gatedIn (s : State) (sl : Nat) : List Samp := (s.lastSamples sl).filter (fun z => z.gate && !z.near)
/-- A sample that carries output a detector may use. -/
def Samp.speaks (z : Samp) : Bool := z.gate && !z.near && !z.muted
/-- Mean output power, and mean power ahead of the gain stage, of these samples in 0.01 dB. -/
def outLevel (l : List Samp) : Int := levelOf (powSum (l.map (·.out))) (l.length * 2 ^ 38)
def inLevel (l : List Samp) : Int := levelOf (powSum (l.map (·.resid))) (l.length * 2 ^ 76)

/-- cos (2πk/16) and −sin (2πk/16) in units of 2^-30: the spec does not give the arithmetic of the 16-bin spectrum (DESIGN CHOICE, log entry
63). -/
def twiddle (k : Nat) : Int × Int :=
  let c : List Int := [1073741824, 992008094, 759250125, 410903207, 0, -410903207, -759250125, -992008094, -1073741824, -992008094,
    -759250125, -410903207, 0, 410903207, 759250125, 992008094]
  (c.getD (k % 16) 0, c.getD ((k + 4) % 16) 0)
/-- The power spectrum of 16 samples, oldest first. -/
def spectrum16 (l : List (Int × Int)) : List Nat :=
  (List.range 16).map (fun b => cPow (cDot l ((List.range 16).map (fun j => twiddle (b * j)))))
/-- The peak over the mean of 16 bins is at least `thr` dB. -/
def peakOver (thr sum top : Nat) : Bool := decide (10 ^ thr * sum ^ 10 ≤ (16 * top) ^ 10)
/-- PEAK: the peak-to-mean ratio of the last 16 output samples is at least `thr` dB. -/
def State.peakHolds (s : State) (sl thr : Nat) : Bool :=
  let l := ((s.path sl).hist.filter Samp.speaks).take 16
  let p := spectrum16 (l.map (·.out)).reverse
  let sum : Nat := p.foldl (· + ·) 0
  let top : Nat := p.foldl max 0
  l.length == 16 && sum != 0 && peakOver thr sum top

/-- L_LOOP in slot samples: the lag of the leakage peak, or LOOP_LAG without an allocation. -/
def State.loopLag (s : State) (sl : Nat) : Nat :=
  if s.hasLane sl then (s.gg sl).delay + 32 * s.act (F.GOUGE_SLOT_ALLOC_PRE_TAPS sl) else s.act (F.GRD_SLOT_CFG_LOOP_LAG sl)
/-- The autocorrelation of a slot's output at L_LOOP over the last Turn: |Σ x(n) conj x(n − L)|², and the product of both powers. Both samples
of a pair must be usable (DEDUCED, log entry 63). -/
def State.loopCorr (s : State) (sl : Nat) : Nat × Nat :=
  let h := (s.path sl).hist
  let l := ((h.take (s.path sl).count).zip (h.drop (s.loopLag sl))).filter (fun e => e.1.speaks && e.2.speaks)
  let a := cDot (l.map (·.1.ref)) (l.map (fun e => cConj e.2.ref))
  (cPow a, powSum (l.map (·.1.ref)) * powSum (l.map (·.2.ref)))
/-- CORR: M_AC is at most `thr` halves of a dB. Of no power at all the spec gives no M_AC (log entry 1). -/
def corrHolds (c : Nat × Nat) (thr : Nat) : Bool :=
  if c.2 = 0 then decide (Config.openRatio 0 ≤ 10 * thr) else c.1 != 0 && decide (c.2 ^ 20 ≤ 10 ^ thr * c.1 ^ 20)
/-- M_AC in 0.05 dB, rounded down, and whether it is exact; none where it is infinite. -/
def macOf (c : Nat × Nat) : Option (Int × Bool) :=
  if c.2 = 0 then some ((Config.openRatio 0 : Nat), true) else if c.1 = 0 then none else some (ratioFloor 200 c.2 c.1)

/-! ### Triggers (R129) -/

/-- An action begins on a slot now (R79). -/
def State.begins (s : State) (sl : Nat) : State := s.setGrd { s.grd with begun := sparseInsert s.grd.begun sl s.now }

/-- A detector has reached its persistence for a slot: a back-off, or a fresh hold of the one in force. `bit_` is the detector's bit in
`boBy`. -/
def State.trigger (s : State) (sl bit_ src : Nat) : State :=
  let x := s.gd sl
  if 2 ≤ s.guardStep sl then s
  else
    let s := s.setGd sl { x with stageBo := setBit x.stageBo bit_ true, cont := setBit x.cont bit_ true,
                                 boEnd := some (s.turn + s.slotHold) }
    let s := (s.bump (F.GRD_SLOT_COUNT_BACKOFFS sl) 1).bump F.GRD_ACTIONS_BACKOFFS 1
    if src = 0 then s else s.raise src
/-- A detector's back-off is in force, and its condition has been present ever since it was triggered. -/
def GdSlot.still (x : GdSlot) (bit_ : Nat) : Bool := x.backoff != 0 && !x.falling && bit x.boBy bit_ && bit x.cont bit_
/-- The condition has been present for the persistence again: a slot mute. -/
def State.stageStep2 (s : State) (sl : Nat) : State :=
  let x := s.gd sl
  if 2 ≤ s.guardStep sl ∨ x.stageMute.isSome then s else s.setGd sl { x with stageMute := some false }
/-- One more count of a detector at a slot, a valid Turn or a block end, with its condition present or not; answers the count of those in a
row. Reaching the persistence triggers, or mutes where a back-off of this detector has been in force for it and the condition never went
away (R129); the first count after a back-off took effect is still of the time before. -/
def State.persist (s : State) (sl bit_ src lim cnt : Nat) (present : Bool) : State × Nat :=
  let x := s.gd sl
  if !present then (s.setGd sl { x with cont := setBit x.cont bit_ false }, 0)
  else
    let n := if x.still bit_ && x.boAt == s.turn then cnt else cnt + 1
    if n < lim then (s, n)
    else (if x.still bit_ then s.stageStep2 sl else s.trigger sl bit_ src, 0)

/-! ### Detectors (R120 to R128) -/

/-- RISE (R120): OUT_LEVEL against the mean of the reference history, in 0.01 dB. Whether the Turn under test counts among the 64 the spec
does not say; it does not (DESIGN CHOICE, log entry 63). -/
def rises (x : GdSlot) (out : Int) (rise : Nat) (ovr : Bool) : Bool :=
  let n := x.ref.length
  let d := (n : Int) * out - x.ref.foldl (· + ·) 0
  n != 0 && (decide (50 * (rise : Int) * n ≤ d) || (ovr && decide (0 < d)))

/-- The oscillation conditions of R120 for a slot; `l` are the samples that carry output. -/
def State.oscillates (s : State) (sl : Nat) (l : List Samp) : Bool :=
  !l.isEmpty && rises (s.gd sl) (outLevel l) (s.act (F.GRD_SLOT_THR_OSC_RISE sl)) (s.path sl).srcOvr &&
  (s.peakHolds sl (s.act (F.GRD_SLOT_THR_OSC_PEAK sl)) || corrHolds (s.loopCorr sl) (s.act (F.GRD_SLOT_THR_OSC_MAC sl)))

/-- OSCILLATION_VERDICT (R119, R120, R122). A slot under the mute of an earlier verdict gets no further one: Table 5.5 keeps its G_OSC and its
hold (DEDUCED, log entry 63). -/
def State.oscVerdict (s : State) (sl : Nat) : State :=
  let x := s.gd sl
  if x.oscMute then s
  else
    let s := (s.put (F.GRD_SLOT_OSC_G_OSC sl) (s.get (F.CHZ_SLOT_GAIN_GAIN_NOW sl))).putB (F.GRD_SLOT_STATUS_OSC_CAP sl) true
    let s := (s.bump (F.GRD_SLOT_COUNT_OSC_EVENTS sl) 1).raise 11
    s.setGd sl { x with oscAt := s.turn :: s.inWindow x.oscAt, stageMute := some true }

/-- The warning of R121: M_EST and its persistence; true while the condition holds. -/
def State.warning (s : State) (sl : Nat) (l : List Samp) : State × Bool :=
  if l.isEmpty then (s, false)
  else
    let room := s.credit sl - s.gainNow sl
    let e : Int × Bool := match macOf (s.loopCorr sl) with
      | some m => if m.1 < room then m else (room, true)
      | none => (room, true)
    let up := (e.1 % 2 ≠ 0 ∨ !e.2) ∧ Config.roundUp s.free
    let s := (s.puti (F.GRD_SLOT_LIMIT_M_EST sl) (clampInt (-32767) 32767 (e.1 / 2 + (if up then 1 else 0)))).tick
    let low := decide (e.1 < 10 * (s.act (F.GRD_SLOT_THR_WARN_MARGIN sl) : Int))
    let (s, n) := s.persist sl 0 0 (s.act (F.GRD_SLOT_LEVELS_WARN_PERSIST sl)) (s.gd sl).warnCnt low
    (s.setGd sl { s.gd sl with warnCnt := n }, low)

/-- The uplink noise detector of R123, on the samples that carry output and are not dirty; true at a block end above the limit. -/
def State.noiseRise (s : State) (sl : Nat) (l : List Samp) : State × Bool :=
  let lim := s.geti (F.GRD_SLOT_NOISE_NR_LIMIT sl)
  if !slotIsUl sl || lim == -32768 || l.isEmpty then (s, false)
  else
    let x := s.gd sl
    let b := x.nrBlock ++ [outLevel l]
    if b.length < 16 then (s.setGd sl { x with nrBlock := b }, false)
    else
      let sums := (b.foldl (· + ·) 0 :: x.nrSums).take 64
      let low := sums.foldl min (sums.headD 0)
      let s := (s.puti (F.GRD_SLOT_NOISE_NOISE_OUT sl)
        (clampInt (-32767) 32767 (low / 16 + (if low % 16 ≠ 0 ∧ Config.roundUp s.free then 1 else 0)))).tick
      let above := decide (16 * lim < low)
      let (s, n) := (s.setGd sl { x with nrBlock := [], nrSums := sums }).persist sl 1 12 (s.act (F.GRD_SLOT_LEVELS_NR_PERSIST sl))
        x.nrCnt above
      (s.setGd sl { s.gd sl with nrCnt := n }, above)

/-- The donor-loss detector of R127, on the gated-in samples that are not dirty; true while IN_LEVEL is below the threshold or the slot is in
loss. -/
def State.donorLoss (s : State) (sl : Nat) (l : List Samp) : State × Bool :=
  let x := s.gd sl
  if slotIsUl sl then (s, false)
  else if l.isEmpty then (s, x.inLoss)
  else
    let t := 10 * s.actI (F.GRD_SLOT_LEVELS_DONOR_MIN sl)
    let low := decide (inLevel l < t)
    if x.inLoss then
      let n := if t + 300 ≤ inLevel l then x.dlAbove + 1 else 0
      if n < 500 then (s.setGd sl { x with dlAbove := n }, true)
      else (s.setGd sl { x with dlAbove := 0, dlBelow := 0, inLoss := false }, low)
    else
      let n := if low then x.dlBelow + 1 else 0
      if n < 4 * s.act (F.GRD_SLOT_LEVELS_DL_PERSIST sl) then (s.setGd sl { x with dlBelow := n }, low)
      else
        let s := s.setGd sl { x with dlBelow := 0, dlAbove := 0, inLoss := true }
        ((s.setGrd { s.grd with lossAt := some s.turn }).raise 14, true)

/-- Stage the limit of R117 with the BACKOFF of the next Turn. -/
def State.stageLimit (s : State) (sl : Nat) : State :=
  s.puti (F.GRD_SLOT_LIMIT_G_LIM sl) (clampInt (-32767) 32767 (s.gLim sl (nextBackoff (s.gd sl))))

/-- One slot's evaluation, completed by its deadline: the detectors, then the limit with the BACKOFF of the next Turn. -/
def State.guardSlot (s : State) (sl : Nat) : State :=
  if !s.slotOn sl then s
  else
    let all := s.gatedIn sl
    let out := all.filter Samp.speaks
    let s := s.putB (F.GRD_SLOT_STATUS_GATED sl) all.isEmpty
    let osc := s.oscillates sl out
    let quiet := !(s.gd sl).acted
    let s := if osc then s.oscVerdict sl else s
    let (s, warn) := s.warning sl out
    let (s, noise) := s.noiseRise sl (out.filter (fun z => !z.dirty))
    let (s, loss) := s.donorLoss sl (all.filter (fun z => !z.dirty))
    let x := s.gd sl
    let s := s.setGd sl { x with ref := if !out.isEmpty && quiet then (outLevel out :: x.ref).take 64 else x.ref,
                                 overranAt := none, ovrEnd := x.ovrMute,
                                 cond := if osc || warn || noise || loss then some s.turn else x.cond }
    s.stageLimit sl

/-! ### Emission (R124 to R126) -/

/-- Fabric ports of an emission channel: primary, secondary, reference (Table 5.1). -/
def emPorts (v : Variant) (c : Nat) : Nat × Nat × Nat := match v with
  | .gw6432 => (180 + c, 196 + c, 220 + c)
  | .gw6416 => (90 + c, 98 + c, 110 + c)

/-- An excess found in a spectrum: where (a side of a slot, 2 × slot + side; a 5 MHz block, 1000 + its number), and the tenth powers of
the mean power and of what the mask allows. -/
structure Excess where
  place : Nat
  num : Nat
  den : Nat
deriving DecidableEq, Repr
def Excess.far (e : Excess) : Bool := 1000 ≤ e.place
/-- The mask is violated; this excess is the larger; it in 0.5 dB. -/
def Excess.over (e : Excess) : Bool := decide (e.den < e.num)
def Excess.above (a b : Excess) : Bool := decide (b.num * a.den < a.num * b.den)
def Excess.steps (e : Excess) : Int := if e.den = 0 then 255 else if e.num = 0 then 0 else ratioDb 2 e.num e.den

/-- Power of the lines whose frequency, in 2^-32 Hz, has `p`. -/
def linePower (l : Spectrum) (p : Int → Bool) : Nat := l.foldl (fun a e => if p ((e.1 : Int) * 2 ^ 32) then a + e.2 else a) 0
/-- The occupied band of a slot, and one of its near segments: from B/2 to 3B/2 below the centre (side 0) or above it. -/
def inBand (b : Int × Int) (f : Int) : Bool := decide (b.1 ≤ f) && decide (f ≤ b.2)
def nearSegment (b : Int × Int) (side : Nat) : Int × Int :=
  let w := b.2 - b.1
  if side = 0 then (b.1 - w, b.1 - 1) else (b.2 + 1, b.2 + w)

/-- The near excesses of a slot against those of its combiner: each side's power, less what lies inside another slot's band, relative to the
power in its own. -/
def State.nearExcess (s : State) (c : Nat) (slots : List Nat) (l : Spectrum) (sl : Nat) : List Excess :=
  let own := s.active.band sl
  let others := (slots.filter (· != sl)).map s.active.band
  let base := linePower l (inBand own)
  [0, 1].filterMap (fun side =>
    let p := linePower l (fun f => inBand (nearSegment own side) f && others.all (fun b => !inBand b f))
    if p = 0 then none else some ⟨2 * sl + side, p ^ 10 * 10 ^ s.act (F.GRD_EM_CFG_MASK_NEAR c), base ^ 10⟩)
/-- The far excesses: 5 MHz blocks from 350 MHz to 7.125 GHz that touch no band and no near segment of the combiner, relative to full scale. -/
def State.farExcess (s : State) (c : Nat) (slots : List Nat) (l : Spectrum) : List Excess :=
  let taken := slots.map (fun sl => let b := s.active.band sl; ((nearSegment b 0).1, (nearSegment b 1).2))
  let ks := ((l.filter (fun e => 350000000 ≤ e.1 && e.1 < 7125000000)).map (fun e => (e.1 - 350000000) / 5000000)).eraseDups
  ks.filterMap (fun k =>
    let lo : Int := (350000000 + 5000000 * k : Nat) * 2 ^ 32
    let hi : Int := lo + 5000000 * 2 ^ 32
    if taken.any (fun b => decide (b.1 < hi) && decide (lo ≤ b.2)) then none
    else some ⟨1000 + k, linePower l (fun f => decide (lo ≤ f) && decide (f < hi)) ^ 10 * 10 ^ s.act (F.GRD_EM_CFG_MASK_FAR c), (2 ^ 38) ^ 10⟩)
/-- Every excess of an input of a channel; near segments are measured of slots with gated-in samples. -/
def State.excesses (s : State) (c : Nat) (slots heard : List Nat) (l : Spectrum) : List Excess :=
  heard.flatMap (s.nearExcess c slots l) ++ s.farExcess c slots l
/-- The largest. -/
def worst (l : List Excess) : Option Excess :=
  l.foldl (fun b e => match b with | some w => if e.above w then some e else some w | none => some e) none

/-- One channel over the last Turn (R125, R126): answers also the slots that violate with PERSIST, where it is reached, and those measured.
The count of R126 is of the channel's violating Turns, and the slots that violate in the last of them are backed off (DESIGN CHOICE, log
entry 63). -/
def State.emission (s : State) (m : EmMeas) : State × List (Nat × Nat × Bool) :=
  let c := m.channel
  let slots := s.combSlots (s.act (F.GRD_EM_CFG_COMB c))
  let heard := slots.filter (fun sl => (s.lastSamples sl).any Samp.speaks)
  if !s.actB (F.GRD_EM_CFG_EN c) || heard.isEmpty || s.worked.contains (0, 256 + c) then (s, [])
  else
    let s := { s with worked := s.worked ++ [(0, 256 + c)] }
    let (p, q, _) := emPorts s.variant c
    let seen := (if s.actB (F.FAB_ROUTE_ZERO p) then [] else s.excesses c slots heard m.primary) ++
      (if s.actB (F.FAB_ROUTE_ZERO q) then [] else s.excesses c slots heard m.secondary)
    let top := worst seen
    let ref := s.excesses c slots heard m.reference
    let viol := top.any Excess.over
    let same := top.any (fun t => ref.any (fun r => r.place == t.place && decide (t.num * r.den ≤ 10 ^ 6 * r.num * t.den) &&
      decide (r.num * t.den ≤ 10 ^ 6 * t.num * r.den)))
    let s := (s.putB (F.GRD_EM_STATUS_VIOLATION c) viol).put (F.GRD_EM_STATUS_EXCESS c)
      (match top with | some t => (clampInt 0 255 t.steps).toNat | none => 0)
    let s := (s.putB (F.GRD_EM_STATUS_FAR c) (viol && top.any Excess.far)).put (F.GRD_EM_STATUS_SLOT c)
      (match worst (seen.filter (fun e => !e.far)) with | some t => t.place / 2 | none => 0)
    let s := s.putB (F.GRD_EM_STATUS_SRC_DIGITAL c) (viol && same)
    let n := if viol then sparseGet 0 s.grd.emCnt c + 1 else 0
    let s := if viol then s.bump (F.GRD_EM_COUNT_VIOL_TURNS c) 1 else s
    let pers := s.act (F.GRD_EM_CFG_PERSIST c)
    let s := s.setGrd { s.grd with emCnt := sparseSet 0 s.grd.emCnt c (if n < pers then n else 0),
                                   emAt := if viol then sparseInsert s.grd.emAt c s.turn else s.grd.emAt }
    let bad := if seen.any (fun e => e.far && e.over) then slots
      else slots.filter (fun sl => seen.any (fun e => !e.far && e.over && e.place / 2 == sl))
    (s, slots.map (fun sl => (sl, if bad.contains sl then pers else 0, bad.contains sl && decide (pers ≤ n))))

/-- What the channels found at a slot: `pers` is the persistence of a channel on which it violates, 0 if it violates on none; `reached` that
the channel's count has reached it. -/
def State.emSlot (s : State) (sl pers : Nat) (reached : Bool) : State :=
  let x := s.gd sl
  if pers = 0 then s.setGd sl { x with cont := setBit x.cont 2 false, emCnt := 0 }
  else if x.still 2 then
    let (s, n) := s.persist sl 2 13 pers x.emCnt true
    s.setGd sl { s.gd sl with emCnt := n }
  else if reached then (s.setGd sl { x with emCnt := 0 }).trigger sl 2 13 else s

/-- Every channel listed, then the slots they concern, each once. -/
def State.emissions (s : State) (l : List EmMeas) : State :=
  let (s, found) := l.foldl (fun a m => let r := a.1.emission m; (r.1, a.2 ++ r.2)) (s, [])
  s.each (found.map (·.1)).eraseDups (fun s sl =>
    let own := found.filter (fun e => e.1 == sl)
    let s := s.emSlot sl ((own.map (·.2.1)).foldl max 0) (own.any (·.2.2))
    if s.worked.contains (0, sl) then s.stageLimit sl else s)

/-- GUARD_EVALUATION of the slots and channels whose work completes at `fc`, by the deadline; each slot's runs once in a Turn, and not after it
has overrun (R18, R23). -/
def execGuardEvaluation (fc : Nat) (l : List Nat) (em : List EmMeas) (s : State) : Host.Outcome State Fault Refusal :=
  let s := s.at fc
  let late := s.fc > 767 || bit s.overran 0 || !s.running || s.railDown 0
  okIf (l.all (slotIn s.variant) && em.all (fun m => m.channel < nEmOf s.variant))
    (if late then s else ((s.emissions em).each l (fun s sl => s.once 0 sl State.guardSlot)).syncGuardLive)

/-! ### fc 768 (R20, R129, R132) -/

/-- Donor-loss mutes: the paired UL slot of every DL slot in loss, and the slot itself with DL_SELF_MUTE (R128). -/
def State.donorMuted (s : State) (sl : Nat) : Bool :=
  (slotsOf s.variant).any (fun dl => !slotIsUl dl && (s.gd dl).inLoss &&
    ((s.actB (F.GRD_SLOT_CFG_PAIR_EN dl) && s.act (F.GRD_SLOT_CFG_PAIR dl) == sl) ||
      (dl == sl && s.actB (F.GRD_SLOT_CFG_DL_SELF_MUTE dl))))

/-- Every Guard mute in force acts on its slot at once. -/
def State.guardMutesNow (s : State) : State :=
  s.each (slotsOf s.variant) (fun s sl => if s.guardMuted sl then s.muteNow (F.CHZ_SLOT_STATUS_M_GUARD sl) sl else s)

/-- The staged slot mutes begin. -/
def State.beginMutes (s : State) : State :=
  s.each (slotsOf s.variant) (fun s sl =>
    let x := s.gd sl
    match x.stageMute with
    | none => s
    | some osc =>
      let s := s.setGd sl { x with stageMute := none, muteEnd := some (s.turn + s.slotHold), oscMute := x.oscMute || osc,
                                   warnCnt := 0, nrCnt := 0, emCnt := 0, cont := 0 }
      (((s.begins sl).bump (F.GRD_SLOT_COUNT_MUTES sl) 1).bump F.GRD_ACTIONS_MUTES 1).guardIrq)

/-- Slots of a direction under a step-2 mute. -/
def State.mutedOf (s : State) (ul : Bool) : Nat :=
  ((slotsOf s.variant).filter (fun sl => slotIsUl sl == ul && (s.gd sl).muteEnd.isSome)).length

/-- Enter a direction mute where DIR_ESC slots of the direction are muted. -/
def State.escalateDir (s : State) (ul : Bool) : State :=
  if s.dirMuted ul || s.mutedOf ul < s.act F.GRD_CFG_DIR_ESC then s
  else
    let s := s.setGrd { s.grd with dirEnd := s.grd.dirEnd ++ [(ul, s.turn + s.dirHold)],
                                   dirAt := (ul, s.turn) :: s.grd.dirAt }
    let s := s.each ((slotsOf s.variant).filter (fun sl => slotIsUl sl == ul)) State.begins
    (s.putB (if ul then F.GRD_STATUS_DIR_UL else F.GRD_STATUS_DIR_DL) true).guardIrq

/-- Direction mutes entered within the window. -/
def State.dirEntries (s : State) (ul : Bool) : Nat :=
  (s.inWindow ((s.grd.dirAt.filter (fun e => e.1 == ul)).map (·.2))).length

/-- A direction mute was entered in this Turn. -/
def State.dirNow (s : State) (ul : Bool) : Bool := s.grd.dirAt.any (fun e => e.1 == ul && e.2 == s.turn)

/-- Enter the all-mute where both directions are muted, or a direction has been muted twice within the window. -/
def State.escalateAll (s : State) : State :=
  let both := s.dirMuted true && s.dirMuted false && (s.dirNow true || s.dirNow false)
  let again := [true, false].any (fun ul => s.dirNow ul && 2 ≤ s.dirEntries ul)
  if s.grd.allEnd.isSome || !(both || again) then s
  else
    let s := s.setGrd { s.grd with allEnd := some (s.turn + s.dirHold), allAt := s.turn :: s.grd.allAt }
    let s := s.each (slotsOf s.variant) State.begins
    (s.putB F.GRD_STATUS_ALL_MUTE true).guardIrq

/-- Latched shutdown (R132): cause 1 OSC_RELAPSE, 2 ALL_MUTE_REPEAT. -/
def State.latch (s : State) (cause : Nat) : State :=
  if s.latchOn then s
  else
    let t := s.turn.toNat
    let on_ := s.slotsOn
    let s := ((s.putB F.GRD_STATUS_LATCHED true).put F.GRD_LATCH_CAUSE cause).put F.GRD_LATCH_TURN_LO_LATCH_TURN t
    let s := s.put F.GRD_LATCH_TURN_HI_LATCH_TURN (t / 2 ^ 32)
    let s := s.each [0, 1, 2, 3] (fun s i =>
      s.put (F.GRD_LATCH_SLOTS_SLOTS i) ((on_.filter (fun sl => sl / 32 == i)).foldl (fun a sl => a + 2 ^ (sl % 32)) 0))
    let s := s.setGrd { s.grd with safeDue := true, cleared := false, clearReq := false }
    ((s.each (slotsOf s.variant) State.begins).emit 0x80 7 7 (leBytes cause 1 ++ leBytes on_.length 1)).guardIrq

def State.escalateLatch (s : State) : State :=
  let relapse := (slotsOf s.variant).any (fun sl => (s.gd sl).oscAt.head? == some s.turn &&
    s.act F.GRD_CFG_OSC_RELAPSE ≤ (s.inWindow (s.gd sl).oscAt).length)
  let repeats := s.grd.allAt.head? == some s.turn && s.act F.GRD_CFG_LATCH_ESC ≤ (s.inWindow s.grd.allAt).length
  if relapse && repeats then (s.latch (if Config.roundUp s.free then 1 else 2)).tick
  else if relapse then s.latch 1 else if repeats then s.latch 2 else s

/-- The mutes of this Turn and their escalations take effect. -/
def State.muteEffect (s : State) : State :=
  let s := s.beginMutes
  let s := ((s.escalateDir false).escalateDir true).escalateAll.escalateLatch
  let s := s.each (slotsOf s.variant) (fun s sl =>
    let s := if s.donorMuted sl then s.putB (F.GRD_SLOT_STATUS_D_DONOR sl) true else s
    let lim := s.geti (F.GRD_SLOT_LIMIT_G_LIM sl)
    if s.slotOn sl && lim != -32768 && decide (lim < -600) then s.putB (F.GRD_SLOT_STATUS_D_STAB sl) true else s)
  let s := if s.grd.lossAt = some s.turn then s.guardIrq else s
  s.syncGuardAll.guardMutesNow

/-- GUARD_MUTE_EFFECT, at fc 768: the mutes of this Turn and their escalations take effect (R20), once in a Turn. -/
def execGuardMuteEffect (s : State) : Host.Outcome State Fault Refusal := .next ((s.at 768).onceATurn 1 State.muteEffect)

/-! ### Boundaries (R20, R23, R118, R128, R129, R133) -/

/-- Staged back-offs take effect, falling ones fall, and mutes without a hold that have ended are over. -/
def State.guardBoundarySlot (s : State) (sl : Nat) : State :=
  let x := s.gd sl
  let b := nextBackoff x
  let fresh := x.stageBo != 0
  let held := x.backoff != 0 && !x.falling
  let acted := s.guardStep sl != 0
  let s := s.setGd sl { x with acted := acted, backoff := b, falling := x.falling && !fresh && b != 0,
                               boBy := if fresh then (if held then x.boBy ||| x.stageBo else x.stageBo) else if b = 0 then 0 else x.boBy,
                               boAt := if fresh then s.turn else x.boAt, cont := if b = 0 then 0 else x.cont,
                               stageBo := 0, lastBo := x.stageBo,
                               ovrMute := x.ovrMute && !x.ovrEnd, ovrEnd := false }
  let s := if fresh then (s.begins sl).guardIrq else s
  let s := s.putB (F.GRD_SLOT_STATUS_D_DONOR sl) (s.donorMuted sl)
  if -600 ≤ s.geti (F.GRD_SLOT_LIMIT_G_LIM sl) then s.putB (F.GRD_SLOT_STATUS_D_STAB sl) false else s

/-- The slots recorded at the latch. -/
def State.latchSlots (s : State) : List Nat :=
  (List.range 128).filter (fun sl => s.getBit (F.GRD_LATCH_SLOTS_SLOTS (sl / 32)) (sl % 32))
def State.latchTurn (s : State) : TurnNo :=
  BitVec.ofNat 48 (s.get F.GRD_LATCH_TURN_LO_LATCH_TURN + 2 ^ 32 * s.get F.GRD_LATCH_TURN_HI_LATCH_TURN)
/-- A slot lies inside a consent accepted through TOKEN_SUBMIT after the latch Turn (R133, R337). -/
def State.newConsent (s : State) (sl : Nat) : Bool :=
  s.sec.tokens.any (fun t => laterThan t.acceptTurn s.latchTurn && t.covers s.sec.otp.serial s.active sl)

/-- LATCH_CLEAR_DECISION (R133): no evaluation of the last Turn may have found a condition. -/
def State.decideClear (s : State) : State :=
  if !s.grd.clearReq then s
  else
    let s := s.setGrd { s.grd with clearReq := false }
    if !s.latchOn then s
    else
      let out := (s.latchSlots.filter (fun sl => !s.newConsent sl)).length
      let cond := (slotsOf s.variant).any (fun sl => (s.gd sl).cond == some (s.turn - 1)) ||
        s.grd.emAt.any (fun e => e.2 == s.turn - 1)
      if out = 0 ∧ !cond then (s.putB F.GRD_STATUS_LATCHED false).setGrd { s.grd with cleared := true }
      else (s.bump F.GRD_LATCH_CLEAR_REFUSED 1).emit 0x81 3 7 (leBytes out 1 ++ leBytes (b2n cond) 1)

/-- The Guard at a boundary. -/
def State.guardBoundary (s : State) : State :=
  let s := s.decideClear
  (s.each (slotsOf s.variant) State.guardBoundarySlot).syncGuardAll

/-! ### Releases (R129, R130, R133) -/

/-- A swap has committed at the boundary of the present Turn. -/
def State.swappedNow (s : State) : Bool :=
  s.get F.PLAN_STATUS_LAST_SWAP == 1 &&
  s.get F.PLAN_SWAP_TURN_LO_SWAP_TURN + 2 ^ 32 * s.get F.PLAN_SWAP_TURN_HI_SWAP_TURN == s.turn.toNat

/-- A slot returns from a Guard mute: a fresh back-off, at once in its limit and its gain, and a REPROBE with its present
taps where an oscillation verdict had muted it; one that meets a swap is discarded (R110). -/
def State.releaseSlot (s : State) (sl : Nat) : State :=
  let x := s.gd sl
  let lim := s.geti (F.GRD_SLOT_LIMIT_G_LIM sl)
  let s := if lim = -32768 ∨ !s.slotOn sl then s
    else
      let lim := max (-32767) (lim - 2 * (60 - (x.backoff : Int)))
      let s := s.puti (F.GRD_SLOT_LIMIT_G_LIM sl) lim
      let s := s.puti (F.CHZ_SLOT_GAIN_GAIN_NOW sl) (max (-600) (min (s.gainNow sl) lim))
      if lim < -600 then s.putB (F.GRD_SLOT_STATUS_D_STAB sl) true else s
  let s := s.setGd sl { x with backoff := 60, boEnd := some (s.turn + s.slotHold), falling := false, boBy := 0, cont := 0,
                               boAt := s.turn, oscMute := false, warnCnt := 0, nrCnt := 0, emCnt := 0 }
  let s := (((s.begins sl).bump (F.GRD_SLOT_COUNT_BACKOFFS sl) 1).bump F.GRD_ACTIONS_BACKOFFS 1).guardIrq
  let s := if x.oscMute && s.hasLane sl && !s.laneMoving sl && !s.swappedNow then
      let g := s.gg sl
      s.startLane sl g.taps g.delay true false
    else s
  s

/-- Release every slot that `before` had under step 2 to 5 and that no step mutes now. -/
def State.releaseFrom (s : State) (before : List Nat) : State :=
  let l := before.filter (fun sl => s.guardStep sl < 2)
  let s := (s.each l State.releaseSlot).syncGuardAll
  s.each l State.boundarySlot

/-- GUARD_HOLD_EXPIRY, at a boundary: the holds that end now (R129, R131). -/
def execGuardHoldExpiry (fc : Nat) (s : State) : Host.Outcome State Fault Refusal :=
  let s := s.at fc
  let before := (slotsOf s.variant).filter (fun sl => 2 ≤ s.guardStep sl)
  let s := s.each (slotsOf s.variant) (fun s sl =>
    let x := s.gd sl
    let x := if s.reachedOpt x.muteEnd then { x with muteEnd := none } else x
    let x := if s.reachedOpt x.boEnd then { x with boEnd := none, falling := x.backoff != 0 } else x
    s.setGd sl x)
  let dirs := s.grd.dirEnd.filter (fun e => !s.reached e.2)
  let s := s.setGrd { s.grd with dirEnd := dirs, allEnd := if s.reachedOpt s.grd.allEnd then none else s.grd.allEnd }
  let s := (s.putB F.GRD_STATUS_DIR_DL (s.dirMuted false)).putB F.GRD_STATUS_DIR_UL (s.dirMuted true)
  let s := s.putB F.GRD_STATUS_ALL_MUTE s.grd.allEnd.isSome
  .next (s.releaseFrom before)

/-- Leaving SAFE after a granted clear: each slot returns under a fresh back-off with a REPROBE (R133). -/
def State.leaveCleared (s : State) : State :=
  if !s.grd.cleared then s
  else
    let before := slotsOf s.variant
    let s := s.setGrd { s.grd with cleared := false }
    let s := s.each before (fun s sl => s.setGd sl { s.gd sl with oscMute := true })
    s.releaseFrom before

/-- GRD_LATCH_CLEAR: a clear is asked for at the next boundary; with no latch in force it does nothing (R133). -/
def execGrdLatchClear (fc : Nat) (s : State) : Host.Outcome State Fault Refusal :=
  let s := s.at fc
  .next (if s.latchOn then s.setGrd { s.grd with clearReq := true } else s)

/-! ### Overruns (R23) -/

/-- A Guard evaluation has overrun for a slot: the verdicts of the previous Turn are staged again, and a second overrun in
a row mutes the slot at fc 768. -/
def State.guardOverrun (s : State) (sl : Nat) : State :=
  let x := s.gd sl
  let twice := match x.overranAt with | some t => t == s.turn - 1 | none => false
  s.setGd sl { x with overranAt := some s.turn, stageBo := x.lastBo, stageMute := none, ovrMute := x.ovrMute || twice, ovrEnd := false }

/-! ### Kills (R134, R137) -/

/-- A kill has appeared, from the pin or over the Apzer Link: signalled and live; the DACs and FE pins act apart. -/
def State.killLive (s : State) : State :=
  ((s.putB F.GRD_STATUS_KILL_PIN s.pwr.killPin).putB F.GRD_STATUS_KILL_APZ s.apzKill).live 15 s.killHeld

end Sys2Proof.Machine
end

