-- ==== Sys2Proof/Machine/Gauge.lean ====
section
/-! DEFINITION. The Gauge housekeeping converters (spec/09): triggers and start delays, conversions and what their results
enter, injected conversions, self-calibration, swaps and the records of GAUGE_READ. -/
namespace Sys2Proof.Machine

def State.gauX (s : State) (n : Nat) : GauX := sparseGet gauNone s.gau n
def State.setGau (s : State) (n : Nat) (x : GauX) : State := { s with gau := sparseInsert s.gau n x }

/-- The Gauge is powered and out of reset (R237, Table 15.3). -/
def State.gauRuns (s : State) : Bool := !s.pwr.off && s.pstate != 0 && !s.blockHeld .gauge && !s.railDown 3

/-- Show what a converter is doing. -/
def State.syncGau (s : State) (n : Nat) : State :=
  let x := s.gauX n
  let st := if x.cal.isSome then 3 else if x.inj.isSome then 2 else if x.tail then 1 else match x.seq with | .run _ => 1 | _ => 0
  let s := s.put (F.GAU_STATE_STATE n) st
  let s := s.putBit F.GAU_STATUS_SEQ_BUSY n (x.seq != .idle)
  s.putBit F.GAU_STATUS_CAL_BUSY n x.cal.isSome

/-! ### Starting conversions (R235, R238) -/

/-- A conversion of entry `e` starts: 8 clocks of start-up when the converter has been idle for more than 64 (R235); it
carries SETTLING when it follows an OVR result with no gap and a sampling time below 6 (R238). -/
def State.convStart (s : State) (n e : Nat) (t : Nat) : State :=
  let x := s.gauX n
  let samp := s.act (F.GAU_ENT_CFG_SAMP n e)
  let wake := match x.lastEnd with | some l => decide (64 * 96 < t - l) | none => true
  let gap := match x.lastEnd with | some l => decide (l < t) | none => true
  let s := s.setGau n { x with endAt := t + 96 * ((if wake then 8 else 0) + samp + 14),
                               settling := x.lastOvr && !gap && decide (samp < 6), discard := false }
  s.put (F.GAU_STATE_ENTRY n) e

/-- The sequence begins converting from entry 0; a window starts INSIDE when the sequence starts afresh (R241). -/
def State.seqStart (s : State) (n : Nat) : State :=
  let x := s.gauX n
  let s := if x.fresh then s.each (List.range 16) (fun s i => s.put (F.GAU_ENT_STATE_WIN n i) 0) else s
  ((s.setGau n { x with seq := .run 0, fresh := false }).convStart n 0 s.now).syncGau n

/-- Is a conversion running? -/
def GauX.converting (x : GauX) : Bool := x.inj.isSome || x.tail || (match x.seq with | .run _ => true | _ => false)

/-- GAUGE_TRIGGER: a Turn trigger at fc 0, or a PWM trigger that waits, starts the DELAY or is missed (R236, R244). -/
def execGaugeTrigger (fc n : Nat) (s : State) : Host.Outcome State Fault Refusal :=
  let s := s.at fc
  let x := s.gauX n
  let due := match s.act (F.GAU_SEQ_TRIG_SRC n) with
    | 1 => s.fc == 0 && s.turn.toNat % s.act (F.GAU_PERIOD_PERIOD n) == 0 && x.turnTrig != some s.ticks
    | 2 => x.trig
    | _ => false
  let go (s : State) : State :=
    let s := s.setGau n { x with trig := false, turnTrig := if s.fc = 0 then some s.ticks else x.turnTrig }
    if x.cal.isSome then s
    else if x.seq ≠ .idle then s.bump (F.GAU_COUNT_TRIG_MISS n) 1
    else
      (s.setGau n { s.gauX n with seq := .delay (s.now + 96 * s.act (F.GAU_SEQ_DELAY n)) }).syncGau n
  okIf (n < 4) (if s.gauRuns && s.actB (F.GAU_SEQ_EN n) && due then go s else s)

/-- GAUGE_DELAY_END (R236). -/
def execGaugeDelayEnd (fc n : Nat) (s : State) : Host.Outcome State Fault Refusal :=
  let s := s.at fc
  let x := s.gauX n
  okIf (n < 4) (match x.seq with
    | .delay due =>
      if !s.gauRuns || s.now < due then s
      else if x.inj.isSome then ((s.setGau n { x with seq := .late }).bump (F.GAU_COUNT_LATE n) 1).syncGau n
      else if x.tail then s.setGau n { x with seq := .late }
      else s.seqStart n
    | _ => s)

/-! ### Results (R233, R238 to R241) -/

/-- An input at the converter in microvolts, as a numerator and a denominator (Table 9.1), from what is there at its source: microvolts of
an AIN, of VIN or of a rail, thousandths of a °C at the power-die sensor, mA of a regulator; the reference and ground are what they are. -/
def gauInput (input : Nat) (v : Int) : Int × Nat :=
  if input = 48 then (v, 20)
  else if input = 49 then (500000 + 2 * v, 1)
  else if input = 54 then (v, 2)
  else if input = 55 then (600000, 1)
  else if 56 ≤ input ∧ input ≤ 58 then (15 * v, 1)
  else if 59 ≤ input then (0, 1)
  else (v, 1)

/-- The code of an input of `uv.1 / uv.2` microvolts at gain code `g`, and whether it is out of range. -/
def gauCode (g : Nat) (uv : Int × Nat) : Nat × Bool :=
  let v := uv.1 * 2 ^ g
  if v < 0 then (0, true)
  else if 1200000 * (uv.2 : Int) < v then (4095, true)
  else (min 4095 (v * 4096 / (1200000 * (uv.2 : Int))).toNat, false)

/-- A feedback or feed-forward sum has completed: the supply loops that take it (R272, R274, R278). -/
def State.loopSample (s : State) (n e sum k : Nat) (ovr : Bool) : State :=
  let f (l : LoopX) (i : Nat) : LoopX :=
    if !s.actB (F.CTL_LOOP_CFG_EN i) then l
    else
      let l := if s.actB (F.CTL_LOOP_CFG_FF_EN i) && s.act (F.CTL_LOOP_CFG_VIN_GAU i) == n && s.act (F.CTL_LOOP_CFG_VIN_ENT i) == e
        then { l with ff := if ovr then l.ff else some (sum * 16 / 2 ^ k), ffOvr := ovr, ffNew := l.ffNew || (l.started && !ovr) } else l
      if s.act (F.CTL_LOOP_CFG_FB_GAU i) == n && s.act (F.CTL_LOOP_CFG_FB_ENT i) == e && s.running && !s.flag F.CTL_STATUS_HALTED &&
        !s.blockHeld .control && !s.railDown 3
        then { l with samples := l.samples ++ [(sum, k, ovr, s.now)] } else l
  { s with ctl := { s.ctl with loops := s.ctl.loops.map (fun p => (p.1, f p.2 p.1)) } }

/-- A result enters its entry's accumulator (R239). -/
def State.accumulate (s : State) (n e code : Nat) (ovr settling : Bool) : State :=
  let x := s.gauX n
  let (sum, o, t) := sparseGet (0, false, false) x.sums e
  let (sum, o, t) := (sum + code, o || ovr, t || settling)
  let k := s.act (F.GAU_ENT_CFG_ACC_N n e)
  let cnt := s.get (F.GAU_ENT_STATE_PARTIAL n e) + 1
  if cnt < 2 ^ k then
    (s.setGau n { x with sums := sparseSet (0, false, false) x.sums e (sum, o, t) }).put (F.GAU_ENT_STATE_PARTIAL n e) cnt
  else
    let s := s.setGau n { x with sums := sparseSet (0, false, false) x.sums e (0, false, false) }
    let s := if s.flag (F.GAU_ENT_ACC_NEW n e) then s.putB (F.GAU_ENT_ACC_OVERWRITTEN n e) true else s
    let s := ((s.put (F.GAU_ENT_ACC_SUM n e) sum).putB (F.GAU_ENT_ACC_OVR n e) o).putB (F.GAU_ENT_ACC_SETTLING n e) t
    let s := ((s.putB (F.GAU_ENT_ACC_NEW n e) true).put (F.GAU_ENT_ACC_N n e) k).put (F.GAU_ENT_STATE_PARTIAL n e) 0
    let s := s.put (F.GAU_ENT_STATE_COMPLETIONS n e) (s.get (F.GAU_ENT_STATE_COMPLETIONS n e) + 1)
    s.loopSample n e sum k o

/-- The window comparator of an entry: its next state and whether the flag is set (R241). -/
def windowStep (st code lo hi hyst : Nat) (ovr : Bool) : Nat × Bool :=
  match st with
  | 1 => if code < lo then (2, true) else if code + hyst ≤ hi then (0, false) else (1, false)
  | 2 => if hi < code then (1, true) else if lo + hyst ≤ code then (0, false) else (2, false)
  | _ =>
    if hi < code ∨ (ovr ∧ code = 4095) then (1, true) else if code < lo ∨ (ovr ∧ code = 0) then (2, true) else (0, false)

def winFlag (n : Nat) : Field := if n < 2 then F.GAU_WIN_FLAG0_FLAG else F.GAU_WIN_FLAG1_FLAG

/-- A result at its entry's window: a flag that goes from 0 to 1 raises interrupt source 1. -/
def State.window (s : State) (n e code : Nat) (ovr : Bool) : State :=
  if !s.actB (F.GAU_ENT_CFG_WIN_EN n e) then s
  else
    let (st, set) := windowStep (s.get (F.GAU_ENT_STATE_WIN n e)) code (s.act (F.GAU_ENT_WIN_WIN_LO n e))
      (s.act (F.GAU_ENT_WIN_WIN_HI n e)) (s.act (F.GAU_ENT_WIN_HYST n e)) ovr
    let s := s.put (F.GAU_ENT_STATE_WIN n e) st
    let i := 16 * (n % 2) + e
    let was := s.getBit (winFlag n) i
    let s := if set then s.putBit (winFlag n) i true else s
    if set && !was then s.irq 1 else s

/-- GAU_OVR is live while the latest result of any enabled entry carries OVR (Table 9.4). -/
def State.syncGauOvr (s : State) : State :=
  s.live 26 ((List.range 4).any (fun n => s.actB (F.GAU_SEQ_EN n) &&
    (List.range (s.act (F.GAU_SEQ_LEN n))).any (fun e => s.flag (F.GAU_ENT_STATE_LAST_OVR n e))))

/-- One result in its entry's three stores. -/
def State.gauResult (s : State) (n e code : Nat) (ovr settling : Bool) : State :=
  let s := s.accumulate n e code ovr settling
  let s := (s.put (F.GAU_ENT_TRACK_MIN n e) (min code (s.get (F.GAU_ENT_TRACK_MIN n e)))).put (F.GAU_ENT_TRACK_MAX n e)
    (max code (s.get (F.GAU_ENT_TRACK_MAX n e)))
  let s := s.window n e code ovr
  let s := if ovr && !s.flag (F.GAU_ENT_STATE_LAST_OVR n e) then s.raise 26 else s
  ((s.putB (F.GAU_ENT_STATE_LAST_OVR n e) ovr).putB (F.GAU_ENT_STATE_LAST_SETTLING n e) settling).syncGauOvr

/-- CONVERSION_END: the conversion in progress completes, with `v` at the source of its entry's INPUT, in the unit of `gauInput`; the next
entry of the sequence, or a sequence that waited, goes on at once (R232, R235, R236). -/
def execConversionEnd (fc n : Nat) (v : Int) (s : State) : Host.Outcome State Fault Refusal :=
  let s := s.at fc
  let x := s.gauX n
  let run (s : State) (e : Nat) : State :=
    let (code, ovr) := gauCode (s.act (F.GAU_ENT_CFG_GAIN n e)) (gauInput (s.act (F.GAU_ENT_CFG_INPUT n e)) v)
    let s := s.setGau n { x with lastEnd := some s.now, lastOvr := ovr && !x.discard, discard := false }
    if x.discard then s else s.gauResult n e code ovr x.settling
  okIf (n < 4) (
    if !s.gauRuns || !x.converting || s.now < x.endAt then s
    else match x.inj with
      | some e =>
        let s := run s e
        let s := s.setGau n { s.gauX n with inj := none }
        if x.seq = .late then s.seqStart n else s.syncGau n
      | none =>
        if x.tail then
          let s := s.setGau n { x with lastEnd := some s.now, lastOvr := false, discard := false, tail := false }
          if x.seq = .late then s.seqStart n else s.syncGau n
        else match x.seq with
        | .run e =>
          let s := run s e
          if e + 1 < s.act (F.GAU_SEQ_LEN n) then
            ((s.setGau n { s.gauX n with seq := .run (e + 1) }).convStart n (e + 1) s.now).syncGau n
          else (s.setGau n { s.gauX n with seq := .idle }).syncGau n
        | _ => s)

/-! ### Injection and self-calibration (R242 to R244) -/

/-- A dropped or abandoned injection. -/
def State.injDrop (s : State) (n : Nat) : State := (s.bump (F.GAU_COUNT_INJ_DROP n) 1).raise 27

/-- Request an injected conversion of entry `e`: it starts in the next fc where the converter is idle (R242); during a calibration, that of
start-up too, it is dropped (R244). -/
def State.inject (s : State) (n e : Nat) : State :=
  let x := s.gauX n
  if x.cal.isSome then s.injDrop n
  else if !s.gauRuns then s
  else if x.converting then s.injDrop n
  else ((s.setGau n { x with inj := some e }).convStart n e (s.now + 1)).syncGau n

/-- INJ_GO: a write of GAUn_CTRL with INJ_GO and INJ_ENTRY. -/
def execInjGo (fc n e : Nat) (s : State) : Host.Outcome State Fault Refusal :=
  let s := s.at fc
  okIf (n < 4 && e < 16) ((s.put (F.GAU_CTRL_INJ_ENTRY n) e).inject n e)

/-- A calibration starts in the next fc: what the converter was doing is abandoned, and its sequence is suspended. -/
def State.gauCal (s : State) (n start : Nat) : State :=
  let x := s.gauX n
  if x.cal.isSome then s
  else
    let s := s.setGau n { x with cal := some start, seq := .idle, inj := none, tail := false, fresh := true, trig := false }
    (if x.inj.isSome then s.injDrop n else s).syncGau n

/-- SELF_CAL: a write of 1; ignored while a calibration runs (R243). -/
def execSelfCal (fc n : Nat) (s : State) : Host.Outcome State Fault Refusal :=
  let s := s.at fc
  okIf (n < 4) (if s.gauRuns then s.gauCal n (s.now + 1) else s)

/-- The automatic calibrations on release of a reset (R243). -/
def State.gauCalAll (s : State) : State := s.each [0, 1, 2, 3] (fun s n => s.gauCal n s.now)

/-- GAUGE_SELF_CAL_END: 24,000 Gauge clocks have passed; `offset` in 1/16 LSB and `gain` in 1/32,768 are what it found. -/
def execGaugeSelfCalEnd (fc n : Nat) (offset : Int) (gain : Nat) (s : State) : Host.Outcome State Fault Refusal :=
  let s := s.at fc
  let x := s.gauX n
  let fin (s : State) : State :=
    let s := (s.setGau n { x with cal := none, lastEnd := some s.now, lastOvr := false, fresh := true }).syncGau n
    let ok := decide (-256 ≤ offset) && decide (offset ≤ 256) && decide (19 * 32768 ≤ 20 * gain) && decide (20 * gain ≤ 21 * 32768)
    let s := if ok then
        let s := ((s.puti (F.GAU_CAL_OFFSET_OFFSET n) offset).put (F.GAU_CAL_GAIN_GAIN n) gain).putB (F.GAU_STATE_CAL_FAILED n) false
        (s.putBit F.GAU_STATUS_CAL_VALID n true).putB (F.GAU_STATE_CAL_VALID n) true
      else (s.putB (F.GAU_STATE_CAL_FAILED n) true).raise 28
    s.live 28 ([0, 1, 2, 3].any (fun i => s.flag (F.GAU_STATE_CAL_FAILED i)))
  okIf (n < 4 && gain < 65536) (match x.cal with
    | some t => if t + 2304000 ≤ s.now then fin s else s
    | none => s)

/-! ### Swaps and GAUGE_READ (R245, R246) -/

/-- The fields whose change changes a converter's sequence. -/
def gauFields (n : Nat) : List Field :=
  [F.GAU_SEQ_EN n, F.GAU_SEQ_LEN n, F.GAU_SEQ_TRIG_SRC n, F.GAU_SEQ_PWM_LINE n, F.GAU_SEQ_DELAY n, F.GAU_PERIOD_PERIOD n] ++
  (List.range 16).flatMap (fun i => [F.GAU_ENT_CFG_INPUT n i, F.GAU_ENT_CFG_GAIN n i, F.GAU_ENT_CFG_SAMP n i,
    F.GAU_ENT_CFG_ACC_N n i, F.GAU_ENT_CFG_WIN_EN n i, F.GAU_ENT_WIN_WIN_LO n i, F.GAU_ENT_WIN_WIN_HI n i, F.GAU_ENT_WIN_HYST n i])

def Plan.differs (p q : Plan) (l : List Field) : Bool := l.any (fun f => p.get f != q.get f)

/-- Clear the accumulator, tracker and window state of an entry. -/
def State.clearEntry (s : State) (n i : Nat) : State :=
  s.each [F.GAU_ENT_ACC_SUM n i, F.GAU_ENT_ACC_OVR n i, F.GAU_ENT_ACC_SETTLING n i, F.GAU_ENT_ACC_NEW n i,
    F.GAU_ENT_ACC_OVERWRITTEN n i, F.GAU_ENT_ACC_N n i, F.GAU_ENT_STATE_WIN n i, F.GAU_ENT_STATE_LAST_OVR n i,
    F.GAU_ENT_STATE_LAST_SETTLING n i, F.GAU_ENT_STATE_PARTIAL n i, F.GAU_ENT_STATE_COMPLETIONS n i, F.GAU_ENT_TRACK_MIN n i,
    F.GAU_ENT_TRACK_MAX n i] (fun s f => s.put f f.reset)

/-- A swap has committed: every converter whose sequence changed starts afresh (R245). -/
def State.gaugeSwap (s : State) (old : Plan) : State :=
  let s := s.each [0, 1, 2, 3] (fun s n =>
    if !old.differs s.active (gauFields n) then s
    else
      let x := s.gauX n
      let s := s.setGau n { x with seq := .idle, discard := x.converting, tail := x.converting && x.inj.isNone, fresh := true,
                                   trig := false, sums := [] }
      (s.each (List.range 16) (fun s i => s.clearEntry n i)).syncGau n)
  s.syncGauOvr

/-- The words of one entry, with the side effects of reading them (R240, R246). -/
def State.gaugeRecord (s : State) (k : Nat) : List Byte × State :=
  let n := k / 16
  let i := k % 16
  let acc := s.get (F.GAU_ENT_ACC_SUM n i) + 2 ^ 22 * s.get (F.GAU_ENT_ACC_OVR n i) + 2 ^ 23 * s.get (F.GAU_ENT_ACC_SETTLING n i) +
    2 ^ 24 * s.get (F.GAU_ENT_ACC_NEW n i) + 2 ^ 25 * s.get (F.GAU_ENT_ACC_OVERWRITTEN n i) + 2 ^ 26 * s.get (F.GAU_ENT_ACC_N n i)
  let st := s.get (F.GAU_ENT_STATE_WIN n i) + 4 * s.get (F.GAU_ENT_STATE_LAST_OVR n i) + 8 * s.get (F.GAU_ENT_STATE_LAST_SETTLING n i) +
    16 * s.get (F.GAU_ENT_STATE_PARTIAL n i) + 2 ^ 16 * s.get (F.GAU_ENT_STATE_COMPLETIONS n i)
  let tr := s.get (F.GAU_ENT_TRACK_MIN n i) + 2 ^ 16 * s.get (F.GAU_ENT_TRACK_MAX n i)
  let s := (s.putB (F.GAU_ENT_ACC_NEW n i) false).putB (F.GAU_ENT_ACC_OVERWRITTEN n i) false
  (leBytes acc 4 ++ leBytes st 4 ++ leBytes tr 4 ++ [BitVec.ofNat 8 k, 0, 0, 0],
   (s.put (F.GAU_ENT_TRACK_MIN n i) 0xFFF).put (F.GAU_ENT_TRACK_MAX n i) 0)

/-- The records of the entries named, in order. -/
def State.gaugeRecords (s : State) : List Nat → List Byte × State
  | [] => ([], s)
  | k :: t =>
    let (b, s) := s.gaugeRecord k
    let (c, s) := s.gaugeRecords t
    (b ++ c, s)

/-- The Gauge goes into reset: everything but the calibration factors returns to its reset value, and its lines are not live
(R243, R302). -/
def State.gauHold (s : State) : State :=
  let s := s.each [0, 1, 2, 3] (fun s n =>
    let s := s.each (List.range 16) (fun s i => s.clearEntry n i)
    let s := s.each [F.GAU_CTRL_INJ_ENTRY n, F.GAU_STATE_STATE n, F.GAU_STATE_ENTRY n, F.GAU_STATE_CAL_VALID n,
      F.GAU_STATE_CAL_FAILED n, F.GAU_COUNT_INJ_DROP n, F.GAU_COUNT_TRIG_MISS n, F.GAU_COUNT_LATE n] (fun s f => s.put f f.reset)
    s.setGau n gauNone)
  let s := s.each [F.GAU_STATUS_SEQ_BUSY, F.GAU_STATUS_CAL_BUSY, F.GAU_STATUS_CAL_VALID, F.GAU_WIN_FLAG0_FLAG, F.GAU_WIN_FLAG1_FLAG]
    (fun s f => s.put f f.reset)
  (s.live 26 false).live 28 false

end Sys2Proof.Machine
end

