-- ==== Sys2Proof/Machine/Pwm.lean ====
section
/-! DEFINITION. The Drive PWM (spec/10): the carrier, loads and clamps, pulses with dead times and minima, masks, trips, freezes,
the interrupt and the trigger lines. Output 2n is DRVnA and 2n + 1 is DRVnB; one count cycle is 2 fc, and 8 fine steps are 1 fc: of a fine
delay the whole fc are kept (log entry 49). -/
namespace Sys2Proof.Machine

def State.out (s : State) (o : Nat) : PwmOut := sparseGet outNone s.pwm.outs o
def State.setOut (s : State) (o : Nat) (x : PwmOut) : State := s.setPwm { s.pwm with outs := sparseInsert s.pwm.outs o x }
def State.pair (s : State) (n : Nat) : PwmPair := sparseGet pairNone s.pwm.pairs n
def State.setPwmPair (s : State) (n : Nat) (x : PwmPair) : State := s.setPwm { s.pwm with pairs := sparseInsert s.pwm.pairs n x }
def allOuts : List Nat := List.range 16
def allPairs : List Nat := List.range 8
/-- The other output of the pair. -/
def partner (o : Nat) : Nat := if o % 2 = 0 then o + 1 else o - 1
def State.pwmRunning (s : State) : Bool := s.flag F.PWM_STATUS_RUNNING
def State.pwmFrozen (s : State) : Bool := s.pwm.frozenAt.isSome

/-- Drive an output to a level. -/
def State.level (s : State) (o : Nat) (b : Bool) : State :=
  let x := s.out o
  if x.level = b then s.setOut o { x with rise := none, fall := none }
  else s.setOut o { x with level := b, since := s.now, rise := none, fall := none }

/-! ### Precedence (R261, R263, R265) -/

def State.tstate (s : State) (o : Nat) : Bool := let p := s.pair (o / 2); if o % 2 = 0 then p.tsA else p.tsB
def State.mstate (s : State) (o : Nat) : Nat := let p := s.pair (o / 2); if o % 2 = 0 then p.msA else p.msB
/-- A trip in force names the output. -/
def State.tripped (s : State) (o : Nat) : Bool := s.pwm.trips.any (fun k => bit (s.act (F.PWM_TRIP_CFG_GROUP k)) o)
/-- A trip drives the partner high, and so this output low (R251, R263). -/
def State.tripLow (s : State) (o : Nat) : Bool := s.tripped (partner o) && s.tstate (partner o)
/-- The level that masks give an output, if they do: PAIR_LOW and a partner that is HIGH drive it low too (R261). -/
def State.maskLevel (s : State) (o : Nat) : Option Bool :=
  let mine := if (s.out o).inMask then some (s.mstate o) else none
  let other := if (s.out (partner o)).inMask then some (s.mstate (partner o)) else none
  match mine, other with
  | _, some 2 => some false
  | some 1, _ => some true
  | some _, _ => some false
  | none, some 1 => some false
  | none, _ => none

/-- Dead time before an output rises, in fc. -/
def State.deadTime (s : State) (o : Nat) : Nat :=
  2 * s.get (if o % 2 = 0 then F.PWM_PAIR_EDGE_NOW_DT_A (o / 2) else F.PWM_PAIR_EDGE_NOW_DT_B (o / 2))

/-- The carrier controls the output (row 7 of Table 10.3). -/
def State.carrierHas (s : State) (o : Nat) : Bool :=
  !s.flag F.PWM_STATUS_CLK_DRIVE && !s.tripped o && !s.tripLow o && !s.pwmFrozen && 2 ≤ s.pstate && !s.blockHeld .pwm && (s.pair (o / 2)).en &&
      (s.maskLevel o).isNone

/-- Make a fall that is due. -/
def State.settleFall (s : State) (o : Nat) : State :=
  match (s.out o).fall with
  | some t => if s.now < t ∨ s.pwmFrozen then s else s.setOut o { s.out o with level := false, since := t, fall := none }
  | none => s
/-- Let an output fall at `t`. -/
def State.fallAt (s : State) (o t : Nat) : State :=
  if (s.out o).level then (s.setOut o { s.out o with rise := none, fall := some t }).settleFall o
  else s.setOut o { s.out o with rise := none }
def State.settleFalls (s : State) : State := s.each allOuts State.settleFall

/-- Make a rise that is due, unless the partner is high: a pair never has both outputs high (R251). -/
def State.settleRise (s : State) (o : Nat) : State :=
  let s := s.settleFall (partner o)
  match (s.out o).rise with
  | some t =>
    if s.now < t ∨ s.pwmFrozen then s
    else if (s.out (partner o)).level then s.setOut o { s.out o with rise := none }
    else s.level o true
  | none => s

/-- Let an output rise at `t`. -/
def State.riseAt (s : State) (o t : Nat) : State :=
  if (s.out o).level then s else (s.setOut o { s.out o with rise := some t }).settleRise o

/-- Put an output at the level of the first row of Table 10.3 that applies; the carrier's own edges are made elsewhere. -/
def State.drive (s : State) (o : Nat) : State :=
  if s.flag F.PWM_STATUS_CLK_DRIVE || s.tripped o then s.level o (s.tstate o)
  else if s.tripLow o then s.level o false
  else if s.blockHeld .pwm then s.level o (s.tstate o)
  else if s.pwmFrozen then s
  else if s.pstate ≤ 1 then s.level o (s.tstate o)
  else if !(s.pair (o / 2)).en then s.level o false
  else match s.maskLevel o with
    | some false => s.level o false
    | some true => s.riseAt o (max s.now ((s.out (partner o)).since + s.deadTime o))
    | none => s

/-- Settle both outputs of every pair, first those that go low. -/
def State.driveAll (s : State) : State :=
  let s := s.each (allOuts.filter (fun o => !(s.tstate o) || s.tripLow o || (s.maskLevel o) == some false)) State.drive
  let s := s.each allOuts State.drive
  let s := s.put F.PWM_STATUS_TRIPPED (allPairs.foldl (fun a n => if s.tripped (2 * n) || s.tripped (2 * n + 1) then a + 2 ^ n else a) 0)
  s.live 25 (s.flag F.PWM_TRIP_STATUS_LIVE || !s.pwm.trips.isEmpty)

/-! ### Edges of P (R249 to R253, R262) -/

/-- The delay of an edge of P, in fc (R250). -/
def State.fineA (s : State) (n : Nat) : Nat := s.get (F.PWM_PAIR_EDGE_NOW_FINE_A n) / 8
def State.fineB (s : State) (n : Nat) : Nat := s.get (F.PWM_PAIR_EDGE_NOW_FINE_B n) / 8

/-- P rises: output B falls, and A rises after DT_A, not before `notBefore` (R253). -/
def State.pRise (s : State) (n notBefore : Nat) : State :=
  let s := s.setPwmPair n { s.pair n with p := true }
  let a := 2 * n
  let b := 2 * n + 1
  let t := s.now + s.fineA n
  let s := if s.carrierHas b && !(s.out b).resume then s.fallAt b t else s
  if !s.carrierHas a then s
  else
    let s := s.setOut a { s.out a with resume := false }
    s.riseAt a (max (t + s.deadTime a) notBefore)

/-- P falls: output A falls, and B rises after DT_B unless R252 keeps it low. -/
def State.pFall (s : State) (n : Nat) : State :=
  let t := s.now + s.fineB n
  let s := s.setPwmPair n { s.pair n with p := false, fell := t }
  let a := 2 * n
  let b := 2 * n + 1
  let s := if s.carrierHas a && !(s.out a).resume then s.fallAt a t else s
  if !s.carrierHas b then s
  else
    let s := s.setOut b { s.out b with resume := false }
    if (s.pair n).mode = 3 then s else s.riseAt b (t + s.deadTime b)

/-! ### The interrupt and the trigger lines (R269, R270) -/

/-- One counted event at the interrupt. -/
def State.pwmIrqEvent (s : State) : State :=
  let n := s.pwm.irqCnt + 1
  if n ≤ s.act F.PWM_IRQ_CFG_PRESCALE then s.setPwm { s.pwm with irqCnt := n }
  else
    let s := s.setPwm { s.pwm with irqCnt := 0 }
    if s.flag F.PWM_IRQ_STATUS_FLAG then (s.putB F.PWM_IRQ_STATUS_FLAG true).bump F.PWM_IRQ_STATUS_OVERRUN 1
    else (s.putB F.PWM_IRQ_STATUS_FLAG true).irq 2

/-- One counted event at a trigger line. -/
def State.lineEvent (s : State) (l : Nat) : State :=
  match sparseGet (0, none) s.pwm.lines l with
  | (_, some _) => s.bump F.PWM_TRG_STATUS_MISSED 1
  | (c, none) =>
    let e := if c < s.act (F.PWM_TRG_CFG_PRESCALE l) then (c + 1, none)
      else (0, some (s.now + 2 * s.act (F.PWM_TRG_CFG_DELAY l)))
    s.setPwm { s.pwm with lines := sparseInsert s.pwm.lines l e }

/-- An event of kind 0 ZERO, 1 TOP, 2 CMPA or 3 CMPB; of every pair, or of one. -/
def State.pwmEvent (s : State) (kind : Nat) (pair : Option Nat) : State :=
  let mine (n : Nat) : Bool := match pair with | some p => p == n | none => true
  let on_ := s.actB (match kind with | 0 => F.PWM_IRQ_CFG_ZERO | 1 => F.PWM_IRQ_CFG_TOP | 2 => F.PWM_IRQ_CFG_CMPA | _ => F.PWM_IRQ_CFG_CMPB)
  let s := if on_ && mine (s.act F.PWM_IRQ_CFG_PAIR) then s.pwmIrqEvent else s
  let ls := (List.range 16).filter (fun l => s.actB (F.PWM_TRG_CFG_EN l) && s.act (F.PWM_TRG_CFG_EVENT l) == kind &&
    mine (s.act (F.PWM_TRG_CFG_PAIR l)) && (s.pair (s.act (F.PWM_TRG_CFG_PAIR l))).en)
  s.each ls State.lineEvent

/-- PWM_TRIGGER_LINE: a line's DELAY has expired, and it raises a Gauge trigger (R236, R270). -/
def execPwmTriggerLine (fc l : Nat) (s : State) : Host.Outcome State Fault Refusal :=
  let s := s.at fc
  okIf (l < 16) (match sparseGet (0, none) s.pwm.lines l with
    | (c, some t) =>
      if s.now < t ∨ s.pwmFrozen then s
      else
        let s := s.setPwm { s.pwm with lines := sparseInsert s.pwm.lines l (c, none) }
        if !s.pwmRunning || !(s.pair (s.act (F.PWM_TRG_CFG_PAIR l))).en then s
        else
          let s := s.setPwm { s.pwm with raised := setBit s.pwm.raised l true }
          s.each [0, 1, 2, 3] (fun s n =>
            if s.actB (F.GAU_SEQ_EN n) && s.act (F.GAU_SEQ_TRIG_SRC n) == 2 && s.act (F.GAU_SEQ_PWM_LINE n) == l then
              s.setGau n { s.gauX n with trig := true }
            else s)
    | _ => s)

/-! ### Loads and the carrier (R248, R252 to R259) -/

/-- The Plan's configuration of a pair. -/
def Plan.pairCfg (p : Plan) (n : Nat) (x : PwmPair) : PwmPair :=
  { x with en := p.on (F.PWM_PAIR_CFG_EN n), owner := p.on (F.PWM_PAIR_CFG_OWNER n),
           minOn := p.get (F.PWM_PAIR_CFG_MIN_ON n), minOff := p.get (F.PWM_PAIR_CFG_MIN_OFF n),
           msA := p.get (F.PWM_PAIR_CFG_MSTATE_A n), msB := p.get (F.PWM_PAIR_CFG_MSTATE_B n),
           tsA := p.on (F.PWM_PAIR_CFG_TSTATE_A n), tsB := p.on (F.PWM_PAIR_CFG_TSTATE_B n) }

/-- The pairs' configuration of a Plan. -/
def State.cfgOf (s : State) (q : Plan) : List PwmPair := allPairs.map (fun n => q.pairCfg n (s.pair n))
/-- Take a configuration of the pairs into use (R259). -/
def State.useCfg (s : State) (l : List PwmPair) : State :=
  s.each allPairs (fun s n =>
    let x := l.getD n pairNone
    s.setPwmPair n { s.pair n with en := x.en, owner := x.owner, minOn := x.minOn, minOff := x.minOff, msA := x.msA, msB := x.msB,
                                   tsA := x.tsA, tsB := x.tsB })
def State.takeCfg (s : State) : State := s.useCfg (s.cfgOf s.active)

/-- The staged values of a pair, each with the field it loads into. -/
def stagedOf (n : Nat) : List (Field × Field) :=
  [(F.PWM_PAIR_CMP_STG_CMPA n, F.PWM_PAIR_CMP_NOW_CMPA_NOW n), (F.PWM_PAIR_CMP_STG_CMPB n, F.PWM_PAIR_CMP_NOW_CMPB_NOW n),
   (F.PWM_PAIR_EDGE_STG_DT_A n, F.PWM_PAIR_EDGE_NOW_DT_A n), (F.PWM_PAIR_EDGE_STG_DT_B n, F.PWM_PAIR_EDGE_NOW_DT_B n),
   (F.PWM_PAIR_EDGE_STG_FINE_A n, F.PWM_PAIR_EDGE_NOW_FINE_A n), (F.PWM_PAIR_EDGE_STG_FINE_B n, F.PWM_PAIR_EDGE_NOW_FINE_B n)]
/-- What there is to load: the armed bits, the staged values, and the configuration of a Plan. -/
def State.sampleNow (s : State) (q : Plan) : Nat × List Nat × List PwmPair :=
  (s.get F.PWM_LOAD_PENDING_PENDING,
   s.get F.PWM_PERIOD_STG_PERIOD_STG :: allPairs.flatMap (fun n => (stagedOf n).map (fun e => s.get e.1)), s.cfgOf q)
/-- Before a write lands: where the time of a carrier zero has come, what it loads is what stood before (R255). -/
def State.pwmSample (s : State) (q : Plan) : State :=
  if !s.pwmRunning || s.pwmFrozen || s.now < s.pwm.nextZero || s.pwm.sampled.isSome then s
  else s.setPwm { s.pwm with sampled := some (s.sampleNow q), armed := 0 }

/-- Clamp a pair's compares to PERIOD (R257). -/
def State.clampPair (s : State) (n : Nat) : State :=
  let p := s.get F.PWM_PERIOD_STG_PERIOD_NOW
  let a := s.get (F.PWM_PAIR_CMP_NOW_CMPA_NOW n)
  let b := s.get (F.PWM_PAIR_CMP_NOW_CMPB_NOW n)
  let s := s.setPwmPair n { s.pair n with clampA := (s.pair n).clampA || decide (p < a), clampB := (s.pair n).clampB || decide (p < b) }
  if a ≤ p ∧ b ≤ p then s
  else
    let s := (s.put (F.PWM_PAIR_CMP_NOW_CMPA_NOW n) (min a p)).put (F.PWM_PAIR_CMP_NOW_CMPB_NOW n) (min b p)
    (s.putBit F.PWM_FLAGS_CLAMP n true).bump (F.PWM_PAIR_COUNT_CLAMPS n) 1

/-- Every armed value loads together (R254); a compare no longer above PERIOD after a load of it or of PERIOD is no more a clamped one. -/
def State.pwmLoad (s : State) : State :=
  let q := s.pwm.sampled.getD (s.sampleNow s.active)
  let m := q.1
  let s := (s.setPwm { s.pwm with sampled := none, armed := 0 }).put F.PWM_LOAD_PENDING_PENDING (if s.pwm.sampled.isSome then s.pwm.armed else 0)
  let s := s.useCfg q.2.2
  if m = 0 then s
  else
    let period := s.get F.PWM_PERIOD_STG_PERIOD_NOW
    let s := if bit m 8 then s.put F.PWM_PERIOD_STG_PERIOD_NOW (q.2.1.headD 0) else s
    let s := s.each (allPairs.filter (bit m)) (fun s n =>
      let s := s.setPwmPair n { s.pair n with clampA := false, clampB := false }
      s.each (stagedOf n).zipIdx (fun s e => s.put e.1.2 (q.2.1.getD (1 + 6 * n + e.2) 0)))
    let s := if s.get F.PWM_PERIOD_STG_PERIOD_NOW ≤ period then s
      else s.each allPairs (fun s n => s.setPwmPair n { s.pair n with clampA := false, clampB := false })
    s.each allPairs State.clampPair

/-- How R252 alters the coming period of a pair. -/
def pulseMode (period h dtA dtB minOn minOff : Nat) : Nat :=
  if (h : Int) - dtA < minOn then 1
  else if 2 * (period : Int) - h + dtA < minOff then 2
  else if 2 * (period : Int) - h - dtB < minOn then 3
  else 0

/-- A period of an enabled pair begins. -/
def State.periodStart (s : State) (n : Nat) : State :=
  let p := s.get F.PWM_PERIOD_STG_PERIOD_NOW
  let ca := s.get (F.PWM_PAIR_CMP_NOW_CMPA_NOW n)
  let cb := s.get (F.PWM_PAIR_CMP_NOW_CMPB_NOW n)
  let x := s.pair n
  let mode := pulseMode p (ca + cb) (s.get (F.PWM_PAIR_EDGE_NOW_DT_A n)) (s.get (F.PWM_PAIR_EDGE_NOW_DT_B n)) x.minOn x.minOff
  let s := if mode = 0 then s else (s.putBit F.PWM_FLAGS_MIN n true).bump (F.PWM_PAIR_COUNT_MIN_SKIPS n) 1
  let s := s.setPwmPair n { x with mode := mode }
  let match_ (isB clamp : Bool) (t : Nat) : List PwmMatch :=
    if clamp then [⟨n, isB, t, true, false⟩, ⟨n, isB, s.now + 2 * p, false, true⟩] else [⟨n, isB, t, true, true⟩]
  let ms := match_ false x.clampA (s.now + 2 * (p - ca)) ++ match_ true x.clampB (s.now + 2 * (p + cb))
  let s := s.setPwm { s.pwm with matches_ := s.pwm.matches_ ++ ms }
  if mode = 2 then (if x.p then s else s.pRise n ((s.out (2 * n)).since + 2 * x.minOff))
  else if x.p then s.pFall n
  else
    -- P is low at the zero: A is low, and B high from DT_B after the fall of P
    let a := 2 * n
    let b := 2 * n + 1
    let wasHigh := (s.out a).level
    let s := if s.carrierHas a && !(s.out a).resume then s.level a false else s
    if s.carrierHas b && mode = 3 then (if (s.out b).resume then s else s.level b false)
    else if s.carrierHas b && !(s.out b).resume && (s.out b).rise.isNone then
      s.riseAt b (max s.now ((if wasHigh then s.now else (s.pair n).fell) + s.deadTime b))
    else s

/-- Trips whose input is inactive and whose latch is clear end at a carrier zero (R264). -/
def State.endTrips (s : State) : State :=
  let held := allOuts.filter s.tripped
  let s := s.setPwm { s.pwm with trips := s.pwm.trips.filter (fun k =>
    s.getBit F.PWM_TRIP_STATUS_LIVE k || s.getBit F.PWM_TRIP_STATUS_LATCHED k) }
  let s := s.each (held.filter (fun o => !s.tripped o)) (fun s o => s.setOut o { s.out o with resume := true, rise := none })
  s.driveAll

/-- No pair has a pulse, and none is held. -/
def State.pwmIdle (s : State) : State := s.each allPairs (fun s n => s.setPwmPair n { s.pair n with p := false, mode := 0 })

/-- CARRIER_ZERO (R252, R254, R259, R264). -/
def execCarrierZero (fc : Nat) (s : State) : Host.Outcome State Fault Refusal :=
  let s := s.at fc
  if !s.pwmRunning || s.pwmFrozen || s.now < s.pwm.nextZero then .next s
  else
    let s := (s.settleFalls.useCfg (s.pwm.sampled.getD (s.sampleNow s.active)).2.2).endTrips.pwmLoad
    let old := (s.pwm.matches_.filter (fun m => m.at_ == s.now)).map (fun m => { m with edge := false })
    let s := s.setPwm { s.pwm with matches_ := old }
    if s.pwm.stopping then
      let idle := s.pwm.lines.map (fun l => (l.1, l.2.1, none))
      let q := { s.pwm with stopping := false, matches_ := [], nextTop := none, lines := idle }
      .next ((s.setPwm q).pwmIdle.putB F.PWM_STATUS_RUNNING false)
    else
      let p := s.get F.PWM_PERIOD_STG_PERIOD_NOW
      let s := s.setPwm { s.pwm with nextTop := some (s.now + 2 * p), nextZero := s.now + 4 * p }
      let s := s.each allPairs (fun s n =>
        if (s.pair n).en then s.periodStart n else s.setPwmPair n { s.pair n with p := false, mode := 0 })
      .next (s.driveAll.pwmEvent 0 none)

/-- CARRIER_TOP (R248, R269). -/
def execCarrierTop (fc : Nat) (s : State) : Host.Outcome State Fault Refusal :=
  let s := s.at fc
  match s.pwm.nextTop with
  | some t =>
    if !s.pwmRunning || s.pwmFrozen || s.now < t then .next s
    else .next ((s.setPwm { s.pwm with nextTop := none }).pwmEvent 1 none)
  | none => .next s

/-- COMPARE_MATCH: the compare of CMPA on the up-count or CMPB on the down-count (R249, R252, R269). -/
def execCompareMatch (fc n : Nat) (isB : Bool) (s : State) : Host.Outcome State Fault Refusal :=
  let s := s.at fc
  okIf (n < 8) (match s.pwm.matches_.find? (fun m => m.pair == n && m.isB == isB && decide (m.at_ ≤ s.now)) with
    | none => s
    | some m =>
      if !s.pwmRunning || s.pwmFrozen then s
      else
        let s := s.setPwm { s.pwm with matches_ := s.pwm.matches_.filter (fun e => e != m) }
        let mode := (s.pair n).mode
        let s := s.settleFalls
        let s := if !m.edge || mode = 1 || mode = 2 then s else if isB then s.pFall n else s.pRise n 0
        if m.event then s.pwmEvent (if isB then 3 else 2) (some n) else s)

/-- DEAD_TIME_END: a rise that waited for its dead time, or a fall put off by a fine delay (R250, R251). -/
def execDeadTimeEnd (fc o : Nat) (s : State) : Host.Outcome State Fault Refusal :=
  let s := s.at fc
  okIf (o < 16) ((s.settleFall o).settleRise o)

/-! ### Masks (R260 to R262) -/

/-- Asserted masks that name an output. -/
def State.maskNames (s : State) (o : Nat) : Bool :=
  allPairs.any (fun m => s.getBit F.PWM_STATUS_MASKED m && bit (s.act (F.PWM_MASK_OUT_OUTPUTS m)) o)

/-- The time at which an output may enter its masked state: MIN_ON after its rise, MIN_OFF after the fall of an A; a mask that
drives the partner low cuts no pulse of it short either (R253, R261). -/
def State.maskFrom (s : State) (o : Nat) : Nat :=
  let x := s.out o
  let y := s.out (partner o)
  let p := s.pair (o / 2)
  let own := if x.level then x.since + 2 * p.minOn else if o % 2 = 0 then x.since + 2 * p.minOff else 0
  if s.mstate o != 0 && y.level then max own (y.since + 2 * p.minOn) else own

/-- Enter the masked state where its time has come. -/
def State.settleMask (s : State) (o : Nat) : State :=
  match (s.out o).enter with
  | some _ =>
    if s.pwmFrozen then s
    else if s.now < s.maskFrom o then s.setOut o { s.out o with enter := some (s.maskFrom o) }
    else
      let s := s.setOut o { s.out o with enter := none, inMask := true, rise := none }
      (s.drive (partner o)).drive o
  | none => s

/-- No mask names an output any more: it, and a partner that its masked state drove low, wait for their next carrier-driven edge (R262). -/
def State.unmask (s : State) (o : Nat) : State :=
  let x := s.out o
  let other := x.inMask && (s.mstate o == 1 || s.mstate o == 2)
  let s := s.setOut o { x with enter := none, inMask := false, rise := if x.inMask || x.enter.isSome then none else x.rise,
                               resume := x.resume || x.inMask }
  if other then s.setOut (partner o) { s.out (partner o) with resume := true, rise := none } else s

/-- A mask is asserted, or released: outputs no mask names any more resume at their next carrier-driven edge. -/
def State.setMask (s : State) (m : Nat) (on : Bool) : State :=
  if s.getBit F.PWM_STATUS_MASKED m == on || s.pwmFrozen then s
  else
    let s := s.putBit F.PWM_STATUS_MASKED m on
    let named := allOuts.filter (fun o => bit (s.act (F.PWM_MASK_OUT_OUTPUTS m)) o)
    if on then
      s.each (named.filter (fun o => !(s.out o).inMask && (s.out o).enter.isNone)) (fun s o =>
        (s.setOut o { s.out o with enter := some (s.maskFrom o) }).settleMask o)
    else
      s.each (named.filter (fun o => !s.maskNames o)) State.unmask

/-- MIN_INTERVAL_REACHED: an output that waited for MIN_ON or MIN_OFF reaches it (R253, R261). -/
def execMinIntervalReached (fc o : Nat) (s : State) : Host.Outcome State Fault Refusal :=
  let s := s.at fc
  okIf (o < 16) ((s.settleMask o).settleRise o)

/-! ### Trips (R263, R264) -/

/-- Activations of one input: a 6-bit lane of the count, saturating at 63. -/
def bumpLane (v k : Nat) : Nat := if bits v (6 * k) 6 = 63 then v else v + 2 ^ (6 * k)

/-- TRIP_ACTIVE: TRIPk becomes active. -/
def execTripActive (fc k : Nat) (s : State) : Host.Outcome State Fault Refusal :=
  let s := s.at fc
  let go (s : State) : State :=
    let s := (s.putBit F.PWM_TRIP_STATUS_LIVE k true).putBit F.PWM_FLAGS_TRIP k true
    let s := (s.put F.PWM_TRIP_COUNT_ACTIVATIONS (bumpLane (s.get F.PWM_TRIP_COUNT_ACTIVATIONS) k)).raise 25
    let s := if s.actB (F.PWM_TRIP_CFG_LATCH k) then s.putBit F.PWM_TRIP_STATUS_LATCHED k true else s
    (s.setPwm { s.pwm with trips := if s.pwm.trips.contains k then s.pwm.trips else s.pwm.trips ++ [k] }).driveAll
  okIf (k < 4) (if s.pwr.off || !s.actB (F.PWM_TRIP_CFG_EN k) || s.getBit F.PWM_TRIP_STATUS_LIVE k then s else go s)

/-- TRIP_INACTIVE: TRIPk becomes inactive; the trip itself ends at a carrier zero. -/
def execTripInactive (fc k : Nat) (s : State) : Host.Outcome State Fault Refusal :=
  let s := s.at fc
  okIf (k < 4) (s.putBit F.PWM_TRIP_STATUS_LIVE k false).driveAll

/-- TRIP_CLEAR: a write of `m` to the CLEAR bits, refused for inputs that are active. -/
def execTripClear (fc m : Nat) (s : State) : Host.Outcome State Fault Refusal :=
  let s := s.at fc
  .next ((s.each ((List.range 4).filter (bit m)) (fun s k =>
    if s.getBit F.PWM_TRIP_STATUS_LIVE k then s.bump F.PWM_TRIP_COUNT_REFUSED 1 else s.putBit F.PWM_TRIP_STATUS_LATCHED k false)).driveAll)

/-! ### Arming (R254, R255, R258) -/

/-- The pair belongs to a supply loop, by the configuration in use. -/
def State.owned (s : State) (n : Nat) : Bool := (s.pair n).owner

/-- Arm bits of LOAD_ALL; bits armed after a zero's sample wait for the next zero. -/
def State.arm (s : State) (m : Nat) : State :=
  (s.put F.PWM_LOAD_PENDING_PENDING (s.get F.PWM_LOAD_PENDING_PENDING ||| m)).setPwm
    { s.pwm with armed := if s.pwm.sampled.isSome then s.pwm.armed ||| m else s.pwm.armed }

/-- LOAD_ALL: a host write of `m` to PWM_LOAD; bits of pairs that a supply loop owns are ignored and counted. -/
def execLoadAll (fc m : Nat) (s : State) : Host.Outcome State Fault Refusal :=
  let s := (s.at fc).pwmSample s.active
  let drop := allPairs.filter (fun n => bit m n && s.owned n)
  let s := s.each drop (fun s n => s.bump (F.PWM_PAIR_COUNT_OWNED_DROPS n) 1)
  .next (s.arm (((List.range 9).filter (fun n => bit m n && !drop.contains n)).foldl (fun a n => a + 2 ^ n) 0))

/-! ### Power states, clocks and swaps (R259, R260, R266 to R268) -/

/-- The carrier restarts from zero on entry to LISTEN (R268). -/
def State.pwmStart (s : State) : State :=
  let s := s.takeCfg.putB F.PWM_STATUS_RUNNING true
  (s.setPwm { s.pwm with nextZero := s.now, nextTop := none, stopping := false, matches_ := [] }).pwmIdle.driveAll

/-- Entry to STANDBY: every output goes to its TSTATE, and the counter stops at the next zero (R268). -/
def State.pwmStandby (s : State) : State :=
  (s.setPwm { s.pwm with stopping := s.pwmRunning }).driveAll

/-- The clock-loss drive (R267). -/
def State.pwmClockLoss (s : State) : State :=
  (s.freezePwm.putB F.PWM_STATUS_CLK_DRIVE true).putB F.PWM_FLAGS_CLK_LOSS true |>.driveAll

/-- The count clock runs again: the carrier restarts from zero and the outputs resume (R267). -/
def State.pwmClockBack (s : State) : State :=
  if !s.flag F.PWM_STATUS_CLK_DRIVE then s
  else
    let halted := s.flag F.CTL_STATUS_HALTED
    let s := (s.putB F.PWM_STATUS_CLK_DRIVE false).putB F.PWM_STATUS_FROZEN halted
    let s := s.setPwm { s.pwm with frozenAt := if halted then some s.now else none, nextZero := s.now, nextTop := none, matches_ := [] }
    let s := s.pwmIdle
    (s.each allOuts (fun s o => s.setOut o { s.out o with resume := true, rise := none })).driveAll

/-- A swap has committed (R259, R260). -/
def State.pwmSwap (s : State) (old : Plan) : State :=
  let new := s.active
  let s := s.pwmSample old
  let s := if old.get F.PWM_PERIOD_PERIOD_INIT = new.get F.PWM_PERIOD_PERIOD_INIT then s
    else (s.put F.PWM_PERIOD_STG_PERIOD_STG (new.get F.PWM_PERIOD_PERIOD_INIT)).arm 256
  let s := s.each allPairs (fun s n =>
    let l := [(F.PWM_PAIR_INIT_CMPA_INIT n, F.PWM_PAIR_CMP_STG_CMPA n), (F.PWM_PAIR_INIT_CMPB_INIT n, F.PWM_PAIR_CMP_STG_CMPB n),
      (F.PWM_PAIR_EDGE_INIT_DT_A n, F.PWM_PAIR_EDGE_STG_DT_A n), (F.PWM_PAIR_EDGE_INIT_DT_B n, F.PWM_PAIR_EDGE_STG_DT_B n),
      (F.PWM_PAIR_EDGE_INIT_FINE_A n, F.PWM_PAIR_EDGE_STG_FINE_A n), (F.PWM_PAIR_EDGE_INIT_FINE_B n, F.PWM_PAIR_EDGE_STG_FINE_B n)]
    let starts := new.on (F.PWM_PAIR_CFG_EN n) && !old.on (F.PWM_PAIR_CFG_EN n)
    if starts || old.differs new (l.map (·.1)) then (s.each l (fun s e => s.put e.2 (new.get e.1))).arm (2 ^ n) else s)
  let s := s.each allPairs (fun s m =>
    if old.differs new [F.PWM_MASK_ON_EN m, F.PWM_MASK_ON_ON_EVENT m, F.PWM_MASK_ON_ON_DELAY m, F.PWM_MASK_OFF_OFF_EVENT m,
        F.PWM_MASK_OFF_OFF_DELAY m, F.PWM_MASK_OUT_OUTPUTS m] then
      let s := s.putBit F.PWM_STATUS_MASKED m false
      let s := s.setPwm { s.pwm with due := s.pwm.due.filter (fun e => e.1 != m) }
      s.each (allOuts.filter (fun o => !s.maskNames o && ((s.out o).inMask || (s.out o).enter.isSome))) State.unmask
    else s)
  let s := s.each (List.range 16) (fun s l =>
    if old.differs new [F.PWM_TRG_CFG_EN l, F.PWM_TRG_CFG_PAIR l, F.PWM_TRG_CFG_EVENT l, F.PWM_TRG_CFG_PRESCALE l, F.PWM_TRG_CFG_DELAY l] then
      s.setPwm { s.pwm with lines := sparseInsert s.pwm.lines l (0, none) }
    else s)
  (if s.pwmRunning then s else s.takeCfg).driveAll

/-- The lines that raised a trigger in the Turn just ended (Table 10.14). -/
def State.pwmBoundary (s : State) : State :=
  (s.put F.PWM_TRG_STATUS_RAISED s.pwm.raised).setPwm { s.pwm with raised := 0 }


end Sys2Proof.Machine
end

