-- ==== Sys2Proof/Machine/Control.lean ====
section
/-! DEFINITION. The Control Engine (spec/11): the control law, supply loops with their output, plausibility and set-points, halt
and step, and the slot level loops. -/
namespace Sys2Proof.Machine

/-! ### The law (R277) -/

/-- The 40-bit range of e and u. -/
def sat40 (i : Int) : Int := clampInt (-(2 ^ 39)) (2 ^ 39 - 1) i
/-- A 20-bit coefficient. -/
def State.coef (s : State) (f : Field) : Int := sgn 20 (s.act f)
/-- Saturating sum of coefficient × state; how a product rounds to 32 fractional bits the spec does not state. -/
def lawSum (k : Nat) : List (Int × Int) → Int → Int
  | [], acc => acc
  | t :: l, acc => lawSum (k + 1) l (sat40 (acc + sat40 (openDiv (t.1 * t.2) 65536 (Config.roundUp k))))

def State.loop (s : State) (n : Nat) : LoopX := sparseGet loopNone s.ctl.loops n
def State.setCtl (s : State) (c : Ctl) : State := { s with ctl := c }
def State.setLoop (s : State) (n : Nat) (l : LoopX) : State := s.setCtl { s.ctl with loops := sparseInsert s.ctl.loops n l }
def State.loopOn (s : State) (n : Nat) : Bool := s.actB (F.CTL_LOOP_CFG_EN n)
def allLoops : List Nat := List.range 8

/-- The engine runs: powered, out of reset, not halted, in LISTEN, RELAY or SAFE (R284, R286). -/
def State.ctlRuns (s : State) : Bool :=
  s.running && !s.flag F.CTL_STATUS_HALTED && !s.blockHeld .control && !s.railDown 3

/-- Show which loops run and ramp, and the two sources that are live on them. -/
def State.syncLoops (s : State) : State :=
  let s := s.each allLoops (fun s n =>
    let on_ := (s.loop n).started
    let ramp := on_ && s.get (F.CTL_LOOP_TARGET_T n) != s.get (F.CTL_LOOP_MEAS_RAMP_SP n)
    let s := (s.putB (F.CTL_LOOP_STATUS_RUNNING n) on_).putB (F.CTL_LOOP_STATUS_RAMPING n) ramp
    (s.putBit F.CTL_STATUS_RUNNING n on_).putBit F.CTL_STATUS_RAMPING n ramp)
  (s.live 23 (allLoops.any (fun n => s.flag (F.CTL_LOOP_STATUS_PLAUS n)))).live 24 (allLoops.any (fun n => s.flag (F.CTL_LOOP_STATUS_SAT n)))

/-! ### One run (R276 to R284) -/

/-- The feed-forward factor VIN_NOM / V as a fraction, limited to 0.25 to 4.0; and whether it is a fallback (R278). -/
def State.ffFactor (s : State) (n : Nat) : Nat × Nat × Bool :=
  let l := s.loop n
  let nom := s.act (F.CTL_LOOP_RAMP_VIN_NOM n)
  if !s.actB (F.CTL_LOOP_CFG_FF_EN n) then (1, 1, false)
  else match l.ff with
    | none => (1, 1, true)
    | some v => let f := if 4 * v < nom then (4, 1) else if 4 * nom < v then (1, 4) else (nom, v)
      (f.1, f.2, l.ffOvr || !l.ffNew)

/-- The duty in force: H of CMP_NOW over 2 × PERIOD_NOW. -/
def State.dutyNow (s : State) (pair : Nat) : Nat × Nat :=
  (s.get (F.PWM_PAIR_CMP_NOW_CMPA_NOW pair) + s.get (F.PWM_PAIR_CMP_NOW_CMPB_NOW pair), 2 * s.get F.PWM_PERIOD_STG_PERIOD_NOW)

/-- A supply loop starts on measurement `y` (R281, R283, R284). -/
def State.loopStart (s : State) (n y : Nat) : State :=
  let (num, den, _) := s.ffFactor n
  let (h, per) := s.dutyNow (s.act (F.CTL_LOOP_CFG_PAIR n))
  let u := sat40 (openDiv (h * 2 ^ 32 * den : Nat) (per * num) (Config.roundUp s.free))
  let l := s.loop n
  let s := (s.setLoop n { l with started := true, ffNew := false, e1 := 0, e2 := 0, e3 := 0, u1 := u, u2 := u, u3 := u, pred := y * 2 ^ 32,
                                 age := 0, plRun := 0, satRun := 0, keepT := false }).tick
  let t := if s.pstate = 4 then s.act (F.CTL_LOOP_SP_SAFE_SP n) else if l.keepT then l.host.getD (s.act (F.CTL_LOOP_SP_SP_INIT n))
    else s.act (F.CTL_LOOP_SP_SP_INIT n)
  (s.put (F.CTL_LOOP_TARGET_T n) t).put (F.CTL_LOOP_MEAS_RAMP_SP n) y

/-- r moves towards T by at most SLEW (R283). -/
def ramp (r t slew : Nat) : Nat := if r < t then min t (r + slew) else max t (r - slew)

/-- The plausibility model and check of a run that did not start the loop (R281, R282). -/
def State.plausible (s : State) (n y : Nat) : State :=
  if !s.actB (F.CTL_LOOP_CFG_PL_EN n) then s
  else
    let l := s.loop n
    let (h, per) := s.dutyNow (s.act (F.CTL_LOOP_CFG_PAIR n))
    let (v, nom) := match s.actB (F.CTL_LOOP_CFG_FF_EN n), l.ff with
      | true, some v => (v, s.act (F.CTL_LOOP_RAMP_VIN_NOM n))
      | _, _ => (1, 1)
    let goal := openDiv (s.act (F.CTL_LOOP_PLANT_PLANT_GAIN n) * 2 ^ 32 * h * v : Nat) (per * nom) (Config.roundUp s.free)
    let pred := l.pred + openDiv (s.act (F.CTL_LOOP_PLANT_ALPHA n) * (goal - l.pred)) 65536 (Config.roundUp (s.free + 1))
    let age := min 16 (l.age + 1)
    let far := decide (2 ^ 32 * s.act (F.CTL_LOOP_CHECK_PL_THR n) < ((y : Int) * 2 ^ 32 - pred).natAbs)
    let k := s.act (F.CTL_LOOP_CHECK_PL_K n)
    let run := if age < 16 then l.plRun else if far then l.plRun + 1 else 0
    let s := { (s.setLoop n { l with pred := pred, age := age, plRun := run }) with free := s.free + 2 }
    let s := if age < 16 then s
      else if !far then s.putB (F.CTL_LOOP_STATUS_PLAUS n) false
      else if run = k then
        let s := (s.putB (F.CTL_LOOP_STATUS_PLAUS n) true).putBit F.CTL_FLAGS_PLAUS n true
        (s.bump (F.CTL_LOOP_COUNT_PLAUS_EVENTS n) 1).raise 23
      else s
    s

/-- The law and the output of a run (R277, R278, R280). -/
def State.loopLaw (s : State) (n y r : Nat) : State :=
  let l := s.loop n
  let c (j : Nat) : Int := s.coef (F.CTL_LOOP_COEF_COEF n j)
  let e := ((r : Int) - y) * 65536
  let third := s.actB (F.CTL_LOOP_CFG_ORDER n)
  let terms := [(c 4, l.u1), (c 5, l.u2)] ++ (if third then [(c 6, l.u3)] else []) ++ [(c 0, e), (c 1, l.e1), (c 2, l.e2)] ++
    (if third then [(c 3, l.e3)] else [])
  let u := lawSum s.free terms 0
  let k := s.free + 7
  let (num, den, fb) := s.ffFactor n
  let per := 2 * s.get F.PWM_PERIOD_STG_PERIOD_NOW
  let one : Int := den * 2 ^ 32
  let lo := s.act (F.CTL_LOOP_DUTY_LIM_DUTY_MIN n)
  let hi := s.act (F.CTL_LOOP_DUTY_LIM_DUTY_MAX n)
  let atMin := decide (u * num * 4096 < lo * one)
  let atMax := !atMin && decide (hi * one < u * num * 4096)
  let lim := if atMin then lo else hi
  let capped := atMin || atMax
  let uKept := if capped then sat40 (openDiv (lim * 2 ^ 20 * den : Nat) num (Config.roundUp k)) else u
  let h := if capped then ((2 * lim * per + 4096) / 8192 : Nat) else ((2 * u * num * per + one) / (2 * one)).toNat
  let duty := if capped then lim else (openDiv (u * num * 4096) (den * 2 ^ 32) (Config.roundUp (k + 1))).toNat
  let sat := if capped then l.satRun + 1 else 0
  let kSat := s.act (F.CTL_LOOP_CHECK_SAT_K n)
  let s := { (s.setLoop n { l with e1 := e, e2 := l.e1, e3 := l.e2, u1 := uKept, u2 := l.u1, u3 := l.u2, satRun := sat })
    with free := s.free + 9 }
  let pair := s.act (F.CTL_LOOP_CFG_PAIR n)
  let s := s.pwmSample s.active
  let s := ((s.put (F.PWM_PAIR_CMP_STG_CMPA pair) ((h + 1) / 2)).put (F.PWM_PAIR_CMP_STG_CMPB pair) (h / 2)).arm (2 ^ pair)
  let s := ((s.putB (F.CTL_LOOP_STATUS_AT_MIN n) atMin).putB (F.CTL_LOOP_STATUS_AT_MAX n) atMax).putB (F.CTL_LOOP_STATUS_FF_FALLBACK n) fb
  let s := s.put (F.CTL_LOOP_STATUS_DUTY_NOW n) (min 4096 duty)
  let s := if kSat ≠ 0 ∧ sat = kSat then
      ((s.putBit F.CTL_FLAGS_SAT n true).bump (F.CTL_LOOP_COUNT_SAT_EVENTS n) 1).raise 24
    else s
  s.putB (F.CTL_LOOP_STATUS_SAT n) (kSat != 0 && decide (kSat ≤ sat))

/-- At the start of each run: the injection of its feed-forward entry (R279). -/
def State.loopInject (s : State) (n : Nat) : State :=
  if s.actB (F.CTL_LOOP_CFG_VIN_INJ n) then s.inject (s.act (F.CTL_LOOP_CFG_VIN_GAU n)) (s.act (F.CTL_LOOP_CFG_VIN_ENT n)) else s

/-- A run on a sample without OVR. -/
def State.loopRun (s : State) (n sum k : Nat) : State :=
  let y := sum * 16 / 2 ^ k
  let s := s.put (F.CTL_LOOP_MEAS_Y n) y
  let s := if (s.loop n).started then s.plausible n y else s.loopStart n y
  let r := ramp (s.get (F.CTL_LOOP_MEAS_RAMP_SP n)) (s.get (F.CTL_LOOP_TARGET_T n)) (s.act (F.CTL_LOOP_RAMP_SLEW n))
  let s := (s.put (F.CTL_LOOP_MEAS_RAMP_SP n) r).loopLaw n y r
  let s := s.put (F.CTL_LOOP_TARGET_Y_PRED n) (clampInt 0 65535 ((s.loop n).pred / 2 ^ 32)).toNat
  (s.putB (F.CTL_LOOP_STATUS_MISSED_LAST n) false).putB (F.CTL_LOOP_STATUS_OVR_SKIP n) false

/-- A sample that carries OVR is not used (R276). -/
def State.loopSkip (s : State) (n : Nat) : State :=
  ((s.putB (F.CTL_LOOP_STATUS_OVR_SKIP n) true).bump (F.CTL_LOOP_COUNT_OVR_SKIPS n) 1).putB (F.CTL_LOOP_STATUS_MISSED_LAST n) false

/-- The run on the one sample of a loop that waits, if one does: it reads the sample or skips it. -/
def State.loopOne (s : State) (n : Nat) : State :=
  match (s.loop n).samples with
  | [(sum, k, ovr, _)] =>
    let s := (s.setLoop n { s.loop n with samples := [] }).loopInject n
    if ovr then s.loopSkip n else (s.loopRun n sum k).syncLoops
  | _ => s

/-- A lower-numbered loop is due together with loop `n`, its accumulation having completed in the same fc: it runs first (R274). -/
def State.loopWaits (s : State) (n : Nat) : Bool :=
  (List.range n).any (fun m => (s.loop m).samples.any (fun a => (s.loop n).samples.any (fun b => a.2.2.2 == b.2.2.2)))

/-- SUPPLY_LOOP_RUN: a feedback accumulation has completed, and the loop computes and writes its duty (R274, R276). -/
def execSupplyLoopRun (fc n : Nat) (s : State) : Host.Outcome State Fault Refusal :=
  let s := s.at fc
  okIf (n < 8) (
    if !s.ctlRuns || !s.loopOn n || s.loopWaits n then s else s.loopOne n)

/-- SUPPLY_LOOP_MISS: the next feedback accumulation has completed and the duty is not written (R275). -/
def execSupplyLoopMiss (fc n : Nat) (s : State) : Host.Outcome State Fault Refusal :=
  let s := s.at fc
  okIf (n < 8) (
    if !s.ctlRuns then s
    else match (s.loop n).samples with
      | a :: b :: t =>
        let s := (s.setLoop n { s.loop n with samples := b :: t }).loopInject n
        if a.2.2.1 then s.loopSkip n
        else
          let s := (s.putBit F.CTL_FLAGS_DEADLINE n true).bump (F.CTL_LOOP_COUNT_MISSES n) 1
          let s := (s.bump F.CTL_COUNT_MISSES 1).putB (F.CTL_LOOP_STATUS_OVR_SKIP n) false
          (s.putB (F.CTL_LOOP_STATUS_MISSED_LAST n) true).raise 22
      | _ => s)

/-! ### Set-points (R211, R283 to R285) -/

/-- SUPPLY_SETPOINT: the target is taken at the boundary after acceptance (R211). -/
def execSupplySetpoint (fc sq idx : Nat) (s : State) : Host.Outcome State Fault Refusal :=
  .next (s.withDesc fc sq idx Op.supplySetpoint (fun d s =>
    let k : DescKey := d.key
    let n := dLoop d.body
    let t := dSetpoint d.body
    if !s.loopOn n then s.failed k 0x16 0
    else if t < s.act (F.CTL_LOOP_SP_LIM_SP_MIN n) ∨ s.act (F.CTL_LOOP_SP_LIM_SP_MAX n) < t then s.failed k 0x15 0
    else s.stage k (.setpoint n t)))

/-- The target of a SUPPLY_SETPOINT is taken; in SAFE it is held as the host target (R284). -/
def State.takeSetpoint (s : State) (n t : Nat) : State :=
  let s := s.setLoop n { s.loop n with host := some t }
  (if s.pstate = 4 then s else s.put (F.CTL_LOOP_TARGET_T n) t).syncLoops

/-- Entry to SAFE: T becomes SAFE_SP (R284). -/
def State.loopsSafe (s : State) : State :=
  (s.each (allLoops.filter s.loopOn) (fun s n => s.put (F.CTL_LOOP_TARGET_T n) (s.act (F.CTL_LOOP_SP_SAFE_SP n)))).syncLoops
/-- Leaving SAFE: T becomes the host target (R284). -/
def State.loopsLeaveSafe (s : State) : State :=
  (s.each (allLoops.filter s.loopOn) (fun s n =>
    s.put (F.CTL_LOOP_TARGET_T n) ((s.loop n).host.getD (s.act (F.CTL_LOOP_SP_SP_INIT n))))).syncLoops
/-- No loop runs in STANDBY; SAT and PLAUS say what they said of the latest run (R280, R282). -/
def State.loopsStop (s : State) : State :=
  (s.each allLoops (fun s n =>
    s.setLoop n { s.loop n with started := false, samples := [], ffNew := false, keepT := false })).syncLoops

/-- Fields whose change restarts a loop: bindings, coefficients, limits and plausibility (R285). -/
def loopFields (n : Nat) : List Field :=
  [F.CTL_LOOP_CFG_EN n, F.CTL_LOOP_CFG_ORDER n, F.CTL_LOOP_CFG_PAIR n, F.CTL_LOOP_CFG_FB_GAU n, F.CTL_LOOP_CFG_FB_ENT n,
   F.CTL_LOOP_CFG_VIN_GAU n, F.CTL_LOOP_CFG_VIN_ENT n, F.CTL_LOOP_CFG_FF_EN n, F.CTL_LOOP_CFG_VIN_INJ n, F.CTL_LOOP_CFG_PL_EN n,
   F.CTL_LOOP_SP_LIM_SP_MIN n, F.CTL_LOOP_SP_LIM_SP_MAX n, F.CTL_LOOP_RAMP_SLEW n, F.CTL_LOOP_RAMP_VIN_NOM n,
   F.CTL_LOOP_DUTY_LIM_DUTY_MIN n, F.CTL_LOOP_DUTY_LIM_DUTY_MAX n, F.CTL_LOOP_PLANT_PLANT_GAIN n, F.CTL_LOOP_PLANT_ALPHA n,
   F.CTL_LOOP_CHECK_PL_THR n, F.CTL_LOOP_CHECK_PL_K n, F.CTL_LOOP_CHECK_SAT_K n] ++ (List.range 7).map (F.CTL_LOOP_COEF_COEF n)

/-- Runs in progress at the boundary of a swap that changes their loops complete under the outgoing values (R285): the model completes
them at the boundary itself, before the swap reaches the loops (log entry 64). -/
def State.loopsFinish (s : State) (old : Plan) : State :=
  let new := s.active
  let l := allLoops.filter (fun n =>
    old.on (F.CTL_LOOP_CFG_EN n) && old.differs new (loopFields n ++ [F.CTL_LOOP_SP_SP_INIT n, F.CTL_LOOP_SP_SAFE_SP n]))
  if !s.ctlRuns then s else { (State.each { s with active := old } l State.loopOne) with active := new }

/-- A swap has committed: loops that changed restart, a new SP_INIT is the new target, SAFE_SP applies in SAFE (R285). -/
def State.loopsSwap (s : State) (old : Plan) : State :=
  let s := s.each allLoops (fun s n =>
    let s := s.setLoop n { s.loop n with host := none }
    let s := if old.differs s.active (loopFields n) then
        let other := old.differs s.active [F.CTL_LOOP_CFG_VIN_GAU n, F.CTL_LOOP_CFG_VIN_ENT n]
        let l := s.loop n
        s.setLoop n { l with started := false, samples := [], ff := if other then none else l.ff,
                             ffOvr := l.ffOvr && !other, ffNew := false, keepT := false }
      else s
    if !s.loopOn n then s
    else if s.pstate = 4 then s.put (F.CTL_LOOP_TARGET_T n) (s.act (F.CTL_LOOP_SP_SAFE_SP n))
    else if old.differs s.active [F.CTL_LOOP_SP_SP_INIT n] then s.put (F.CTL_LOOP_TARGET_T n) (s.act (F.CTL_LOOP_SP_SP_INIT n))
    else s)
  s.syncLoops

/-! ### Halt and step (R286, Table 14.9) -/

/-- Control Engine halt is permitted now. -/
def State.haltOk (s : State) : Bool :=
  let grants := match s.sec.session with | some (g, _, _) => g | none => 0
  s.running && (s.lifecycle ≤ 1 || (s.lifecycle == 3 && bit grants 0))

/-- HALT: a write of CTL_DEBUG.HALT; a halt takes effect at the next boundary, a release at once. -/
def execHalt (fc : Nat) (on : Bool) (s : State) : Host.Outcome State Fault Refusal :=
  let s := s.at fc
  if !on then .next s.releaseHalt
  else if !s.haltOk then .next (s.bump F.CTL_DEBUG_REFUSED 1)
  else .next ((s.putB F.CTL_DEBUG_HALT true).setCtl { s.ctl with haltReq := true })

/-- STEP: a write of CTL_DEBUG.STEP while halted runs the engine and the carrier for one Turn; in that Turn the engine is not halted, and
a write is ignored and counted. -/
def execStep (fc : Nat) (s : State) : Host.Outcome State Fault Refusal :=
  let s := s.at fc
  if s.flag F.CTL_STATUS_HALTED then .next (s.setCtl { s.ctl with stepReq := true })
  else .next (s.bump F.CTL_DEBUG_REFUSED 1)

/-- The engine halts: the PWM freezes and no sample waits (R266, R286). -/
def State.haltNow (s : State) : State :=
  let s := (s.putB F.CTL_STATUS_HALTED true).freezePwm
  s.each allLoops (fun s n => s.setLoop n { s.loop n with samples := [] })

/-- Halts and steps at a boundary. -/
def State.haltBoundary (s : State) : State :=
  let c := s.ctl
  let s := s.setCtl { c with haltReq := false, stepReq := false, stepping := c.stepReq }
  if c.stepReq then (s.putB F.CTL_STATUS_HALTED false).unfreeze
  else if c.haltReq || c.stepping then s.haltNow
  else s

/-! ### Slot level loops (R287 to R291) -/

def lvlNone : LvlX := ⟨0, 0, 0, 0, true, false, false, 0⟩
def State.lvl (s : State) (sl : Nat) : LvlX := sparseGet lvlNone s.ctl.lvls sl
def State.setLvl (s : State) (sl : Nat) (x : LvlX) : State := s.setCtl { s.ctl with lvls := sparseSet lvlNone s.ctl.lvls sl x }
def State.lvlOn (s : State) (sl : Nat) : Bool := s.slotOn sl && s.actB (F.CTL_LVL_CFG_LVL_EN sl)

/-- A gain of 0.05 dB in units of 2^-32 dB. -/
def State.gainQ (s : State) (sl : Nat) : Int := openDiv (s.gainNow sl * 2 ^ 32) 20 (Config.roundUp s.free)

/-- A level loop starts with zero state, its output from the gain in force (R291). -/
def State.lvlStart (s : State) (sl : Nat) : State :=
  let s := (s.setLvl sl { lvlNone with g1 := s.gainQ sl, startAt := s.turn }).tick
  let s := (s.put (F.CTL_LVL_STATUS_G_CMD sl) (s.get (F.CHZ_SLOT_GAIN_GAIN_NOW sl))).put (F.CTL_LVL_OUT_IN_REF sl) 0x8000
  s.put (F.CTL_LVL_OUT_ERR sl) 0

/-- The computation of a valid Turn (R289, R290). -/
def State.lvlCompute (s : State) (sl : Nat) : State :=
  let x := s.lvl sl
  let k := s.free
  let cl := s.get (F.CTL_LVL_STATUS_G_CMD sl) != s.get (F.CHZ_SLOT_GAIN_GAIN_NOW sl)
  let g1 := if cl then s.gainQ sl else x.g1
  let err := s.actI (F.CTL_LVL_CFG_LVL_TARGET sl) - s.geti (F.CHZ_SLOT_LEVEL_OUT_LEVEL sl)
  let e := sat40 (openDiv (err * 2 ^ 32) 100 (Config.roundUp (k + 1)))
  let inL := s.geti (F.CHZ_SLOT_LEVEL_IN_LEVEL sl)
  let ref := if x.first then inL else s.geti (F.CTL_LVL_OUT_IN_REF sl)
  let c (j : Nat) : Int := s.coef (F.CTL_LVL_COEF_COEF sl j)
  let ff := sat40 (openDiv (s.act (F.CTL_LVL_CFG_FF_GAIN sl) * (inL - ref) * 2 ^ 32) 12800 (Config.roundUp (k + 2)))
  let g := sat40 (lawSum (k + 3) [(c 3, g1), (c 4, x.g2), (c 0, e), (c 1, x.e1), (c 2, x.e2)] 0 - ff)
  let cmd := clampInt (-32768) 32767 ((20 * g + 2 ^ 31) / 2 ^ 32)
  let s := { (s.setLvl sl { x with g1 := g, g2 := g1, e1 := e, e2 := x.e1, first := false, ran := true }) with free := k + 8 }
  let s := (s.putB (F.CTL_LVL_STATUS_CLAMPED sl) cl).putB (F.CTL_LVL_STATUS_FROZEN sl) false
  let s := (s.puti (F.CTL_LVL_STATUS_G_CMD sl) cmd).puti (F.CTL_LVL_OUT_IN_REF sl) inL
  (s.puti (F.CTL_LVL_OUT_ERR sl) (clampInt (-32768) 32767 err)).setWant sl cmd

/-- The Turn that the snapshot describes is valid for the slot's level loop: no mute and the transmit state throughout, and no DIRTY
(R288). -/
def State.lvlSteady (s : State) (sl : Nat) : Bool :=
  let l := s.lastSamples sl
  !l.isEmpty && l.all (fun z => !z.mute) && !(s.path sl).endMute && s.gateOver sl (3072 * (s.ticks - 1)) (3072 * s.ticks - 1) &&
  !s.flag (F.CHZ_SLOT_STATUS_DIRTY sl)

/-- One slot's level loop. -/
def State.lvlRun (s : State) (sl : Nat) : State :=
  -- the slot's tile has restarted in this Turn (R291)
  let fresh := s.fab.fill.any (fun e => e.1 == sl && e.2 == s.turn.toNat) && (s.lvl sl).startAt != s.turn
  let s := if s.lvlOn sl && fresh then s.lvlStart sl else s
  if !s.lvlOn sl then s
  else if s.lvlSteady sl && (s.lvl sl).startAt != s.turn then s.lvlCompute sl
  else
    -- not valid: the previous command is staged again
    let s := s.setLvl sl { s.lvl sl with ran := true }
    let s := (s.putB (F.CTL_LVL_STATUS_FROZEN sl) true).putB (F.CTL_LVL_STATUS_CLAMPED sl) false
    s.setWant sl (s.geti (F.CTL_LVL_STATUS_G_CMD sl))

/-- LEVEL_LOOP_RUN: the level loops of these slots stage their commands in this Turn, in slot order, each once (R287). Outside fc 256 to
2,815, and once the Turn's level loops have overrun, a command comes too late and has no effect. -/
def execLevelLoopRun (fc : Nat) (l : List Nat) (s : State) : Host.Outcome State Fault Refusal :=
  let s := s.at fc
  okIf (l.all (slotIn s.variant)) (
    if !s.ctlRuns || s.fc < 256 || 2816 ≤ s.fc || bit s.overran 2 then s
    else s.each ((slotsOf s.variant).filter l.contains) (fun s sl => s.once 2 sl State.lvlRun))

/-- What the level loops did in the Turn just ended (Table 11.12). -/
def State.lvlBoundary (s : State) : State :=
  s.each (slotsOf s.variant) (fun s sl =>
    let x := s.lvl sl
    let s := (s.putB (F.CTL_LVL_STATUS_RUNNING sl) x.ran).putB (F.CTL_LVL_STATUS_OVERRUN sl) x.overr
    s.setLvl sl { x with ran := false, overr := false })

/-- A level loop has overrun: it keeps its previous output (R23, R287). -/
def State.lvlOverrun (s : State) (sl : Nat) : State := s.setLvl sl { s.lvl sl with overr := true }

/-- Level-loop fields of a slot. -/
def lvlFields (sl : Nat) : List Field :=
  [F.CTL_LVL_CFG_LVL_EN sl, F.CTL_LVL_CFG_LVL_TARGET sl, F.CTL_LVL_CFG_FF_GAIN sl] ++ (List.range 5).map (F.CTL_LVL_COEF_COEF sl)


end Sys2Proof.Machine
end

