-- ==== Sys2Proof/Machine/Sequencer.lean ====
section
/-! DEFINITION. The Radio Sequencer (spec/06): duplex groups and their transitions, frame timing and sync, FE pins, commutation
events with the masks and RFFE commands they carry, the transmit timeout and HOLD. -/
namespace Sys2Proof.Machine

/-! ### Permitted and ready (R142) -/

def State.syncOk (s : State) (g : Nat) : Bool := s.syncState g == 2 || s.syncState g == 3

/-- Permitted, but for a rest after a timeout or a swap. -/
def State.allowed (s : State) (g : Nat) : Bool :=
  s.inRelay && s.groupOn g && !s.blockHeld .sequencer && (!s.isTdd g || s.syncOk g)
def State.permitted (s : State) (g : Nat) : Bool := s.allowed g && (s.sg g).resumeAt.isNone

/-- The DACs that a group's enabled slots use. -/
def State.groupReady (s : State) (g : Nat) : Bool :=
  let l := s.slotsOfGroup g
  s.dieLocked 0 && s.dieLocked 1 &&
  l.all (fun sl => !s.calAdc (s.srcAdc sl) && (s.combsOf sl).all (fun k =>
    !s.calDac k && !s.dieDown (dacDie s.variant k)) && !s.dieDown (adcDie s.variant (s.srcAdc sl)))

/-- What the registers and the collector show of the groups (Tables 6.8, 6.10). -/
def State.syncSeq (s : State) : State :=
  let tx (g : Nat) : Bool := [0, 1].any (fun h => s.half g h == 2 || s.half g h == 3)
  let s' := s.each allGroups (fun t g =>
    let t := (t.putBit F.SEQ_STATUS_TX g (tx g)).putBit F.SEQ_STATUS_HOLD g (s.half g 0 == 5 || s.half g 1 == 5)
    t.putBit F.SEQ_STATUS_SYNC_OK g (s.syncOk g))
  let s' := s'.live 17 (allGroups.any (fun g => s.groupOn g && s.isTdd g && s.syncState g == 4))
  (s'.live 18 (allGroups.any (fun g => s.flag (F.SEQ_DG_STATUS_HOLD_EXPIRED g)))).live 19 (s.flag F.SEQ_PORT_MUTED_MUTED)

/-! ### Frames and patterns (R144, R145) -/

def State.period (s : State) (g : Nat) : Int := max 1 (s.act (F.SEQ_DG_PERIOD_PERIOD g))

/-- The next frame start: the move of a good reference applies at it. -/
def State.frameNext (s : State) (g : Nat) : Int := (s.sg g).frameAt + s.period g + (s.sg g).shift
/-- Start of the frame that holds time `t`. -/
def State.frameOf (s : State) (g : Nat) (t : Int) : Int :=
  let next := s.frameNext g
  if t < next then (s.sg g).frameAt else next + (t - next) / s.period g * s.period g

/-- Pattern entries in use: start, length, and the state of Table 6.1. -/
def State.entries (s : State) (g : Nat) : List (Nat × Nat × Nat) :=
  (List.range (s.act (F.SEQ_DG_CFG_ENTRIES g))).map (fun i =>
    (s.act (F.SEQ_DG_PAT_START_START g i), s.act (F.SEQ_DG_PAT_LEN_LENGTH g i), s.act (F.SEQ_DG_PAT_START_STATE g i) + 2))

/-- The state the pattern gives at time `t`, and whether its interval starts then; none in the rest of the frame. The frame edge moves with
the frame start: what the pattern gives at the end of a frame lasts until the next one starts (log entry 65). -/
def State.patAt (s : State) (g : Nat) (t : Int) : Option (Nat × Bool) :=
  let pos := (min (t - s.frameOf g t) (s.period g - 1)).toNat
  ((s.entries g).find? (fun e => e.1 ≤ pos && pos < e.1 + e.2.1)).map (fun e => (e.2.2, e.1 == pos))

/-- A pattern entry starts or ends at time `t`, or the frame does, which ends what it cuts short. -/
def State.isEdge (s : State) (g : Nat) (t : Int) : Bool :=
  let pos := (t - s.frameOf g t).toNat
  pos == 0 || (pos < (s.period g).toNat && (s.entries g).any (fun e => e.1 == pos || e.1 + e.2.1 == pos))

/-- The state after the pattern boundary at `t` of a TDD group that is in `cur` (Table 6.2, R145, R152, R153). -/
def State.schedTo (s : State) (g cur : Nat) (t : Int) : Nat :=
  let rest := s.restOf g
  let x := s.sg g
  if x.anchor.isSome then (if (s.patAt g t).map (·.1) = some cur then cur else rest)
  else match s.patAt g t with
    | some (4, _) => if cur = 2 ∨ cur = 3 then 4 else cur
    | some (st, true) =>
      let may := s.allowed g && (match x.resumeAt with | some r => decide ((r : Int) ≤ t) | none => true)
      if cur = st then cur
      else if !may then rest
      else if s.groupReady g then st
      else if cur = rest && s.flag (F.SEQ_DG_STATUS_HOLD_EXPIRED g) then cur
      else 5
    | some (_, false) => cur
    | none => if cur = 5 then 5 else rest

/-- Times of the pattern boundaries within 1,536 fc after now, in order. -/
def State.upcoming (s : State) (g : Nat) : List Int :=
  let f0 := s.frameOf g s.now
  let next := if f0 = (s.sg g).frameAt then s.frameNext g else f0 + s.period g
  let at_ (b : Int) : List Int := (s.entries g).flatMap (fun e => [b + e.1, b + e.1 + e.2.1])
  ((at_ f0).filter (fun t => decide (t < min next (f0 + s.period g))) ++ next :: at_ next).filter (fun t =>
    decide ((s.now : Int) < t) && decide (t ≤ (s.now : Int) + 1536))

/-- The scheduled transitions of a half within 1,536 fc after now: time, the state left and the state entered. They are known in
advance, so what carries a negative offset happens before them (R149, R155, R159, R260). -/
def State.plannedFrom (s : State) (g : Nat) : Nat → List Int → List (Nat × Nat × Nat)
  | _, [] => []
  | cur, t :: l =>
    let new := s.schedTo g cur t
    if new = cur then s.plannedFrom g cur l else (t.toNat, cur, new) :: s.plannedFrom g new l
def State.planned (s : State) (g h : Nat) : List (Nat × Nat × Nat) :=
  if !s.groupOn g || !s.running then []
  else if s.isTdd g then s.plannedFrom g (s.half g 0) (s.upcoming g)
  else
    let cur := s.half g h
    let t := s.now - s.fc + 3072
    if t ≤ s.now + 1536 ∧ s.permitted g ∧ s.groupReady g ∧ cur ≠ 2 + h then [(t, cur, 2 + h)] else []

/-! ### FE pins (R154 to R156) -/

/-- Every pin drives its SAFE level: a kill, a state other than LISTEN and RELAY, the clock lost, or the block in reset
(R134, R156, R167, R362, R410). -/
def State.pinsForced (s : State) : Bool :=
  !(s.pstate == 2 || s.pstate == 3) || s.killHeld || s.pwr.clkLost || s.blockHeld .sequencer || s.pwr.off

/-- Drive a pin to a level. -/
def State.drivePin (s : State) (p : Nat) (b : Bool) : State :=
  if s.flag (F.SEQ_FE_STATUS_LEVEL p) == b then s else (s.putB (F.SEQ_FE_STATUS_LEVEL p) b).bump (F.SEQ_FE_STATUS_EDGES p) 1
def State.dropEdges (s : State) (p : Nat) : State := s.setSeq { s.seq with edges := s.seq.edges.filter (fun e => e.1 != p) }
/-- A pin that follows its group. -/
def State.pinFollows (s : State) (p : Nat) : Bool := s.actB (F.SEQ_FE_CFG_EN p) && s.act (F.SEQ_FE_CFG_FUNC p) != 6
def State.pinGroup (s : State) (p : Nat) : Nat := s.act (F.SEQ_FE_CFG_GROUP p)
def State.pinHalf (s : State) (p : Nat) : Nat := if s.isTdd (s.pinGroup p) then 0 else s.act (F.SEQ_FE_CFG_HALF p)
/-- A pin's level for a state of its group; HOLD takes the level of the rest state. -/
def State.pinLevel (s : State) (p st : Nat) : Bool :=
  let st := if st = 5 then s.restOf (s.pinGroup p) else st
  match st with
  | 0 => s.actB (F.SEQ_FE_CFG_LVL_IDLE p)
  | 1 => s.actB (F.SEQ_FE_CFG_LVL_LISTEN p)
  | 2 => s.actB (F.SEQ_FE_CFG_LVL_DL p)
  | 3 => s.actB (F.SEQ_FE_CFG_LVL_UL p)
  | _ => s.actB (F.SEQ_FE_CFG_LVL_GUARD p)
/-- A pin's offset for the state entered. -/
def State.pinOfs (s : State) (p st : Nat) : Int :=
  match st with
  | 2 => s.actI (F.SEQ_FE_OFS_TX_OFS_DL p)
  | 3 => s.actI (F.SEQ_FE_OFS_TX_OFS_UL p)
  | 4 => s.actI (F.SEQ_FE_OFS_RS_OFS_GUARD p)
  | _ => s.actI (F.SEQ_FE_OFS_RS_OFS_REST p)
/-- Levels a mismatch channel drives on MUX pins: the port number in binary (R163). -/
def State.muxLevel (s : State) (p : Nat) : Option Bool :=
  ((List.range (nObsOf s.variant)).find? (fun m => s.actB (F.SEQ_MM_CFG_EN m) && s.actB (F.SEQ_MM_CFG_MUX_EN m) &&
    s.act (F.SEQ_MM_CFG_MUX_FE m) ≤ p && p < s.act (F.SEQ_MM_CFG_MUX_FE m) + 3)).map (fun m =>
      bit (s.get (F.SEQ_MM_STATUS_PORT m)) (p - s.act (F.SEQ_MM_CFG_MUX_FE m)))

/-- Put a pin where its configuration and the present states place it, at once. -/
def State.settlePin (s : State) (p : Nat) : State :=
  let s := s.dropEdges p
  if s.pinsForced || !s.actB (F.SEQ_FE_CFG_EN p) then s.drivePin p (s.actB (F.SEQ_FE_CFG_LVL_SAFE p))
  else if s.pinFollows p then s.drivePin p (s.pinLevel p (s.half (s.pinGroup p) (s.pinHalf p)))
  else match s.muxLevel p with
    | some b => s.drivePin p b
    | none => s
def State.settlePins (s : State) : State := s.each allPins State.settlePin

/-- An edge of a pin at time `t`: it supersedes edges still pending then, and adds nothing where the level is already there. -/
def State.pinEdge (s : State) (p : Nat) (b : Bool) (t : Nat) : State :=
  let keep := s.seq.edges.filter (fun e => e.1 != p || e.2.2 < t)
  let last := match (keep.filter (fun e => e.1 == p)).getLast? with | some e => e.2.1 | none => s.flag (F.SEQ_FE_STATUS_LEVEL p)
  let add := if last == b then [] else [(p, b, t)]
  s.setSeq { s.seq with edges := keep ++ add }

/-- FE_PIN_EDGE: an edge of the pin falls due; one with a negative offset comes before its scheduled transition. -/
def execFePinEdge (fc p : Nat) (s : State) : Host.Outcome State Fault Refusal :=
  let s := s.at fc
  let s' : State := if s.pinsForced || !s.pinFollows p then s
    else match (s.seq.edges.filter (fun e => e.1 == p && e.2.2 ≤ s.now)).getLast? with
      | some e => (s.setSeq { s.seq with edges := s.seq.edges.filter (fun d => d.1 != p || s.now < d.2.2) }).drivePin p e.2.1
      | none =>
        match ((s.planned (s.pinGroup p) (s.pinHalf p)).filter (fun f =>
            s.pinOfs p f.2.2 < 0 && decide ((f.1 : Int) + s.pinOfs p f.2.2 ≤ s.now))).getLast? with
        | some f => (s.dropEdges p).drivePin p (s.pinLevel p f.2.2)
        | none => s
  okIf (p < 32) s'

/-! ### Commutation events (R150, R159, R260) -/

/-- A time `d` after `t`; for an unscheduled transition a negative offset acts at `t` itself. -/
def offsetAt (t : Nat) (d : Int) (sched : Bool) : Nat := if d < 0 ∧ !sched then t else ((t : Int) + d).toNat

/-- Mask actions of an event: mask, assert or release, delay. -/
def State.maskActs (s : State) (e : Nat) : List (Nat × Bool × Int) :=
  allPairs.flatMap (fun m =>
    if !s.actB (F.PWM_MASK_ON_EN m) then []
    else (if s.act (F.PWM_MASK_ON_ON_EVENT m) = e then [(m, true, s.actI (F.PWM_MASK_ON_ON_DELAY m))] else []) ++
      (if s.act (F.PWM_MASK_OFF_OFF_EVENT m) = e then [(m, false, s.actI (F.PWM_MASK_OFF_OFF_DELAY m))] else []))

/-- Scheduled commands of a bus tied to an event, with their offsets. -/
def State.rffeActs (s : State) (b e : Nat) : List (Nat × Int) :=
  ((List.range 64).filter (fun i => s.actB (F.SEQ_RFFE_CMD_AT_EN b i) && s.act (F.SEQ_RFFE_CMD_AT_EVENT b i) == e)).map (fun i =>
    (i, s.actI (F.SEQ_RFFE_CMD_AT_OFS b i)))

def State.bus (s : State) (b : Nat) : RffeBus := sparseGet busNone s.seq.buses b
def State.setBus (s : State) (b : Nat) (x : RffeBus) : State := s.setSeq { s.seq with buses := sparseInsert s.seq.buses b x }

/-- Raise commutation event `e` with port time `t`. A mask already where the event puts it, and a command already issued ahead of
this transition, take no second action. -/
def State.commute (s : State) (e t : Nat) (sched : Bool) : State :=
  let ms := (s.maskActs e).filter (fun m => !(m.2.2 < 0 && s.getBit F.PWM_STATUS_MASKED m.1 == m.2.1))
  let s := s.setPwm { s.pwm with due := s.pwm.due ++ ms.map (fun m => (m.1, m.2.1, offsetAt t m.2.2 sched)) }
  if !(s.pstate == 2 || s.pstate == 3) then s
  else s.each [0, 1] (fun s b =>
    let x := s.bus b
    let l := (s.rffeActs b e).filter (fun c => !x.early.any (fun d => d.1 == c.1 && d.2 == t))
    s.setBus b { x with due := x.due ++ l.map (fun c => (c.1, offsetAt t c.2 sched)),
                        early := x.early.filter (fun d => t < d.2) })

/-- The commutation events of a transition of group `g` from `old` to `new`. -/
def eventsOf (g old new : Nat) : List Nat :=
  (if old = 2 then [4 * g + 1] else if old = 3 then [4 * g + 3] else []) ++
  (if new = 2 then [4 * g] else if new = 3 then [4 * g + 2] else [])

/-- A mask action of a scheduled transition still to come has fallen due. -/
def State.earlyMask (s : State) (m : Nat) (on : Bool) : Bool :=
  allGroups.any (fun g => (s.halves g).any (fun h => (s.planned g h).any (fun f =>
    (eventsOf g f.2.1 f.2.2).any (fun e => (s.maskActs e).any (fun a =>
      a.1 == m && a.2.1 == on && a.2.2 < 0 && decide ((f.1 : Int) + a.2.2 ≤ s.now))))))

/-- A mask action falls due: from its event, or ahead of a scheduled transition. -/
def State.maskDue (s : State) (m : Nat) (on : Bool) : State :=
  let mine := s.pwm.due.any (fun d => d.1 == m && d.2.1 == on && d.2.2 ≤ s.now)
  let s' := s.setPwm { s.pwm with due := s.pwm.due.filter (fun d => !(d.1 == m && d.2.1 == on && d.2.2 ≤ s.now)) }
  if mine || s.earlyMask m on then s'.setMask m on else s

/-- MASK_ASSERT: mask m's ON event plus its delay falls due (R260). -/
def execMaskAssert (fc m : Nat) (s : State) : Host.Outcome State Fault Refusal :=
  okIf (m < 8) ((s.at fc).maskDue m true)

/-- MASK_RELEASE: mask m's OFF event plus its delay falls due (R260). -/
def execMaskRelease (fc m : Nat) (s : State) : Host.Outcome State Fault Refusal :=
  okIf (m < 8) ((s.at fc).maskDue m false)

/-! ### Transitions (R143, R149, R150, R155, R156) -/

/-- What goes out at the port time `t` of a transition: commutation events and the edges of the pins. -/
def State.carry (s : State) (g h old new t : Nat) (sched : Bool) : State :=
  let s := s.each (eventsOf g old new) (fun s e => s.commute e t sched)
  if s.pinsForced then s
  else s.each (allPins.filter (fun p => s.pinFollows p && s.pinGroup p == g && s.pinHalf p == h)) (fun s p =>
    s.pinEdge p (s.pinLevel p new) (offsetAt t (s.pinOfs p new) sched))

/-- Group or half goes to a state. A scheduled transition happens now; an unscheduled one reaches the ports within 256 fc of
its event. -/
def State.transit (s : State) (g h new : Nat) (sched : Bool) : State :=
  let old := s.half g h
  if old = new then s
  else
    let t := if sched then s.now else s.now + Config.portDelay s.free % 257
    let s := if sched then s else s.tick
    let s := s.putHalf g h new t
    let s := if new = 5 ∨ old = 5 then s.put (F.SEQ_DG_STATUS_HOLD_TURNS g) 0 else s
    let s := (s.setSg g { s.sg g with stay := t }).carry g h old new t sched
    s.each (s.slotsOfGroup g) (fun s sl =>
      if s.gateOpen sl then (s.putB (F.CHZ_SLOT_STATUS_M_SEQ sl) false).syncMuted sl else s)

/-- A group returns to rest, in both halves, unscheduled. -/
def State.toRest (s : State) (g : Nat) : State := s.each (s.halves g) (fun s h => s.transit g h (s.restOf g) false)

/-- A new frame timing is taken (R145). -/
def State.adoptAnchor (s : State) (g : Nat) : State :=
  let x := s.sg g
  match x.anchor with
  | none => s
  | some a =>
    let s := s.setSg g { x with anchor := none, shift := 0 }
    let p := s.period g
    s.setSg g { s.sg g with frameAt := a + ((s.now : Int) - a) / p * p }

/-- A TDD group that a re-anchoring finds in no transmit interval, or that has ended its own, leaves HOLD or GUARD into rest and follows the
new timing (R145). -/
def State.anchorRests (s : State) (g : Nat) : State :=
  if !s.isTdd g || (s.sg g).anchor.isNone || s.half g 0 == 2 || s.half g 0 == 3 then s
  else (s.transit g 0 (s.restOf g) false).adoptAnchor g

/-- Readiness ends a HOLD's expiry (R153); a group that ceases to be permitted goes to rest, one that ceases to be ready to
HOLD (Table 6.2). -/
def State.seqRecheckGroup (s : State) (g : Nat) : State :=
  let s := if s.groupReady g then (s.putB (F.SEQ_DG_STATUS_HOLD_EXPIRED g) false).put (F.SEQ_DG_STATUS_FAIL_CAUSE g) 0 else s
  let s := s.each (s.halves g) (fun s h =>
    let st := s.half g h
    if st < 2 then s
    else if !s.permitted g then s.transit g h (s.restOf g) false
    else if st ≠ 5 ∧ !s.groupReady g then s.transit g h 5 false
    else s)
  s.anchorRests g
def State.seqRecheck (s : State) : State := (s.each allGroups State.seqRecheckGroup).syncSeq

/-- PATTERN_BOUNDARY: a TDD pattern entry starts or ends now, and the group makes its scheduled transition. -/
def execPatternBoundary (fc g : Nat) (s : State) : Host.Outcome State Fault Refusal :=
  let s := s.at fc
  let go (s : State) : State :=
    let new := s.schedTo g (s.half g 0) s.now
    let x := s.sg g
    -- a transmit interval that starts late enough ends the rest after a timeout or a swap
    let begins := match s.patAt g s.now with | some (st, true) => st != 4 | _ => false
    let gone := match x.resumeAt with | some r => decide (r ≤ s.now) | none => false
    let s := if begins && gone then (s.setSg g { x with resumeAt := none }).putB (F.SEQ_DG_STATUS_TIMED_OUT g) false else s
    let old := s.half g 0
    let s := s.transit g 0 new true
    -- pins that led a start which did not come return to their rest levels
    let s := if old = new ∧ new < 2 ∧ begins ∧ !s.pinsForced then
        s.each (allPins.filter (fun p => s.pinFollows p && s.pinGroup p == g)) (fun s p =>
          s.pinEdge p (s.pinLevel p new) (offsetAt s.now (s.pinOfs p new) false))
      else s
    (if new < 2 then s.adoptAnchor g else s).syncSeq
  okIf (g < 8) (if s.running && s.groupOn g && s.isTdd g && !s.blockHeld .sequencer && s.isEdge g s.now then go s else s)

/-! ### Sync (R145 to R148) -/

/-- Modulo PERIOD to the nearest value. -/
def nearest (d p : Int) : Int := let r := d % p; if p < 2 * r then r - p else r

/-- Entry to LOST: a TDD group goes to rest, and SEQ_SYNC_LOSS is signalled. -/
def State.loseSync (s : State) (g : Nat) : State :=
  let s := (s.put (F.SEQ_DG_STATUS_SYNC_STATE g) 4).bump (F.SEQ_DG_COUNT_SYNC_LOSSES g) 1
  let s := s.setSg g { s.sg g with acq := [] }
  (if s.isTdd g then s.raise 17 else s).seqRecheck

/-- Frames in a second. -/
def State.framesPerSecond (s : State) (g : Nat) : Nat := 1536000000 / (s.period g).toNat

/-- FRAME_START: a group's frame starts (R145, R148). -/
def execFrameStart (fc g : Nat) (s : State) : Host.Outcome State Fault Refusal :=
  let s := s.at fc
  let go (s : State) : State :=
    let x := s.sg g
    let next := x.frameAt + s.period g + x.shift
    if (s.now : Int) < next then s
    else
      let s := s.setSg g { x with frameAt := next, shift := 0 }
      let st := s.syncState g
      if st = 0 then s
      else
        let s := s.bump (F.SEQ_DG_SYNC_ERR_FRAMES_SINCE g) 1
        let n := s.get (F.SEQ_DG_SYNC_ERR_FRAMES_SINCE g)
        let lim := if s.act (F.SEQ_DG_CFG_SYNC_SRC g) = 1 then s.act (F.SEQ_DG_LOSS_EXPECT g) else s.framesPerSecond g + 1
        let s := if s.syncState g = 2 ∧ lim < n then s.put (F.SEQ_DG_STATUS_SYNC_STATE g) 3 else s
        if s.syncState g = 3 ∧ s.act (F.SEQ_DG_LOSS_LOSS_FRAMES g) ≤ n then s.loseSync g else s.syncSeq
  okIf (g < 8) (if s.running && s.groupOn g && (s.sg g).running && !s.blockHeld .sequencer then go s else s)

/-- Two predictions agree to within SYNC_TOL, modulo PERIOD. -/
def State.agree (s : State) (g : Nat) (p q : Int) : Bool :=
  let tol : Int := s.act (F.SEQ_DG_SYNC_SYNC_TOL g)
  let d := nearest (p - q) (s.period g)
  decide (-tol ≤ d) && decide (d ≤ tol)
/-- The newest ACQ_COUNT references of these, newest first, agree with one another (R145, R148). -/
def State.agreeing (s : State) (g : Nat) (l : List Int) : Bool :=
  let need := s.act (F.SEQ_DG_SYNC_ACQ_COUNT g)
  let l := l.take need
  l.length == need && l.all (fun a => l.all (s.agree g a))

/-- A reference predicts a frame start at time `p` (R145, R148). -/
def State.reference (s : State) (g : Nat) (p : Int) : State :=
  let x := s.sg g
  let e := nearest (p - x.frameAt) (s.period g)
  let tol : Int := s.act (F.SEQ_DG_SYNC_SYNC_TOL g)
  let good := decide (-tol ≤ e) && decide (e ≤ tol)
  let st := s.syncState g
  let s : State :=
    if good then
      let s := (s.setSg g { x with shift := e, outs := [] }).puti (F.SEQ_DG_SYNC_ERR_ERR g) e
      let s := s.put (F.SEQ_DG_SYNC_ERR_FRAMES_SINCE g) 0
      if st = 3 then s.put (F.SEQ_DG_STATUS_SYNC_STATE g) 2 else s
    else
      let s := s.bump (F.SEQ_DG_COUNT_OUTLIERS g) 1
      let outs := (p :: x.outs).take 15
      if !s.agreeing g outs then s.setSg g { x with outs := outs }
      else
        -- re-anchoring
        let s := s.setSg g { x with outs := [], anchor := some p }
        let s := s.emit 0x90 2 8 (leBytes g 1 ++ leBytes (unsgn 32 e) 4)
        if !s.isTdd g then s.adoptAnchor g else s.anchorRests g
  -- locking
  let s := if st = 1 ∨ st = 4 then
      let run := (p :: (s.sg g).acq).take 15
      if !s.agreeing g run then s.setSg g { s.sg g with acq := run }
      else
        let s := (s.put (F.SEQ_DG_STATUS_SYNC_STATE g) 2).put (F.SEQ_DG_SYNC_ERR_FRAMES_SINCE g) 0
        s.setSg g { s.sg g with acq := [] }
    else s
  s.seqRecheck

/-- Sync detection runs in LISTEN, RELAY and SAFE (R167). -/
def State.syncRuns (s : State) (g src : Nat) : Bool :=
  s.running && s.groupOn g && (s.sg g).running && s.act (F.SEQ_DG_CFG_SYNC_SRC g) == src && !s.blockHeld .sequencer

/-- SYNC_IN_EDGE: a rising edge on SYNC_IN predicts a frame start for every group that uses it; an edge no more than 2 fc after
the last accepted one is ignored (R146). -/
def execSyncInEdge (fc : Nat) (s : State) : Host.Outcome State Fault Refusal :=
  let s := s.at fc
  let near := match s.seq.syncEdge with | some t => decide (s.now ≤ t + 2) | none => false
  if near || s.pwr.off then .next s
  else
    let s := s.setSeq { s.seq with syncEdge := some s.now }
    .next (s.each (allGroups.filter (fun g => s.syncRuns g 2)) (fun s g =>
      s.reference g (s.now + s.actI (F.SEQ_DG_SYNC_OFS_SYNC_OFS g))))

/-! ### Donor diversity (R161, R162) -/

def State.divX (s : State) (q : Nat) : DivX := sparseGet divNone s.seq.divs q
def State.setDivX (s : State) (q : Nat) (x : DivX) : State := s.setSeq { s.seq with divs := sparseInsert s.seq.divs q x }
def nDivOf (v : Variant) : Nat := nPortOf v / 2

/-- One burst measured on both members of a pair, in 0.01 dB. -/
def State.divBurst (s : State) (q : Nat) (even odd : Int) : State :=
  let s := (s.puti (F.SEQ_DIV_LEVELS_LVL_EVEN q) even).puti (F.SEQ_DIV_LEVELS_LVL_ODD q) odd
  let x := s.divX q
  let used := s.get (F.SEQ_DIV_STATUS_SEL q)
  let d := if used = 0 then odd - even else even - odd
  let n := if 150 < d then min 255 (x.better + 1) else 0
  let bursts := x.bursts.map (fun b => min 256 (b + 1))
  let free := match bursts with | some b => decide (s.act (F.SEQ_DIV_CFG_MIN_BURSTS q) ≤ b) | none => true
  let s := s.setDivX q ⟨n, bursts⟩
  if s.act (F.SEQ_DIV_CFG_CONFIRM q) ≤ n ∧ n ≠ 0 ∧ free = true then s.putB (F.SEQ_DIV_STATUS_PENDING q) true else s

/-- The added delay of a slot in fc: G, 2.5 slot samples, 48 fc and 192 fc; how it comes to 1 fc the spec does not say (R68, R147). -/
def State.addedDelay (s : State) (sl : Nat) : Int :=
  let g := filterDelay (s.act (F.CHZ_SLOT_CFG_TRANS sl)) (s.act (F.CHZ_SLOT_CFG_REJ sl)) (s.actB (F.CHZ_SLOT_CFG_PHASE sl))
  openDiv ((g + 5) * s.slotDecim sl : Nat) 32 (Config.roundUp s.free) + 240

/-- A correlation peak stands `thr` dB or more above the mean magnitude (R147). -/
def burstFound (peak mean thr : Nat) : Bool := peak != 0 && decide (mean ^ 20 * 10 ^ thr ≤ peak ^ 20)

/-- SYNC_BURST: the detector of group `g` has a correlation peak of a burst whose residual came out of SYNC_SLOT's path `b.age` fc ago, by the
slot's added delay after it arrived at the donor port; `levels` are the burst levels on the even and odd member of each pair that the group
measures (R147, R161). A peak below SYNC_THR is no burst. -/
def execSyncBurst (fc g : Nat) (b : Burst) (levels : List (Nat × Int × Int)) (s : State) : Host.Outcome State Fault Refusal :=
  let s := s.at fc
  let go (s : State) : State :=
    let arrival := (s.now : Int) - b.age - s.addedDelay (s.act (F.SEQ_DG_CFG_SYNC_SLOT g))
    let s := s.tick.reference g (arrival + s.actI (F.SEQ_DG_SYNC_OFS_SYNC_OFS g))
    s.each (levels.filter (fun l => s.actB (F.SEQ_DIV_CFG_EN l.1) && s.act (F.SEQ_DIV_CFG_GROUP l.1) == g)) (fun s l =>
      s.divBurst l.1 l.2.1 l.2.2)
  okIf (g < 8 && levels.all (fun l => l.1 < nDivOf s.variant)) (
    if s.syncRuns g 1 && burstFound b.peak b.mean (s.act (F.SEQ_DG_SYNC_SYNC_THR g)) then go s else s)

/-- The DL slots that follow a pair. -/
def State.divSlots (s : State) (q : Nat) : List Nat :=
  s.slotsOn.filter (fun sl => !slotIsUl sl && s.actB (F.CHZ_SLOT_CFG_DIV sl) && s.act (F.CHZ_SLOT_CFG_SRC sl) / 2 == q)

/-- The boundary allows a switch: it is outside every DL interval of the pair's TDD groups, or a slot is FDD. -/
def State.divMay (s : State) (q : Nat) : Bool :=
  let gs := (s.divSlots q).map s.groupOfSlot
  gs.any (fun g => !s.isTdd g) || gs.all (fun g => match s.patAt g s.now with | some (2, _) => false | _ => true)

/-- Show the member in use on every slot of a pair. -/
def State.showDiv (s : State) (q : Nat) : State :=
  s.each (s.divSlots q) (fun s sl => s.put (F.CHZ_SLOT_STATUS_DIV_SEL sl) (s.get (F.SEQ_DIV_STATUS_SEL q)))

/-- A pending switch at a boundary: routing, dirty marking for one filter length, and a REPROBE with the present taps. In STANDBY diversity
is stopped (Table 6.6). -/
def State.divSwitch (s : State) (q : Nat) : State :=
  if !s.flag (F.SEQ_DIV_STATUS_PENDING q) || !s.divMay q || !s.running || s.blockHeld .sequencer then s
  else
    let s := (s.put (F.SEQ_DIV_STATUS_SEL q) (1 - s.get (F.SEQ_DIV_STATUS_SEL q))).putB (F.SEQ_DIV_STATUS_PENDING q) false
    let s := (s.bump (F.SEQ_DIV_STATUS_SWITCHES q) 1).setDivX q ⟨0, some 0⟩
    let s := s.showDiv q
    s.each (s.divSlots q) (fun s sl =>
      let s := s.markSlot sl (16 * s.now) (16 * s.now + s.fillLen sl) false
      if s.hasLane sl then s.setGg sl { s.gg sl with reprobe := some (false, false) } else s)

/-- A swap at the same boundary prevails over pending switches, and the comparison starts again (Table 6.7). -/
def State.dropSwitches (s : State) : State :=
  s.each (List.range (nDivOf s.variant)) (fun s q => (s.setDivX q { s.divX q with better := 0 }).putB (F.SEQ_DIV_STATUS_PENDING q) false)

/-! ### Timeout and HOLD (R151 to R153) -/

/-- The transmit timeout of a TDD group fires. -/
def State.txTimeout (s : State) (g : Nat) : State :=
  let s := ((s.putB (F.SEQ_DG_STATUS_TIMED_OUT g) true).bump (F.SEQ_DG_COUNT_TIMEOUTS g) 1).raise 16
  let s := s.setSg g { s.sg g with resumeAt := some (s.now + 3072) }
  ((s.transit g 0 (s.restOf g) false).adoptAnchor g).syncSeq

/-- The stay of a TDD group has reached its limit. -/
def State.stayOver (s : State) (g : Nat) : Bool :=
  s.isTdd g && (s.half g 0 == 2 || s.half g 0 == 3) &&
  decide ((s.sg g).stay + 3072 * s.act (F.SEQ_DG_LIMITS_TX_MAX_TURNS g) ≤ s.now)

/-- SEQ_TX_TIMEOUT: a stay in DL or UL reaches TX_MAX_TURNS; an interval that ends at the same fc ends without a timeout
(R151, Table 6.7). -/
def execSeqTxTimeout (fc g : Nat) (s : State) : Host.Outcome State Fault Refusal :=
  let s := s.at fc
  let ends := s.isEdge g s.now && s.schedTo g (s.half g 0) s.now != s.half g 0
  okIf (g < 8) (if s.stayOver g && !ends then s.txTimeout g else s)

/-- A HOLD expires. -/
def State.holdExpire (s : State) (g : Nat) : State :=
  let s := ((s.putB (F.SEQ_DG_STATUS_HOLD_EXPIRED g) true).put (F.SEQ_DG_STATUS_FAIL_CAUSE g) 1).bump (F.SEQ_DG_COUNT_HOLD_EXPIRIES g) 1
  ((s.raise 18).toRest g).syncSeq
def State.holdOver (s : State) (g : Nat) : Bool :=
  (s.half g 0 == 5 || s.half g 1 == 5) && !s.groupReady g &&
  decide (s.act (F.SEQ_DG_LIMITS_TX_HOLD_LIMIT g) ≤ s.get (F.SEQ_DG_STATUS_HOLD_TURNS g))

/-- SEQ_HOLD_EXPIRED: a group has spent TX_HOLD_LIMIT Turns in HOLD and is not ready (R153, Table 6.7). -/
def execSeqHoldExpired (fc g : Nat) (s : State) : Host.Outcome State Fault Refusal :=
  let s := s.at fc
  okIf (g < 8) (if s.holdOver g then s.holdExpire g else s)

/-- FDD halves at a boundary: a half that was permitted before it starts, or waits in HOLD (Table 6.2). -/
def State.fddBoundary (s : State) (perm : List Nat) (g : Nat) : State :=
  if !s.groupOn g || s.isTdd g || !s.permitted g then s
  else s.each [0, 1] (fun s h =>
    let cur := s.half g h
    if cur = 2 + h then s
    else if s.groupReady g then (if cur = 5 ∨ perm.contains g then s.transit g h (2 + h) true else s)
    else if cur = 5 ∨ !perm.contains g ∨ s.flag (F.SEQ_DG_STATUS_HOLD_EXPIRED g) then s
    else s.transit g h 5 true)

/-- M_SEQ of the Turn that begins (R141). -/
def State.seqMutes (s : State) : State :=
  s.each s.slotsOn (fun s sl =>
    let g := s.groupOfSlot sl
    let why := s.half g (s.halfOfSlot sl) == 5 || (s.isTdd g && s.syncState g == 4) || s.flag (F.SEQ_DG_STATUS_TIMED_OUT g)
    (s.putB (F.CHZ_SLOT_STATUS_M_SEQ sl) (why && !s.gateOpen sl)).syncMuted sl)

/-! ### Starting and stopping (R148, R167, R168, R410) -/

/-- A group starts under a Plan: rest, and ACQUIRING where it has a sync source; its frames start now. -/
def State.startGroup (s : State) (g : Nat) (keepSync : Bool) : State :=
  let s := s.each (s.halves g) (fun s h => s.transit g h (s.restOf g) false)
  let s := ((s.putB (F.SEQ_DG_STATUS_TIMED_OUT g) false).putB (F.SEQ_DG_STATUS_HOLD_EXPIRED g) false).put (F.SEQ_DG_STATUS_FAIL_CAUSE g) 0
  let s := s.put (F.SEQ_DG_STATUS_STATE g) (s.restOf g) |>.put (F.SEQ_DG_STATUS_STATE_UL g) (s.restOf g)
  let s := s.put (F.SEQ_DG_STATUS_HOLD_TURNS g) 0
  if keepSync then s.setSg g { s.sg g with anchor := none }
  else
    let src := s.act (F.SEQ_DG_CFG_SYNC_SRC g)
    let s := s.put (F.SEQ_DG_STATUS_SYNC_STATE g) (if s.groupOn g && src != 0 then 1 else 0)
    let s := (s.put (F.SEQ_DG_SYNC_ERR_ERR g) 0).put (F.SEQ_DG_SYNC_ERR_FRAMES_SINCE g) 0
    s.setSg g { sgNone with running := s.groupOn g, frameAt := s.now, moves := (s.sg g).moves }

/-- Every group starts, in LISTEN after STANDBY, or after a block reset. -/
def State.groupsStart (s : State) : State := ((s.each allGroups (fun s g => s.startGroup g false)).settlePins).syncSeq

/-- Fields of a group whose change stops it at a swap (Table 6.7). -/
def groupFields (g : Nat) : List Field :=
  [F.SEQ_DG_CFG_EN g, F.SEQ_DG_CFG_MODE g, F.SEQ_DG_CFG_REST g, F.SEQ_DG_CFG_SYNC_SRC g, F.SEQ_DG_CFG_SYNC_SLOT g,
   F.SEQ_DG_CFG_ENTRIES g, F.SEQ_DG_PERIOD_PERIOD g, F.SEQ_DG_SYNC_SYNC_TOL g, F.SEQ_DG_SYNC_ACQ_COUNT g, F.SEQ_DG_SYNC_SYNC_THR g,
   F.SEQ_DG_SYNC_OFS_SYNC_OFS g, F.SEQ_DG_LOSS_LOSS_FRAMES g, F.SEQ_DG_LOSS_EXPECT g] ++
  (List.range 32).flatMap (fun i => [F.SEQ_DG_PAT_START_START g i, F.SEQ_DG_PAT_START_STATE g i, F.SEQ_DG_PAT_LEN_LENGTH g i])
def pinFields (p : Nat) : List Field :=
  [F.SEQ_FE_CFG_EN p, F.SEQ_FE_CFG_GROUP p, F.SEQ_FE_CFG_HALF p, F.SEQ_FE_CFG_FUNC p, F.SEQ_FE_CFG_LVL_IDLE p, F.SEQ_FE_CFG_LVL_LISTEN p,
   F.SEQ_FE_CFG_LVL_DL p, F.SEQ_FE_CFG_LVL_UL p, F.SEQ_FE_CFG_LVL_GUARD p, F.SEQ_FE_CFG_LVL_SAFE p, F.SEQ_FE_OFS_TX_OFS_DL p,
   F.SEQ_FE_OFS_TX_OFS_UL p, F.SEQ_FE_OFS_RS_OFS_GUARD p, F.SEQ_FE_OFS_RS_OFS_REST p]
def Plan.ownsPin (p : Plan) (g pin : Nat) : Bool := p.on (F.SEQ_FE_CFG_EN pin) && p.get (F.SEQ_FE_CFG_GROUP pin) == g

/-- The sync configuration of a group differs between two Plans: its sync state is not kept. -/
def syncDiffers (p q : Plan) (g : Nat) : Bool :=
  let sl := q.get (F.SEQ_DG_CFG_SYNC_SLOT g)
  p.differs q [F.SEQ_DG_CFG_SYNC_SRC g, F.SEQ_DG_CFG_SYNC_SLOT g, F.SEQ_DG_SYNC_OFS_SYNC_OFS g, F.SEQ_DG_CFG_EN g] ||
  (q.get (F.SEQ_DG_CFG_SYNC_SRC g) == 1 &&
    (p.differs q [F.CHZ_SLOT_FREQ_FREQ sl, F.CHZ_SLOT_BW_BW sl] ||
     p.templates.filter (fun t => t.group == g) != q.templates.filter (fun t => t.group == g)))
def groupDiffers (p q : Plan) (g : Nat) : Bool :=
  p.differs q (groupFields g) || syncDiffers p q g ||
  allPins.any (fun pin => (p.ownsPin g pin || q.ownsPin g pin) && p.differs q (pinFields pin))

/-- The groups at a swap (Table 6.7). -/
def State.groupsSwap (s : State) (old : Plan) : State :=
  let s := s.each allGroups (fun s g =>
    if groupDiffers old s.active g then
      -- the halves that leave are those of the old mode; their events and pins are those of the new Plan
      let s := s.each (if old.on (F.SEQ_DG_CFG_MODE g) then [0] else [0, 1]) (fun s h =>
        if s.half g h < 2 then s
        else s.tick.carry g h (s.half g h) (s.restOf g) (s.now + Config.portDelay s.free % 257) false)
      let s := s.each [0, 1] (fun s h => s.moved g h (s.half g h) (s.restOf g) s.now)
      let s := (s.put (F.SEQ_DG_STATUS_STATE g) (s.restOf g)).put (F.SEQ_DG_STATUS_STATE_UL g) (s.restOf g)
      let s := s.startGroup g (!syncDiffers old s.active g)
      s.setSg g { s.sg g with resumeAt := some (s.now + 3072) }
    else
      let s := if s.stayOver g then s.txTimeout g else s
      if s.holdOver g then s.holdExpire g else s)
  let s := s.each (allPins.filter (fun p => old.differs s.active (pinFields p))) State.settlePin
  s.syncSeq

end Sys2Proof.Machine
end

