-- ==== Sys2Proof/Machine/Front.lean ====
section
/-! DEFINITION. The RFFE masters, the mismatch channels and the tuners of the Radio Sequencer (spec/06, R157 to R166), and what the
Sequencer does at a boundary and at a swap. -/
namespace Sys2Proof.Machine

/-! ### RFFE (R157 to R160) -/

def rffeBusy (b : Nat) : Field := if b = 0 then F.SEQ_STATUS_RFFE_A_BUSY else F.SEQ_STATUS_RFFE_B_BUSY
def rffeNack (b : Nat) : Field := if b = 0 then F.SEQ_RFFE_STATUS_NACK_A else F.SEQ_RFFE_STATUS_NACK_B
def rffeLate (b : Nat) : Field := if b = 0 then F.SEQ_RFFE_STATUS_LATE_A else F.SEQ_RFFE_STATUS_LATE_B
def State.rffeVerify (s : State) (b : Nat) : Bool := s.actB (if b = 0 then F.SEQ_RFFE_CFG_VERIFY_A else F.SEQ_RFFE_CFG_VERIFY_B)

/-- Precedence of R159: scheduled commands by issue time and index, then tuner writes, then the host command. -/
def RffeSrc.before : RffeSrc → RffeSrc → Bool
  | .sched i a, .sched j b => a < b || (a == b && i < j)
  | .sched _ _, _ => true
  | .tuner _ _, .host => true
  | _, _ => false

/-- The command that goes next among those waiting. -/
def nextRffe : List RffeCmd → Option RffeCmd
  | [] => none
  | c :: l => match nextRffe l with
    | some d => some (if d.src.before c.src then d else c)
    | none => some c

/-! How long a command takes (Table 6.5, R158), and what is read back (R160). -/

/-- Commands that read. -/
def rffeIsRead (kind : Nat) : Bool := kind == 2 || kind == 4
/-- The read of the register that a write goes to. -/
def rffeReadOf (kind : Nat) : Nat := if kind = 3 then 4 else 2
/-- Fabric cycles of a command on a bus. -/
def State.rffeTime (s : State) (b kind : Nat) : Nat :=
  let rate := s.act (if b = 0 then F.SEQ_RFFE_CFG_RATE_A else F.SEQ_RFFE_CFG_RATE_B)
  let half := s.actB (if b = 0 then F.SEQ_RFFE_CFG_HALF_RD_A else F.SEQ_RFFE_CFG_HALF_RD_B)
  [16, 25, 26, 34, 35].getD kind 0 * 60 * 2 ^ rate * (if half && rffeIsRead kind then 2 else 1)
/-- A write that is read back: VERIFY, and neither address 0x1C nor USID 0. -/
def State.rffeChecks (s : State) (b : Nat) (c : RffeCmd) : Bool :=
  s.rffeVerify b && !rffeIsRead c.kind && c.addr != 0x1C && c.usid != 0
/-- Fabric cycles of a command with its read-back. -/
def State.rffeLen (s : State) (b : Nat) (c : RffeCmd) : Nat :=
  s.rffeTime b c.kind + if s.rffeChecks b c then s.rffeTime b (rffeReadOf c.kind) else 0

/-- Scheduled commands are issued: not in SAFE and STANDBY (R159). -/
def State.schedRuns (s : State) : Bool := (s.pstate == 2 || s.pstate == 3) && !s.blockHeld .sequencer

/-- A transition still to come at which a command with a negative offset is already due, and the command's issue time. -/
def State.earlyRffe (s : State) (b i : Nat) : Option (Nat × Nat) :=
  let ev := s.act (F.SEQ_RFFE_CMD_AT_EVENT b i)
  let ofs := s.actI (F.SEQ_RFFE_CMD_AT_OFS b i)
  if !s.actB (F.SEQ_RFFE_CMD_AT_EN b i) || decide (0 ≤ ofs) then none
  else
    let g := ev / 4
    ((s.halves g).flatMap (fun h => (s.planned g h).filterMap (fun f =>
      if (eventsOf g f.2.1 f.2.2).contains ev && decide ((f.1 : Int) + ofs ≤ s.now) &&
          !(s.bus b).early.any (fun d => d.1 == i && d.2 == f.1) then some (f.1, ((f.1 : Int) + ofs).toNat) else none))).head?

/-- A scheduled command that goes before this one has fallen due and is not yet issued (R159, Table 6.7). -/
def State.rffeAhead (s : State) (b : Nat) (c : RffeSrc) : Bool :=
  s.schedRuns && ((s.bus b).due.any (fun d => decide (d.2 ≤ s.now) && (RffeSrc.sched d.1 d.2).before c) ||
    (List.range 64).any (fun i => (s.earlyRffe b i).any (fun f => (RffeSrc.sched i f.2).before c)))

/-- A free bus starts the command that goes next; a scheduled one more than 64 fc after its issue time is late. -/
def State.busStart (s : State) (b : Nat) : State :=
  let x := s.bus b
  match x.cur, nextRffe x.waiting with
  | none, some c =>
    if s.rffeAhead b c.src then s
    else
      let run := (c, s.rffeChecks b c, s.now + s.rffeLen b c)
      let s := (s.setBus b { x with cur := some run, waiting := x.waiting.erase c }).putB (rffeBusy b) true
      match c.src with
      | .sched _ t => if t + 64 < s.now then s.bump (rffeLate b) 1 else s
      | _ => s
  | _, _ => s

/-- Queue a command on a bus. A Register Write or Read with an address above 31, which Table 6.5 does not have, is issued with the address
as it stands (DESIGN CHOICE, log entry 65). -/
def State.rffeIssue (s : State) (b : Nat) (c : RffeCmd) : State :=
  let x := s.bus b
  (s.setBus b { x with waiting := x.waiting ++ [c] }).busStart b

/-- A tuner write of a port (R165). -/
def State.tunerWrite (s : State) (k code : Nat) : State :=
  s.rffeIssue (s.act (F.SEQ_TUN_CFG_BUS k))
    ⟨.tuner k code, if s.actB (F.SEQ_TUN_CFG_EXT k) then 3 else 1, s.act (F.SEQ_TUN_CFG_USID k), s.act (F.SEQ_TUN_CFG_ADDR k), code⟩

/-- Scheduled command `i` of a bus as it is issued; a Register 0 Write goes to address 0 with 7 bits of data. -/
def State.schedCmd (s : State) (b i t : Nat) : RffeCmd :=
  let kind := [0, 1, 3].getD (s.act (F.SEQ_RFFE_CMD_OP_KIND b i)) 0
  let data := s.act (F.SEQ_RFFE_CMD_OP_DATA b i)
  ⟨.sched i t, kind, s.act (F.SEQ_RFFE_CMD_OP_USID b i), if kind = 0 then 0 else s.act (F.SEQ_RFFE_CMD_OP_ADDR b i),
   if kind = 0 then data % 128 else data⟩

/-- RFFE_SCHEDULED_COMMAND: command `i` of a bus falls due and is issued; in SAFE and STANDBY none is (R159). -/
def execRffeScheduledCommand (fc b i : Nat) (s : State) : Host.Outcome State Fault Refusal :=
  let s := s.at fc
  let x := s.bus b
  let s' : State := match x.due.find? (fun d => d.1 == i && d.2 ≤ s.now) with
    | some d =>
      let s := s.setBus b { x with due := x.due.erase d }
      if s.schedRuns then s.rffeIssue b (s.schedCmd b i d.2) else s.busStart b
    | none => match (if s.schedRuns then s.earlyRffe b i else none) with
      | some f => (s.setBus b { x with early := (i, f.1) :: x.early }).rffeIssue b (s.schedCmd b i f.2)
      | none => s
  okIf (b < 2 && i < 64) s'

/-- HOST_RFFE_COMMAND: a write of `v` to SEQ_RFFE_HCMD. GO is ignored while BUSY, and for KIND 5 to 7 (Table 6.13). ADDR goes out with its
8 bits for every KIND: the spec gives Register Write and Read addresses 0 to 31 and no refusal (DESIGN CHOICE, log entry 65). -/
def execHostRffeCommand (fc v : Nat) (s : State) : Host.Outcome State Fault Refusal :=
  let s := s.at fc
  let kind := bits v 2 3
  let s := ((s.put F.SEQ_RFFE_HCMD_BUS (bits v 1 1)).put F.SEQ_RFFE_HCMD_KIND kind).put F.SEQ_RFFE_HCMD_USID (bits v 5 4)
  let s := (s.put F.SEQ_RFFE_HCMD_ADDR (bits v 9 8)).put F.SEQ_RFFE_HCMD_WDATA (bits v 17 8)
  if !bit v 0 || s.flag F.SEQ_RFFE_HCMD_BUSY || 4 < kind || s.blockHeld .sequencer then .next s
  else
    let c : RffeCmd := ⟨.host, kind, bits v 5 4, if kind = 0 then 0 else bits v 9 8, if kind = 0 then bits v 17 7 else bits v 17 8⟩
    .next ((s.putB F.SEQ_RFFE_HCMD_BUSY true).rffeIssue (bits v 1 1) c)

/-! ### Mismatch channels (R163 to R166) -/

def State.mmX (s : State) (m : Nat) : MmX := sparseGet mmNone s.seq.mms m
def State.setMmX (s : State) (m : Nat) (x : MmX) : State := s.setSeq { s.seq with mms := sparseInsert s.seq.mms m x }
/-- A channel works in RELAY only (Table 6.6), and not while the block is held. -/
def State.mmRuns (s : State) (m : Nat) : Bool := s.inRelay && s.actB (F.SEQ_MM_CFG_EN m) && !s.blockHeld .sequencer
/-- S ports of a channel, in ascending order. -/
def State.mmPorts (s : State) (m : Nat) : List Nat := (List.range (nPortOf s.variant)).filter (fun k => bit (s.act (F.SEQ_MM_CFG_PORTS m)) k)
def State.portMuted (s : State) (k : Nat) : Bool := s.getBit F.SEQ_PORT_MUTED_MUTED k
/-- The channel that watches a port. -/
def State.mmOfPort (s : State) (k : Nat) : Option Nat :=
  (List.range (nObsOf s.variant)).find? (fun m => s.actB (F.SEQ_MM_CFG_EN m) && (s.mmPorts m).contains k)
/-- The slots that feed a service port: its DAC follows the donor ones. -/
def State.slotsOfPort (s : State) (k : Nat) : List Nat := s.combSlots (nPortOf s.variant + k)

/-- Show a tuner's state (Table 6.24). -/
def State.syncTun (s : State) (k : Nat) : State :=
  let st := if s.portMuted k then 3
    else match s.mmOfPort k with
      | none => 0
      | some m => match (s.mmX m).search with
        | some q => if q.port = k then 2 else if s.actB (F.SEQ_TUN_CFG_EN k) && s.mmRuns m then 1 else 0
        | none => if s.actB (F.SEQ_TUN_CFG_EN k) && s.mmRuns m then 1 else 0
  s.put (F.SEQ_TUN_STATUS_STATE k) st
def State.syncTuns (s : State) : State :=
  let s := s.each (List.range (nPortOf s.variant)) State.syncTun
  let s := s.each (List.range (nObsOf s.variant)) (fun s m => s.putB (F.SEQ_MM_STATUS_SEARCHING m) (s.mmX m).search.isSome)
  s.live 19 (s.flag F.SEQ_PORT_MUTED_MUTED)

/-- An RL in 0.01 dB as a register field in 0.1 dB; how it rounds the spec does not state. -/
def State.rlField (s : State) (rl : Int) : Nat :=
  (clampInt 0 255 (rl / 10 + (if rl % 10 ≠ 0 ∧ Config.roundUp s.free then 1 else 0))).toNat

/-- A search has failed: SEQ_MISMATCH, and the port is muted from the next boundary (R166). -/
def State.portFails (s : State) (k : Nat) : State :=
  (s.setSeq { s.seq with muteNext := s.seq.muteNext ++ [k] }).raise 19

/-- A REPROBE with the present taps for every slot that feeds a port. -/
def State.portReprobe (s : State) (k : Nat) : State :=
  s.each ((s.slotsOfPort k).filter s.hasLane) (fun s sl => s.setGg sl { s.gg sl with reprobe := some (false, false) })

/-- A search ends with a code and its RL in 0.01 dB as `sum / n`. -/
def State.searchEnds (s : State) (m code : Nat) (sum : Int) (n : Nat) (ok : Bool) : State :=
  let x := s.mmX m
  match x.search with
  | none => s
  | some q =>
    let k := q.port
    let s := s.setMmX m { x with search := none, low := 0, dwell := s.ticks, rls := sparseInsert x.rls k (sum, n) }
    let s := (s.put (F.SEQ_TUN_STATUS_RL_BEST k) (s.rlField (openDiv sum n (Config.roundUp (s.free + 1))))).tick.tick
    let s := if !ok then s.portFails k else if code = q.code0 then s else s.portReprobe k
    s.syncTuns

/-- The search goes to its next candidate, or writes the best and ends. -/
def State.searchNext (s : State) (m : Nat) : State :=
  let x := s.mmX m
  match x.search with
  | none => s
  | some q =>
    match q.left with
    | c :: l =>
      let s := s.setMmX m { x with search := some { q with left := l, cand := c, written := false, failed := false, count := 0, sum := 0 } }
      s.tunerWrite q.port c
    | [] =>
      let s := s.tunerWrite q.port q.best
      s.searchEnds m q.best q.bestSum q.bestN (decide (10 * (s.act (F.SEQ_MM_THR_RL_MIN m) : Int) * q.bestN ≤ q.bestSum))

/-- Codes searched: from CODE_LO by STEP up to CODE_HI, without the present code. -/
def codesOf : Nat → Nat → Nat → Nat → List Nat
  | 0, _, _, _ => []
  | n + 1, c, hi, step => if hi < c then [] else c :: codesOf n (c + step) hi step

/-- A search of a port begins; a port whose tuner is not in use fails at once (R165). -/
def State.searchStart (s : State) (m k : Nat) : State :=
  if !s.actB (F.SEQ_TUN_CFG_EN k) then (s.portFails k).syncTuns
  else
    let x := s.mmX m
    let code := s.get (F.SEQ_TUN_STATUS_CODE k)
    let l := (codesOf 256 (s.act (F.SEQ_TUN_CFG_CODE_LO k)) (s.act (F.SEQ_TUN_CFG_CODE_HI k)) (s.act (F.SEQ_TUN_STEP_STEP k))).filter (· != code)
    let rl := sparseGet (x.rl, 1) x.rls k
    let s := s.setMmX m { x with search := some ⟨k, s.ticks, code, l, 0, false, false, 0, 0, code, rl.1, rl.2⟩ }
    ((s.bump (F.SEQ_TUN_STATUS_SEARCHES k) 1).searchNext m).syncTuns

/-- A DL slot that feeds a port had gated-in samples in the Turn just ended: there is something to measure (R164). -/
def State.portSpeaks (s : State) (k : Nat) : Bool := (s.slotsOfPort k).any (fun sl => !slotIsUl sl && !(s.gatedIn sl).isEmpty)

/-- What a channel measured over the Turn just ended (R164, R165). -/
def State.mmTurn (s : State) (r : MmMeas) : State :=
  let m := r.channel
  let x := s.mmX m
  let floor_ : Int := Int.neg (100 * s.act (F.SEQ_MM_SEARCH_FWD_MIN m))
  if !s.mmRuns m || !s.portSpeaks (s.get (F.SEQ_MM_STATUS_PORT m)) || r.fwd < floor_ then s
  else
    let rl := r.fwd - r.refl + 10 * s.actI (F.SEQ_MM_THR_CPL_OFS m)
    let show_ (s : State) : State := (s.put (F.SEQ_MM_STATUS_RL m) (s.rlField rl)).tick
    match x.search with
    | some q =>
      if !q.written || q.failed then s
      else
        let settle := s.act (F.SEQ_MM_SEARCH_SETTLE m)
        let meas := s.act (F.SEQ_MM_SEARCH_MEAS m)
        let used := decide (settle ≤ q.count) && decide (q.count < settle + meas)
        show_ (s.setMmX m { x with rl := rl, search := some { q with count := q.count + 1, sum := if used then q.sum + rl else q.sum } })
    | none =>
      if s.ticks < x.dwell + 5 then s
      else
        let low := decide (rl < 10 * s.act (F.SEQ_MM_THR_RL_MIN m))
        let n := if low then x.low + 1 else 0
        let k := s.get (F.SEQ_MM_STATUS_PORT m)
        let s := show_ (s.setMmX m { x with rl := rl, low := n, rls := sparseInsert x.rls k (rl, 1) })
        if low ∧ s.act (F.SEQ_MM_THR_MM_PERSIST m) ≤ n ∧ s.portMuted k = false then
          (s.setMmX m { s.mmX m with low := 0 }).searchStart m k
        else s

/-- TUNER_SEARCH_STEP: the settle and measure Turns of a step have ended, or its write has failed (R160, R165). -/
def execTunerSearchStep (fc m : Nat) (s : State) : Host.Outcome State Fault Refusal :=
  let s := s.at fc
  let s' : State := match (s.mmX m).search with
    | none => s
    | some q =>
      let meas := s.act (F.SEQ_MM_SEARCH_MEAS m)
      if q.failed then s.searchNext m
      else if !q.written || q.count < s.act (F.SEQ_MM_SEARCH_SETTLE m) + meas then s
      else
        let goal : Int := 10 * (s.act (F.SEQ_MM_THR_RL_MIN m) + s.act (F.SEQ_MM_THR_RL_HYST m))
        if goal * meas ≤ q.sum then s.searchEnds m q.cand q.sum meas true
        else
          let better := decide (q.bestSum * meas < q.sum * q.bestN)
          let q := if better then { q with best := q.cand, bestSum := q.sum, bestN := meas } else q
          (s.setMmX m { s.mmX m with search := some q }).searchNext m
  okIf (m < nObsOf s.variant) (if s.mmRuns m then s' else s)

/-- SEARCH_TIMEOUT: a search still running after SEARCH_MAX Turns ends in failure, with the best written (R165). -/
def execSearchTimeout (fc m : Nat) (s : State) : Host.Outcome State Fault Refusal :=
  let s := s.at fc
  let s' : State := match (s.mmX m).search with
    | none => s
    | some q =>
      if s.ticks < q.start + s.act (F.SEQ_TUN_STEP_SEARCH_MAX q.port) then s
      else (s.tunerWrite q.port q.best).searchEnds m q.best q.bestSum q.bestN false
  okIf (m < nObsOf s.variant) (if s.mmRuns m then s' else s)

/-- Put a channel on a port: its dwell starts, and its MUX pins name the port (R163). -/
def State.observe (s : State) (m k : Nat) : State :=
  let s := (s.put (F.SEQ_MM_STATUS_PORT m) k).setMmX m { s.mmX m with dwell := s.ticks, low := 0 }
  if !s.actB (F.SEQ_MM_CFG_MUX_EN m) then s
  else s.each [0, 1, 2] (fun s i => s.settlePin (s.act (F.SEQ_MM_CFG_MUX_FE m) + i))

/-- MISMATCH_DWELL: a dwell ends and the channel moves to its next port (R163); a search holds it (R165). -/
def execMismatchDwell (fc m : Nat) (s : State) : Host.Outcome State Fault Refusal :=
  let s := s.at fc
  let k := s.get (F.SEQ_MM_STATUS_PORT m)
  let ps := s.mmPorts m
  let next := match ps.find? (fun p => k < p) with | some p => some p | none => ps.head?
  let s' : State := match next with
    | some p => if (s.mmX m).search.isSome || s.ticks < (s.mmX m).dwell + s.act (F.SEQ_MM_CFG_DWELL m) then s else s.observe m p
    | none => s
  okIf (m < nObsOf s.variant) (if s.mmRuns m then s' else s)

/-- RETRY: a write of `v` to SEQ_PORT_CTRL; only ports muted for mismatch, whose channel is not searching, heed it (R166,
Table 6.7). -/
def execRetry (fc v : Nat) (s : State) : Host.Outcome State Fault Refusal :=
  let s := s.at fc
  let ok (k : Nat) : Bool := bit v k && s.portMuted k && (match s.mmOfPort k with
    | some m => (s.mmX m).search.isNone
    | none => true)
  .next (s.setSeq { s.seq with retryNext := s.seq.retryNext ++ (List.range (nPortOf s.variant)).filter ok })

/-- RFFE_COMMAND_END: the command on a bus ends, with its read-back: a read gave `rdata`, with its parity right or not; it has failed
where the parity is wrong, or a read-back differs from what was written (R160). -/
def execRffeCommandEnd (fc b : Nat) (parity : Bool) (rdata : Nat) (s : State) : Host.Outcome State Fault Refusal :=
  let s := s.at fc
  let x := s.bus b
  let s' : State := match x.cur with
    | none => s
    | some (c, checks, until_) =>
      let got := if c.kind = 0 then rdata % 128 else rdata
      let bad := (checks || rffeIsRead c.kind) && (!parity || (checks && got != c.data))
      let go (s : State) : State :=
        let s := (s.setBus b { x with cur := none }).putB (rffeBusy b) false
        let s := if bad then (s.bump (rffeNack b) 1).raise 20 else s
        let s : State := match c.src with
          | .sched _ _ => s
          | .tuner k code =>
            let s := if bad then s else s.put (F.SEQ_TUN_STATUS_CODE k) code
            match s.mmOfPort k with
            | none => s
            | some m => match (s.mmX m).search with
              | some q => if q.port = k ∧ q.cand = code ∧ q.written = false then
                  s.setMmX m { s.mmX m with search := some { q with written := true, failed := bad } }
                else s
              | none => s
          | .host =>
            let s := (s.putB F.SEQ_RFFE_HCMD_BUSY false).putB F.SEQ_RFFE_HCMD_ERR bad
            if rffeIsRead c.kind then s.put F.SEQ_RFFE_HDATA_RDATA rdata else s
        s.busStart b
      if s.now < until_ then s else go s
  okIf (b < 2 && rdata < 256) s'

/-! ### Boundaries, power states and swaps -/

/-- Ports muted and retried at a boundary (R166). -/
def State.portsBoundary (s : State) : State :=
  let mute := s.seq.muteNext
  let retry := s.seq.retryNext
  let s := s.setSeq { s.seq with muteNext := [], retryNext := [] }
  let s := s.each mute (fun s k => s.putBit F.SEQ_PORT_MUTED_MUTED k true)
  let s := s.each retry (fun s k =>
    if !s.portMuted k then s
    else
      let s := s.putBit F.SEQ_PORT_MUTED_MUTED k false
      match s.mmOfPort k with
      | none => s
      | some m => if s.mmRuns m && (s.mmX m).search.isNone then (s.observe m k).searchStart m k else s)
  s.syncTuns

/-- The ports whose search runs are attenuated from this boundary (R165). -/
def State.searchAttn (s : State) : State :=
  s.setSeq { s.seq with searched := s.seq.attn, attn := s.seq.mms.filterMap (fun m => m.2.search.map (·.port)) }

/-- The Sequencer at a boundary. `perm` are the groups that were permitted before it, a rest after a swap apart. -/
def State.seqBoundary (s : State) (perm : List Nat) (mm : List MmMeas) : State :=
  let s := s.each allGroups (fun s g =>
    if s.half g 0 = 5 ∨ s.half g 1 = 5 then s.bump (F.SEQ_DG_STATUS_HOLD_TURNS g) 1 else s)
  let s := s.each (allGroups.filter (fun g => !s.isTdd g)) (fun s g =>
    match (s.sg g).resumeAt with
    | some r => if r ≤ s.now then s.setSg g { s.sg g with resumeAt := none } else s
    | none => s)
  let s := s.seqRecheck
  let s := (s.each allGroups (fun s g => s.fddBoundary perm g)).syncSeq
  let s := s.each (List.range (nDivOf s.variant)) State.divSwitch
  let s := s.searchAttn.portsBoundary
  let s := s.each (List.range (nObsOf s.variant)) (fun s m =>
    match mm.find? (fun r => r.channel == m) with | some r => s.mmTurn r | none => s)
  s.syncTuns.seqMutes

/-- Scheduled commands do not run in SAFE and STANDBY (R159): none waits any longer. -/
def State.dropScheduled (s : State) : State :=
  s.each [0, 1] (fun s b =>
    let x := s.bus b
    let l := x.waiting.filter (fun c => match c.src with | .sched _ _ => false | _ => true)
    (s.setBus b { x with due := [], early := [], waiting := l }).busStart b)

/-- A channel starts afresh; what was last measured is kept. -/
def State.mmClear (s : State) (m : Nat) : State := s.setMmX m { mmNone with rl := (s.mmX m).rl, rls := (s.mmX m).rls }

/-- Mismatch channels go idle: a running search is abandoned (Table 6.6). -/
def State.mmIdle (s : State) : State :=
  (s.each (List.range (nObsOf s.variant)) State.mmClear).syncTuns

/-- Channels start on their first port on entry to RELAY. -/
def State.mmStart (s : State) : State :=
  (s.each ((List.range (nObsOf s.variant)).filter s.mmRuns) (fun s m =>
    match (s.mmPorts m).head? with | some k => s.observe m k | none => s)).syncTuns

/-- The module has changed state at a boundary (Table 6.6). -/
def State.seqState (s : State) (old : Nat) : State :=
  let new := s.pstate
  let s := if new = 4 ∨ new = 1 ∨ new = 0 then s.dropScheduled else s
  let s := if old = 3 ∧ new ≠ 3 then s.mmIdle else s
  let s := if old ≤ 1 ∧ new = 2 then s.groupsStart else s
  let s := s.seqRecheck
  let s := if s.pinsForced || old ≤ 1 || old = 4 then s.settlePins else s
  if new = 3 ∧ old ≠ 3 then s.mmStart else s

def tunFields (k : Nat) : List Field :=
  [F.SEQ_TUN_CFG_EN k, F.SEQ_TUN_CFG_BUS k, F.SEQ_TUN_CFG_USID k, F.SEQ_TUN_CFG_EXT k, F.SEQ_TUN_CFG_ADDR k, F.SEQ_TUN_CFG_CODE_LO k,
   F.SEQ_TUN_CFG_CODE_HI k, F.SEQ_TUN_STEP_STEP k, F.SEQ_TUN_STEP_CODE_INIT k, F.SEQ_TUN_STEP_SEARCH_MAX k]
def mmFields (m : Nat) : List Field :=
  [F.SEQ_MM_CFG_EN m, F.SEQ_MM_CFG_MUX_EN m, F.SEQ_MM_CFG_PORTS m, F.SEQ_MM_CFG_MUX_FE m, F.SEQ_MM_CFG_DWELL m, F.SEQ_MM_THR_RL_MIN m,
   F.SEQ_MM_THR_RL_HYST m, F.SEQ_MM_THR_MM_PERSIST m, F.SEQ_MM_THR_CPL_OFS m, F.SEQ_MM_SEARCH_SETTLE m, F.SEQ_MM_SEARCH_MEAS m,
   F.SEQ_MM_SEARCH_SEARCH_ATTN m, F.SEQ_MM_SEARCH_FWD_MIN m]
def rffeFields (b i : Nat) : List Field :=
  [F.SEQ_RFFE_CMD_OP_KIND b i, F.SEQ_RFFE_CMD_OP_USID b i, F.SEQ_RFFE_CMD_OP_ADDR b i, F.SEQ_RFFE_CMD_OP_DATA b i,
   F.SEQ_RFFE_CMD_AT_EN b i, F.SEQ_RFFE_CMD_AT_EVENT b i, F.SEQ_RFFE_CMD_AT_OFS b i]

/-- A swap has committed: groups and pins, diversity comparisons, mismatch channels, tuners and RFFE commands (R166, R168, Table
7.6). -/
def State.seqSwap (s : State) (old : Plan) : State :=
  let new := s.active
  let s := s.each [0, 1] (fun s b =>
    let x := s.bus b
    let same (i : Nat) : Bool := !old.differs new (rffeFields b i)
    let keep (c : RffeCmd) : Bool := match c.src with | .sched i _ => same i | _ => true
    let y := { x with due := x.due.filter (fun d => same d.1), early := x.early.filter (fun d => same d.1), waiting := x.waiting.filter keep }
    (s.setBus b y).busStart b)
  let s := s.groupsSwap old
  let s := s.each (List.range (nDivOf s.variant)) (fun s q =>
    ((s.setDivX q { s.divX q with better := 0 }).putB (F.SEQ_DIV_STATUS_PENDING q) false).showDiv q)
  let s := s.each (slotsOf s.variant) (fun s sl =>
    if s.slotOn sl && s.actB (F.CHZ_SLOT_CFG_DIV sl) then s else s.put (F.CHZ_SLOT_STATUS_DIV_SEL sl) 0)
  let changed := (List.range (nObsOf s.variant)).filter (fun m => old.differs new (mmFields m))
  -- a port whose tuner or channel changed is unmuted
  let s := s.each (List.range (nPortOf s.variant)) (fun s k =>
    let touched := changed.any (fun m => bit (old.get (F.SEQ_MM_CFG_PORTS m)) k || bit (new.get (F.SEQ_MM_CFG_PORTS m)) k)
    let s := if touched || old.differs new (tunFields k) then
        (s.putBit F.SEQ_PORT_MUTED_MUTED k false).setSeq { s.seq with muteNext := s.seq.muteNext.filter (· != k) }
      else s
    let s := if old.differs new (tunFields k) then
        s.each (List.range (nObsOf s.variant)) (fun s m => match (s.mmX m).search with
          | some q => if q.port = k then s.setMmX m { s.mmX m with search := none, low := 0 } else s
          | none => s)
      else s
    if s.actB (F.SEQ_TUN_CFG_EN k) && old.differs new (tunFields k) then s.tunerWrite k (new.get (F.SEQ_TUN_STEP_CODE_INIT k)) else s)
  let s := s.each changed State.mmClear
  let s := s.each (changed.filter s.mmRuns) (fun s m => match (s.mmPorts m).head? with | some k => s.observe m k | none => s)
  s.syncTuns.syncSeq

/-- The block is held in reset: every gate closed, every pin SAFE, no command issued, channels idle (R410). -/
def State.seqHold (s : State) : State :=
  let s := s.each allGroups State.toRest
  let s := s.setSeq { s.seq with buses := eachOf 2 busNone, edges := [] }
  let s := ((s.putB F.SEQ_STATUS_RFFE_A_BUSY false).putB F.SEQ_STATUS_RFFE_B_BUSY false).putB F.SEQ_RFFE_HCMD_BUSY false
  (s.mmIdle.settlePins).syncSeq
/-- It restarts: every group in rest, ACQUIRING where it has a sync source (R410). -/
def State.seqRestart (s : State) : State := if s.running then s.groupsStart.mmStart else s


end Sys2Proof.Machine
end

