-- ==== Sys2Proof/Machine/Lookup.lean ====
section
/-! DEFINITION. Finding a register by its offset, and its fields (R8, R9, R14). -/
namespace Sys2Proof.Machine

/-- The indices at which a register row has `off`, if any. -/
def rowAt (r : RegRow) (off : Nat) : Option (Nat × Nat) :=
  let d := off - r.base
  let i := d / r.s1
  let rem := d % r.s1
  if off < r.base || r.n1 ≤ i || rem % r.s2 != 0 || r.n2 ≤ rem / r.s2 then none else some (i, rem / r.s2)

/-- The row that holds a register, with its first index. -/
def findIn (off : Nat) : List RegRow → Option (RegRow × Nat)
  | [] => none
  | r :: l => match rowAt r off with
    | some (i, _) => some (r, i)
    | none => findIn off l
def findReg (off : Nat) : Option (RegRow × Nat) := findIn off regTable

def fieldAt (f : FieldRow) (off : Nat) : Field := ⟨off, f.lo, f.width, f.reset⟩

/-- The staged fields of a row. -/
def rwsOf (r : RegRow) : List FieldRow := r.fields.filter (fun f => f.acc == .rws)

/-- Bits of a word that a list of fields covers. -/
def maskOf (l : List FieldRow) : Nat := l.foldl (fun a f => a ||| ((2 ^ f.width - 1) <<< f.lo)) 0

end Sys2Proof.Machine
end

