-- ==== Sys2Proof/Machine/PlanCheck.lean ====
section
/-! DEFINITION. Validation of a Plan (spec/07, R181, R408): every rule that says a Plan is refused, as a list of refusals
(code of Table 7.4, item, OFS_LO); the first in the order of Table 7.4 is reported. -/
namespace Sys2Proof.Machine

/-- A refusal: code, item, OFS_LO. -/
abbrev Refuse := Nat × Nat × Nat

/-- The refusal whose item is a register (R181). -/
def regItem (code : Nat) (f : Field) : Refuse := (code, f.off / 16 % 65536, f.off / 4 % 4)
def refuseIf (b : Bool) (r : Refuse) : List Refuse := if b then [r] else []

def refuseBefore (a b : Refuse) : Bool :=
  a.1 < b.1 || (a.1 == b.1 && (a.2.1 < b.2.1 || (a.2.1 == b.2.1 && a.2.2 < b.2.2)))
/-- The first failure in the order of Table 7.4, and of the item. -/
def firstRefusal (l : List Refuse) : Option Refuse :=
  l.foldl (fun b r => match b with | some a => if refuseBefore r a then some r else some a | none => some r) none

def Plan.slots (p : Plan) (v : Variant) : List Nat := (slotsOf v).filter p.slotOn
def tapsMax : Variant → Nat | .gw6432 => 262144 | .gw6416 => 131072
def unitsMax : Variant → Nat | .gw6432 => 13020833 | .gw6416 => 6510416

/-! ### Slots and routing (R2, R58, R65, R66, R69, R71) -/

/-- Role of an ADC number: 0 donor, 1 service, 2 observation; none absent. -/
def adcRole (v : Variant) (n : Nat) : Option Nat :=
  if nAdcOf v ≤ n then none else if n < nPortOf v then some 0 else if n < 2 * nPortOf v then some 1 else some 2

def slotFaults (p : Plan) (v : Variant) (s : Nat) : List Refuse :=
  let src := p.get (F.CHZ_SLOT_CFG_SRC s)
  let ul := slotIsUl s
  let mask := p.get (F.CHZ_SLOT_COMB_COMB_MASK s)
  let rate := p.get (F.CHZ_SLOT_CFG_RATE s)
  let bw := p.get (F.CHZ_SLOT_BW_BW s)
  let (lo, hi) := p.band s
  let g0 := p.geti (F.CHZ_SLOT_GAIN_LIM_GAIN_MIN s)
  let g1 := p.geti (F.CHZ_SLOT_GAIN_LIM_GAIN_MAX s)
  let gi := p.geti (F.CHZ_SLOT_GAIN_GAIN_INIT s)
  let out (g : Int) : Bool := g < -600 || 1200 < g
  let np := nPortOf v
  -- combiners 0 to np − 1 take UL slots, the others DL slots
  let wrong := (dacsOf v).any (fun k => bit mask k && (k < np) != ul)
  refuseIf ((adcRole v src).isNone || mask / 2 ^ nDacOf v != 0) (6, s, 0) ++
  refuseIf (match adcRole v src with | some r => r != b2n ul | none => false) (7, nAdcOf v + homeTile v s, 0) ++
  refuseIf (p.on (F.CHZ_SLOT_CFG_DIV s) && ul || wrong || rate == 7 || bw == 0 || 625 * 2 ^ rate < bw ||
    p.get (F.CHZ_SLOT_CFG_TRANS s) == 3 || p.get (F.CHZ_SLOT_CFG_REJ s) == 3 ||
    decide (lo < kHz 350000) || decide (kHz 7125000 < hi) || out g0 || out g1 || out gi || decide (g1 < g0)) (8, s, 0)

/-- Two enabled slots take their words from one ADC: two with DIV = 1 on one diversity pair share whichever member is chosen (R58,
R162). Where one slot alone has DIV = 1, SRC decides (DEDUCED, log entry 66). -/
def Plan.sameAdc (p : Plan) (s t : Nat) : Bool :=
  let a := p.get (F.CHZ_SLOT_CFG_SRC s)
  let b := p.get (F.CHZ_SLOT_CFG_SRC t)
  if p.on (F.CHZ_SLOT_CFG_DIV s) && p.on (F.CHZ_SLOT_CFG_DIV t) then a / 2 == b / 2 else a == b

/-- Two enabled slots of one direction on one ADC and a common combiner overlap (R66). -/
def overlapFaults (p : Plan) (v : Variant) : List Refuse :=
  let l := p.slots v
  (l.filter (fun s => l.any (fun t => s != t && slotIsUl s == slotIsUl t &&
    p.sameAdc s t &&
    (p.get (F.CHZ_SLOT_COMB_COMB_MASK s) &&& p.get (F.CHZ_SLOT_COMB_COMB_MASK t)) != 0 &&
    decide ((p.band s).1 < (p.band t).2) && decide ((p.band t).1 < (p.band s).2)))).map (fun s => (8, s, 0))

/-- First detector port and the number of them (Table 3.1): Guard detectors, Sequencer detectors, Guard references. -/
def routePorts : Variant → List Nat
  | .gw6432 => (List.range 56).map (· + 180)
  | .gw6416 => (List.range 28).map (· + 90)
/-- The offset of a FAB_ROUTE register whose port has a fixed role: writes to it are ignored (Table 3.15). -/
def routeFixed (v : Variant) (off : Nat) : Bool :=
  (F.FAB_ROUTE_SRC 0).off ≤ off && off < (F.FAB_ROUTE_SRC 256).off && !(routePorts v).contains ((off - (F.FAB_ROUTE_SRC 0).off) / 4)
/-- The bits of a register word that a write may set: bits of a mask that name combiners or ports absent on the variant are ignored (R2,
R204). -/
def presentMask (v : Variant) (off : Nat) : Nat :=
  let without (lo w n : Nat) : Nat := 2 ^ 32 - 1 - (2 ^ w - 2 ^ n) * 2 ^ lo
  match findReg off with
  | some (r, _) =>
    if r.base == (F.CHZ_SLOT_COMB_COMB_MASK 0).off then without 0 16 (nDacOf v)
    else if r.base == (F.SEQ_MM_CFG_PORTS 0).off then without 2 8 (nPortOf v)
    else 2 ^ 32 - 1
  | none => 2 ^ 32 - 1

/-- Ports after the combiners': ADC, tile and combiner ingress lanes lie below it. -/
def laneEnd : Variant → Nat | .gw6432 => 172 | .gw6416 => 86

def routeFaults (p : Plan) (v : Variant) : List Refuse :=
  let ports := routePorts v
  let src (e : Nat) : Nat := p.get (F.FAB_ROUTE_SRC e)
  let zero (e : Nat) : Bool := p.on (F.FAB_ROUTE_ZERO e)
  let obs (e : Nat) : Bool := adcRole v (src e) == some 2
  ports.flatMap (fun e =>
    refuseIf (!zero e && nFportOf v ≤ src e) (6, e, 0) ++ refuseIf (!zero e && laneEnd v ≤ src e && src e < nFportOf v) (7, e, 0)) ++
  ((List.range (nEmOf v)).filter (fun c => p.on (F.GRD_EM_CFG_EN c))).flatMap (fun c =>
    let (a, b, r) := emPorts v c
    let comb := p.get (F.GRD_EM_CFG_COMB c)
    refuseIf (nDacOf v ≤ comb) (6, c, 0) ++
    refuseIf (!zero a && !obs a) (7, a, 0) ++ refuseIf (!zero b && !obs b) (7, b, 0) ++
    refuseIf (zero r || src r != laneEnd v - nDacOf v + comb) (7, r, 0)) ++
  ((List.range (nObsOf v)).filter (fun m => p.on (F.SEQ_MM_CFG_EN m))).flatMap (fun m =>
    let e := (match v with | .gw6432 => 212 | .gw6416 => 106) + 2 * m
    refuseIf (zero e || !obs e) (7, e, 0) ++ refuseIf (zero (e + 1) || !obs (e + 1)) (7, e + 1, 0))

/-! ### The Gouge (R86 to R88, R113, Table 4.11) -/

def gougeFaults (p : Plan) (v : Variant) : List Refuse :=
  let l := p.slots v
  let n (s : Nat) : Nat := 32 * p.get (F.GOUGE_SLOT_ALLOC_TAPS s)
  let bad (s : Nat) : Bool :=
    let taps := p.get (F.GOUGE_SLOT_ALLOC_TAPS s)
    let out (a b x : Nat) : Bool := x < a || b < x
    128 < taps || 1500 < p.get (F.GOUGE_SLOT_LIMITS_ISO_PRESET s) ||
    (taps != 0 && (8191 < p.get (F.GOUGE_SLOT_ALLOC_DELAY s) ||
      (p.on (F.GOUGE_SLOT_ALLOC_DELAY_AUTO s) && taps ≤ p.get (F.GOUGE_SLOT_ALLOC_PRE_TAPS s)) ||
      out 1 32768 (p.get (F.GOUGE_SLOT_ADAPT_MU s)) || out 1 32768 (p.get (F.GOUGE_SLOT_ADAPT_MU_PROBE s)) ||
      out 64 4096 (p.get (F.GOUGE_SLOT_PROBE_PROBE_TURNS s)) || out 20 60 (p.get (F.GOUGE_SLOT_PROBE_PROBE_LEVEL s)) ||
      450 < p.get (F.GOUGE_SLOT_LIMITS_CANCEL_CAP s) || 10 < p.get (F.GOUGE_SLOT_LIMITS_CANCEL_AVG s) ||
      (p.on (F.GOUGE_SLOT_ALLOC_START s) && !p.coefs.any (fun c => c.slot == s && c.taps == n s && c.delay ≤ 8191))))
  (l.filter bad).map (fun s => (11, s, 0)) ++
  refuseIf (tapsMax v < l.foldl (fun a s => a + n s) 0) (9, 0, 0) ++
  refuseIf (unitsMax v < l.foldl (fun a s => a + n s * 2 ^ p.get (F.CHZ_SLOT_CFG_RATE s)) 0) (10, 0, 0) ++
  (p.coefs.filter (fun c => !p.on (F.GOUGE_SLOT_ALLOC_START c.slot))).map (fun c => (11, c.slot, 0)) ++
  refuseIf (p.get F.GOUGE_CFG_CKPT_TURNS == 0 || p.get F.GOUGE_CFG_STALE_TURNS == 0 || p.get F.GOUGE_CFG_DIV_THRESH == 0 ||
    45 < p.get F.GOUGE_CFG_PROBE_MIN) (regItem 11 F.GOUGE_CFG_CKPT_TURNS)

/-! ### The Guard (R117, R120, R126, R128, R412, Tables 5.9 and 5.10) -/

def guardFaults (p : Plan) (v : Variant) : List Refuse :=
  let pairOn (s : Nat) : Bool := !slotIsUl s && p.on (F.GRD_SLOT_CFG_PAIR_EN s)
  let pair (s : Nat) : Nat := p.get (F.GRD_SLOT_CFG_PAIR s)
  let bad (s : Nat) : Bool :=
    p.get (F.GRD_SLOT_CFG_MARGIN s) < 60 || 300 < p.get (F.GRD_SLOT_CFG_MARGIN s) ||
    (p.get (F.GOUGE_SLOT_ALLOC_TAPS s) == 0 && 511 < p.get (F.GRD_SLOT_CFG_LOOP_LAG s)) ||
    (pairOn s && slotIn v (pair s) && !(slotIsUl (pair s) && p.slotOn (pair s))) ||
    p.get (F.GRD_SLOT_THR_OSC_RISE s) < 2 || p.get (F.GRD_SLOT_THR_OSC_PEAK s) < 3 ||
    p.get (F.GRD_SLOT_THR_WARN_MARGIN s) ≤ p.get (F.GRD_SLOT_THR_OSC_MAC s) ||
    p.get (F.GRD_SLOT_LEVELS_NR_PERSIST s) == 0 || p.get (F.GRD_SLOT_LEVELS_WARN_PERSIST s) == 0 ||
    p.get (F.GRD_SLOT_LEVELS_DL_PERSIST s) == 0
  (p.slots v).flatMap (fun s => refuseIf (pairOn s && !slotIn v (pair s)) (6, s, 0) ++ refuseIf (bad s) (12, s, 0)) ++
  ((List.range (nEmOf v)).filter (fun c => p.on (F.GRD_EM_CFG_EN c) && p.get (F.GRD_EM_CFG_PERSIST c) == 0)).map (fun c => (12, c, 0)) ++
  refuseIf (p.get F.GRD_CFG_DIR_ESC == 0 || p.get F.GRD_CFG_LATCH_ESC == 0 || p.get F.GRD_CFG_OSC_RELAPSE == 0 ||
    p.get F.GRD_CFG_ESC_WINDOW == 0) (regItem 12 F.GRD_CFG_DIR_ESC) ++
  refuseIf (p.get F.GRD_HOLD_SLOT_HOLD < 16 || p.get F.GRD_HOLD_DIR_HOLD < 16) (regItem 12 F.GRD_HOLD_SLOT_HOLD)

/-! ### The Sequencer (R138, R144, R146, R147, R155, R158, R159, R161, R163, R409) -/

/-- Pattern entries: start, end, state (0 DL, 1 UL, 2 GUARD). -/
def Plan.pattern (p : Plan) (g : Nat) : List (Nat × Nat × Nat) :=
  (List.range (p.get (F.SEQ_DG_CFG_ENTRIES g))).map (fun i =>
    let a := p.get (F.SEQ_DG_PAT_START_START g i)
    (a, a + p.get (F.SEQ_DG_PAT_LEN_LENGTH g i), p.get (F.SEQ_DG_PAT_START_STATE g i)))

/-- Each entry with its successor, the last with the first of the next frame. -/
def cyclePairs {α : Type} (l : List α) : List (α × α) := l.zip (l.drop 1 ++ l.take 1)

/-- Entries ascend without overlap. -/
def ascending : List (Nat × Nat × Nat) → Bool
  | a :: b :: l => a.2.1 ≤ b.1 && ascending (b :: l)
  | _ => true

/-- Longest run from an entry on, over `n` further entries that join it in the same state. -/
def runFrom (period : Nat) : List (Nat × Nat × Nat) → Nat × Nat × Nat → Nat
  | [], e => e.2.1 - e.1
  | f :: l, e => if e.2.2 == f.2.2 && e.2.1 % period == f.1 then (e.2.1 - e.1) + runFrom period l f else e.2.1 - e.1

/-- The pattern of a TDD group keeps R144. -/
def patternOk (p : Plan) (g : Nat) : Bool :=
  let per := p.get (F.SEQ_DG_PERIOD_PERIOD g)
  let l := p.pattern g
  let tx := p.get (F.SEQ_DG_LIMITS_TX_MAX_TURNS g)
  let meets (a b : Nat × Nat × Nat) : Bool := a.2.1 % per == b.1
  let n := l.length
  768000 ≤ per && per ≤ 30720000 && n ≤ 32 && tx != 0 && ascending l &&
  l.all (fun e => e.1 < e.2.1 && e.2.1 ≤ per && e.2.2 != 3 && (e.2.2 != 2 || 460 ≤ e.2.1 - e.1)) &&
  (cyclePairs l).all (fun c => !(meets c.1 c.2 && c.1.2.2 + c.2.2.2 == 1)) &&
  -- a GUARD entry lies directly between a DL and a UL interval
  (cyclePairs l).all (fun c => c.2.2.2 != 2 || (meets c.1 c.2 && c.1.2.2 < 2 &&
    (cyclePairs l).any (fun d => d.1 == c.2 && meets d.1 d.2 && d.2.2.2 + c.1.2.2 == 1))) &&
  -- a run that never ends exceeds every limit
  !((cyclePairs l).all (fun c => meets c.1 c.2 && c.1.2.2 == c.2.2.2) && n != 0) &&
  (List.range n).all (fun i =>
    let rot := l.drop i ++ l.take i
    match rot with
    | e :: rest => e.2.2 == 2 || decide (runFrom per (rest ++ [e]) e ≤ (tx - 1) * 3072)
    | [] => true)

/-- The transitions of a pattern over one frame: time, the state left, the state entered (Table 6.1). -/
def Plan.patternMoves (p : Plan) (g : Nat) : List (Nat × Nat × Nat) :=
  let per := p.get (F.SEQ_DG_PERIOD_PERIOD g)
  let rest := p.get (F.SEQ_DG_CFG_REST g)
  let l := p.pattern g
  (cyclePairs l).flatMap (fun c =>
    let a := c.1
    let b := c.2
    if a.2.1 % per == b.1 then (if a.2.2 == b.2.2 then [] else [(a.2.1, a.2.2 + 2, b.2.2 + 2)])
    else [(a.2.1, a.2.2 + 2, rest), (if a.2.1 ≤ b.1 then b.1 else b.1 + per, rest, b.2.2 + 2)])

def Plan.pinLevel (p : Plan) (pin st : Nat) : Bool :=
  p.on (match st with
    | 0 => F.SEQ_FE_CFG_LVL_IDLE pin | 1 => F.SEQ_FE_CFG_LVL_LISTEN pin | 2 => F.SEQ_FE_CFG_LVL_DL pin
    | 3 => F.SEQ_FE_CFG_LVL_UL pin | _ => F.SEQ_FE_CFG_LVL_GUARD pin)
def Plan.pinOfs (p : Plan) (pin st : Nat) : Int :=
  p.geti (match st with
    | 2 => F.SEQ_FE_OFS_TX_OFS_DL pin | 3 => F.SEQ_FE_OFS_TX_OFS_UL pin | 4 => F.SEQ_FE_OFS_RS_OFS_GUARD pin
    | _ => F.SEQ_FE_OFS_RS_OFS_REST pin)

/-- The edges a pattern gives a pin are in strict time order, across the frame edge too (R155). -/
def pinOrdered (p : Plan) (pin : Nat) : Bool :=
  let g := p.get (F.SEQ_FE_CFG_GROUP pin)
  let per : Int := p.get (F.SEQ_DG_PERIOD_PERIOD g)
  let es := ((p.patternMoves g).filter (fun m => p.pinLevel pin m.2.1 != p.pinLevel pin m.2.2)).map (fun m =>
    (m.1 : Int) + p.pinOfs pin m.2.2)
  (es.zip (es.drop 1 ++ (es.take 1).map (· + per))).all (fun c => decide (c.1 < c.2))

def groupFaults (p : Plan) (v : Variant) (g : Nat) : List Refuse :=
  let src := p.get (F.SEQ_DG_CFG_SYNC_SRC g)
  let per := p.get (F.SEQ_DG_PERIOD_PERIOD g)
  let loss := p.get (F.SEQ_DG_LOSS_LOSS_FRAMES g)
  let expect := p.get (F.SEQ_DG_LOSS_EXPECT g)
  let sl := p.get (F.SEQ_DG_CFG_SYNC_SLOT g)
  let ofs := p.get (F.SEQ_DG_LIMITS_TX_HOLD_LIMIT g)
  let synced := src == 1 || src == 2
  refuseIf (src == 1 && !slotIn v sl) (6, g, 0) ++
  refuseIf (src == 3 || ofs == 0 || (p.on (F.SEQ_DG_CFG_MODE g) && (src == 0 || !patternOk p g)) ||
    (synced && (p.get (F.SEQ_DG_SYNC_SYNC_TOL g) == 0 || p.get (F.SEQ_DG_SYNC_ACQ_COUNT g) == 0 || loss == 0)) ||
    (src == 1 && (p.get (F.SEQ_DG_SYNC_SYNC_THR g) < 6 || expect == 0 || loss ≤ expect ||
      (slotIn v sl && (slotIsUl sl || !p.slotOn sl || p.on (F.CHZ_SLOT_CFG_PHASE sl))))) ||
    (src == 2 && (per == 0 || 1536000000 % per != 0 || loss ≤ 1536000000 / per))) (13, g, 0) ++
  refuseIf (src == 1 && !p.templates.any (fun t => t.group == g)) (14, g, 0)

def seqFaults (p : Plan) (v : Variant) : List Refuse :=
  (p.slots v).flatMap (fun s =>
    let g := p.get (F.SEQ_SLOT_GRP_GROUP s)
    let q := p.get (F.CHZ_SLOT_CFG_SRC s) / 2
    refuseIf (!p.on (F.SEQ_DG_CFG_EN g)) (13, g, 0) ++
    refuseIf (!slotIsUl s && p.on (F.CHZ_SLOT_CFG_DIV s) && q < nDivOf v && !p.on (F.SEQ_DIV_CFG_EN q)) (13, q, 0)) ++
  (allGroups.filter (fun g => p.on (F.SEQ_DG_CFG_EN g))).flatMap (groupFaults p v) ++
  ((List.range (nDivOf v)).filter (fun q => p.on (F.SEQ_DIV_CFG_EN q) &&
    p.get (F.SEQ_DG_CFG_SYNC_SRC (p.get (F.SEQ_DIV_CFG_GROUP q))) != 1)).map (fun q => (13, q, 0)) ++
  (allPins.filter (fun n => p.on (F.SEQ_FE_CFG_EN n))).flatMap (fun n =>
    let g := p.get (F.SEQ_FE_CFG_GROUP n)
    let func := p.get (F.SEQ_FE_CFG_FUNC n)
    refuseIf (func == 7 || (func != 6 && p.on (F.SEQ_DG_CFG_EN g) && p.on (F.SEQ_DG_CFG_MODE g) && !pinOrdered p n)) (13, n, 0)) ++
  ((List.range (nObsOf v)).filter (fun m => p.on (F.SEQ_MM_CFG_EN m))).flatMap (fun m =>
    let ports := p.get (F.SEQ_MM_CFG_PORTS m)
    let fe := p.get (F.SEQ_MM_CFG_MUX_FE m)
    let shared := (List.range (nObsOf v)).any (fun k => k != m && p.on (F.SEQ_MM_CFG_EN k) && (p.get (F.SEQ_MM_CFG_PORTS k) &&& ports) != 0)
    refuseIf (ports / 2 ^ nPortOf v != 0) (6, m, 0) ++
    refuseIf (shared || (p.on (F.SEQ_MM_CFG_MUX_EN m) &&
      (29 < fe || [0, 1, 2].any (fun i => p.get (F.SEQ_FE_CFG_FUNC (fe + i)) != 6)))) (13, m, 0)) ++
  refuseIf (4 < p.get F.SEQ_RFFE_CFG_RATE_A || 4 < p.get F.SEQ_RFFE_CFG_RATE_B) (regItem 13 F.SEQ_RFFE_CFG_RATE_A) ++
  [0, 1].flatMap (fun b => ((List.range 64).filter (fun i => p.on (F.SEQ_RFFE_CMD_AT_EN b i) &&
    p.get (F.SEQ_RFFE_CMD_OP_KIND b i) == 3)).map (fun i => regItem 13 (F.SEQ_RFFE_CMD_OP_KIND b i))) ++
  -- sync templates of groups without a donor source (R177)
  (p.templates.filter (fun t => p.get (F.SEQ_DG_CFG_SYNC_SRC t.group) != 1)).map (fun t => (14, t.group, 0))

/-! ### Other blocks (R236, R241, R259, R272, R301) -/

def gaugeFaults (p : Plan) : List Refuse :=
  (List.range 4).flatMap (fun n =>
    let len := p.get (F.GAU_SEQ_LEN n)
    let src := p.get (F.GAU_SEQ_TRIG_SRC n)
    let per := p.get (F.GAU_PERIOD_PERIOD n)
    let samp (i : Nat) : Nat := p.get (F.GAU_ENT_CFG_SAMP n i)
    let span := (List.range len).foldl (fun a i => a + samp i + 14) (8 + p.get (F.GAU_SEQ_DELAY n))
    (if !p.on (F.GAU_SEQ_EN n) then []
     else
      refuseIf (len == 0 || 16 < len || src == 3 || (src == 1 && 32 * per < span)) (regItem 15 (F.GAU_SEQ_EN n)) ++
      refuseIf (src == 1 && per == 0) (regItem 15 (F.GAU_PERIOD_PERIOD n)) ++
      ((List.range 16).filter (fun i => samp i < 2 || 32 < samp i || 10 < p.get (F.GAU_ENT_CFG_ACC_N n i))).map (fun i =>
        regItem 15 (F.GAU_ENT_CFG_SAMP n i))) ++
    ((List.range 16).filter (fun i => p.on (F.GAU_ENT_CFG_WIN_EN n i) &&
      p.get (F.GAU_ENT_WIN_WIN_HI n i) < p.get (F.GAU_ENT_WIN_WIN_LO n i) + 2 * p.get (F.GAU_ENT_WIN_HYST n i))).map (fun i =>
        regItem 15 (F.GAU_ENT_WIN_WIN_LO n i)))

def pwmFaults (p : Plan) : List Refuse :=
  let per := p.get F.PWM_PERIOD_PERIOD_INIT
  let outside (d : Int) : Bool := d < -1536 || 1535 < d
  refuseIf (per < 64 || 3840 < per) (regItem 15 F.PWM_PERIOD_PERIOD_INIT) ++
  (allPairs.filter (fun n => p.on (F.PWM_PAIR_CFG_EN n))).flatMap (fun n =>
    let a := p.get (F.PWM_PAIR_CFG_MSTATE_A n)
    let b := p.get (F.PWM_PAIR_CFG_MSTATE_B n)
    refuseIf (a == 3 || b == 3 || (a == 1 && b == 1) || (p.on (F.PWM_PAIR_CFG_TSTATE_A n) && p.on (F.PWM_PAIR_CFG_TSTATE_B n)))
      (regItem 15 (F.PWM_PAIR_CFG_EN n))) ++
  (allPairs.filter (fun m => p.on (F.PWM_MASK_ON_EN m))).flatMap (fun m =>
    refuseIf (outside (p.geti (F.PWM_MASK_ON_ON_DELAY m))) (regItem 15 (F.PWM_MASK_ON_EN m)) ++
    refuseIf (outside (p.geti (F.PWM_MASK_OFF_OFF_DELAY m))) (regItem 15 (F.PWM_MASK_OFF_OFF_EVENT m))) ++
  ((List.range 16).filter (fun l => p.on (F.PWM_TRG_CFG_EN l) && p.get (F.PWM_TRG_CFG_EVENT l) != 0 &&
    !p.on (F.PWM_PAIR_CFG_EN (p.get (F.PWM_TRG_CFG_PAIR l))))).map (fun l => regItem 15 (F.PWM_TRG_CFG_EN l))

def loopFaults (p : Plan) : List Refuse :=
  let on_ := allLoops.filter (fun n => p.on (F.CTL_LOOP_CFG_EN n))
  let pair (n : Nat) : Nat := p.get (F.CTL_LOOP_CFG_PAIR n)
  on_.flatMap (fun n =>
    let ff := p.on (F.CTL_LOOP_CFG_FF_EN n)
    let inj := p.on (F.CTL_LOOP_CFG_VIN_INJ n)
    let g := p.get (F.CTL_LOOP_CFG_FB_GAU n)
    let h := p.get (F.CTL_LOOP_CFG_VIN_GAU n)
    let lo := p.get (F.CTL_LOOP_SP_LIM_SP_MIN n)
    let hi := p.get (F.CTL_LOOP_SP_LIM_SP_MAX n)
    let out (x : Nat) : Bool := x < lo || hi < x
    let d1 := p.get (F.CTL_LOOP_DUTY_LIM_DUTY_MAX n)
    let pl := p.on (F.CTL_LOOP_CFG_PL_EN n)
    refuseIf (!p.on (F.PWM_PAIR_CFG_EN (pair n)) || !p.on (F.PWM_PAIR_CFG_OWNER (pair n)) || on_.any (fun m => m != n && pair m == pair n) ||
      !p.on (F.GAU_SEQ_EN g) || p.get (F.GAU_SEQ_LEN g) ≤ p.get (F.CTL_LOOP_CFG_FB_ENT n) ||
      (ff && ((!p.on (F.GAU_SEQ_EN h) && !inj) || p.get (F.GAU_SEQ_LEN h) ≤ p.get (F.CTL_LOOP_CFG_VIN_ENT n))))
      (regItem 15 (F.CTL_LOOP_CFG_EN n)) ++
    refuseIf (hi < lo) (regItem 15 (F.CTL_LOOP_SP_LIM_SP_MIN n)) ++
    refuseIf (out (p.get (F.CTL_LOOP_SP_SP_INIT n)) || out (p.get (F.CTL_LOOP_SP_SAFE_SP n))) (regItem 15 (F.CTL_LOOP_SP_SP_INIT n)) ++
    refuseIf (d1 < p.get (F.CTL_LOOP_DUTY_LIM_DUTY_MIN n) || 4096 < d1) (regItem 15 (F.CTL_LOOP_DUTY_LIM_DUTY_MIN n)) ++
    refuseIf (p.get (F.CTL_LOOP_RAMP_SLEW n) == 0 || (ff && p.get (F.CTL_LOOP_RAMP_VIN_NOM n) == 0)) (regItem 15 (F.CTL_LOOP_RAMP_SLEW n)) ++
    refuseIf (pl && p.get (F.CTL_LOOP_CHECK_PL_K n) == 0) (regItem 15 (F.CTL_LOOP_CHECK_PL_THR n)) ++
    refuseIf (pl && p.get (F.CTL_LOOP_PLANT_ALPHA n) == 0) (regItem 15 (F.CTL_LOOP_PLANT_PLANT_GAIN n))) ++
  (allPairs.filter (fun n => p.on (F.PWM_PAIR_CFG_EN n) && p.on (F.PWM_PAIR_CFG_OWNER n) && !on_.any (fun m => pair m == n))).map (fun n =>
    regItem 15 (F.PWM_PAIR_CFG_EN n))

def fltFaults (p : Plan) : List Refuse :=
  (List.range 47).flatMap (fun i =>
    refuseIf (p.get (F.FLT_SRC_CLASS_N i) == 0 || p.get (F.FLT_SRC_CLASS_W i) == 0) (regItem 15 (F.FLT_SRC_CLASS_N i)) ++
    refuseIf ((srcBlock i).isNone && (bit (p.get (F.FLT_SRC_REACT_MINOR i)) 2 || bit (p.get (F.FLT_SRC_REACT_SEVERE i)) 2))
      (regItem 15 (F.FLT_SRC_REACT_MINOR i)))

/-- Every refusal of codes 0x06 to 0x0F over a Plan's fields and records. -/
def planFaults (p : Plan) (v : Variant) : List Refuse :=
  (p.slots v).flatMap (slotFaults p v) ++ overlapFaults p v ++
  ((dacsOf v).filter (fun k => 240 < p.get (F.CHZ_COMB_CFG_ATTN k))).map (fun k => regItem 8 (F.CHZ_COMB_CFG_ATTN k)) ++
  routeFaults p v ++ gougeFaults p v ++ guardFaults p v ++ seqFaults p v ++ gaugeFaults p ++ pwmFaults p ++ loopFaults p ++ fltFaults p

/-- Validation of the Shadow Plan at swap (R181): NO_SHADOW first, then every rule; the Chuck's verdict (R182) and R183 with
them. CONSENT, WITHDRAWN and CAL_STATE are looked at when the verdict becomes final. -/
def State.swapFaults (s : State) : Option Refuse :=
  if !s.flag F.PLAN_STATUS_SHADOW_VALID then some (0x14, 0, 0) else firstRefusal (planFaults s.shadow s.variant)

/-- The Chuck's verdict on the Shadow Plan, and the calibration rule in RELAY (R182, R183). -/
def State.chuckFaults (s : State) : Option Refuse :=
  let p := s.shadow
  let out := ((p.slots s.variant).filter (fun sl => s.lifecycle == 4 || (s.governing p sl).isNone)).map (fun sl => (0x10, sl, 0))
  let gone := ((List.range p.consent.length).filter (fun i => s.sec.gone.contains (p.consent.getD i []))).map (fun i => (0x11, i, 0))
  let st := s.get F.CVA_STATUS_CAL_STATE
  let cal := refuseIf (s.inRelay && (st == 1 || st == 3) && !p.on F.PLAN_FLAGS_ACCEPT_FACTORY_CAL) (0x12, 0, 0)
  firstRefusal (out ++ gone ++ cal)

end Sys2Proof.Machine
end

