-- ==== Sys2Proof/Machine/PlanImage.lean ====
section
/-! DEFINITION. The Plan image (spec/07, R174 to R177, R407): its header, directory and sections, in the order of R407, and the Plan
they build. -/
namespace Sys2Proof.Machine

/-- `n` values of a canonical map from key `k` on, walking its list once. -/
def denseGo {α : Type} (d : α) : Nat → Nat → List (Nat × α) → List α
  | 0, _, _ => []
  | n + 1, k, [] => d :: denseGo d n (k + 1) []
  | n + 1, k, e :: t => if e.1 = k then e.2 :: denseGo d n (k + 1) t else d :: denseGo d n (k + 1) (e :: t)
/-- Bytes of the image buffer. -/
def imageRange (img : List Host.Cell) (off n : Nat) : List Byte :=
  denseGo Config.imageUnlisted n off (img.dropWhile (fun c => c.1 < off))

/-- A word with an uncorrectable error lies in a range of bytes (R173). -/
def badIn (bad : List Nat) (off n : Nat) : Bool := bad.any (fun w => off < 4 * w + 4 && 4 * w < off + n)

/-- A directory entry (Table 7.2). -/
structure Section where
  index : Nat
  kind : Nat
  reserved : Nat
  off : Nat
  len : Nat
  crc : Nat
deriving DecidableEq, Repr

def sectionAt (dir : List Byte) (i : Nat) : Section :=
  let o := 16 * i
  ⟨i, leAt dir o 2, leAt dir (o + 2) 2, leAt dir (o + 4) 4, leAt dir (o + 8) 4, leAt dir (o + 12) 4⟩

/-- A section is placed wrongly (R175). -/
def misplaced (l : List Section) (imageBytes : Nat) (x : Section) : Bool :=
  x.off % 16 != 0 || min imageBytes 393216 < x.off + x.len || x.off < 64 + 16 * l.length ||
  l.any (fun y => y.index < x.index && x.off < y.off + y.len && y.off < x.off + x.len)

/-! ### Section contents -/

/-- The entries of a REGS section: offset and value. -/
def regEntries : Nat → List Byte → List (Nat × Nat)
  | 0, _ => []
  | n + 1, b => (leAt b 0 4, leAt b 4 4) :: regEntries n (b.drop 8)

def risingOffsets : List (Nat × Nat) → Bool
  | a :: b :: l => a.1 < b.1 && risingOffsets (b :: l)
  | _ => true

/-- R176 and R2 for one entry. -/
def regEntryFaults (v : Variant) (e : Nat × Nat) : List Refuse :=
  let item : Refuse := (5, e.1 / 16 % 65536, e.1 / 4 % 4)
  match findReg e.1 with
  | none => [item]
  | some (r, i) =>
    let l := rwsOf r
    refuseIf (l.isEmpty || e.1 == 0x4024 || (e.2 ||| maskOf l) != maskOf l) item ++ refuseIf (!namesIn v r.names i) (6, i, 0)

/-- Set a register's staged fields to an entry's value; a route of a fixed role takes none (Table 3.15). -/
def setEntry (v : Variant) (m : FMap) (e : Nat × Nat) : FMap :=
  match findReg e.1 with
  | none => m
  | some (r, _) => if routeFixed v e.1 then m else (rwsOf r).foldl (fun m f => setF m (fieldAt f e.1) (bits e.2 f.lo f.width)) m

/-- A tap of 5 bytes: I in bits [19:0], Q in bits [39:20] (R112). -/
def tapsOf : Nat → List Byte → List (Int × Int)
  | 0, _ => []
  | n + 1, b =>
    let x := leAt b 0 5
    (sgn 20 (x % 2 ^ 20), sgn 20 (x / 2 ^ 20)) :: tapsOf n (b.drop 5)

/-- The records of a START_COEF section, with the refusals of each (R113, R177); none where the bytes end inside a record. -/
def coefRecords (v : Variant) : Nat → List Byte → Option (List (CoefRec × List Refuse))
  | _, [] => some []
  | 0, _ => none
  | fuel + 1, b =>
    let n := leAt b 2 2
    let size := 32 + 5 * n
    if b.length < 32 ∨ b.length < size then none
    else
      let head := b.take 32
      let taps := (b.drop 32).take (5 * n)
      let slot := byteAt b 0
      let bad := leAt b 16 4 != crc32c taps || 8191 < leAt b 4 2 || !zerosAt b 14 2 || !zerosAt b 20 12 || 128 ≤ slot
      let fs := refuseIf (!slotIn v slot && slot < 128) (6, slot, 0) ++ refuseIf bad (11, slot, 0)
      (coefRecords v fuel (b.drop size)).map (fun l => (⟨slot, n, leAt b 4 2, head, tapsOf n taps⟩, fs) :: l)

/-- Records in ascending slot index, at most one a slot (R177). -/
def coefOrder : List CoefRec → List Refuse
  | a :: b :: l => refuseIf (b.slot ≤ a.slot) (11, b.slot, 0) ++ coefOrder (b :: l)
  | _ => []

def samplesOf : Nat → List Byte → List (Int × Int)
  | 0, _ => []
  | n + 1, b => (sgn 16 (leAt b 0 2), sgn 16 (leAt b 2 2)) :: samplesOf n (b.drop 4)

/-- The records of a SYNC_TEMPLATE section; none where the bytes end inside a record or a reserved byte is not 0. -/
def templateRecords : Nat → List Byte → Option (List Template)
  | _, [] => some []
  | 0, _ => none
  | fuel + 1, b =>
    let n := leAt b 2 2
    let size := 16 + 4 * n
    if b.length < 16 ∨ b.length < size ∨ zerosAt b 4 12 = false then none
    else (templateRecords fuel (b.drop size)).map (fun l => ⟨byteAt b 0, byteAt b 1, samplesOf n (b.drop 16)⟩ :: l)

def templateFaults : List Template → List Refuse
  | [] => []
  | t :: l =>
    refuseIf (7 < t.group || 2 < t.index || t.samples.length < 64 || 1024 < t.samples.length ||
      l.any (fun u => u.group == t.group && u.index == t.index)) (14, t.group, 0) ++ templateFaults l

def digestsOf : Nat → List Byte → List (List Byte)
  | 0, _ => []
  | n + 1, b => b.take 32 :: digestsOf n (b.drop 32)

/-! ### The whole image -/

/-- Read one section into the Plan, with the faults of its content. -/
def readSection (v : Variant) (img : List Host.Cell) (acc : Plan × List Refuse) (x : Section) : Plan × List Refuse :=
  let (p, fs) := acc
  let b := imageRange img x.off x.len
  let format : Refuse := (1, x.index, 0)
  match x.kind with
  | 1 =>
    let es := regEntries (x.len / 8) b
    ({ p with flds := es.foldl (setEntry v) p.flds },
     fs ++ refuseIf (x.len % 8 != 0 || !risingOffsets es) format ++ es.flatMap (regEntryFaults v))
  | 2 => match coefRecords v (x.len / 32 + 1) b with
    | none => (p, fs ++ [format])
    | some l => ({ p with coefs := l.map (·.1) }, fs ++ l.flatMap (·.2) ++ coefOrder (l.map (·.1)))
  | 3 => match templateRecords (x.len / 16 + 1) b with
    | none => (p, fs ++ [format])
    | some l => ({ p with templates := l }, fs ++ templateFaults l)
  | 4 => ({ p with consent := digestsOf (x.len / 32) b }, fs ++ refuseIf (x.len % 32 != 0 || x.len == 0 || 1024 < x.len) format)
  | 5 => (p, fs ++ refuseIf (4096 < x.len) format)
  | _ => (p, fs)

/-- Step 1 of R407: MAGIC, FORMAT and SECTIONS in their order; an uncorrectable word among those read ends the examination as a CRC
mismatch does (R173). -/
def headFault (h : List Byte) (bad : List Nat) : Option Refuse :=
  let crcFault : Refuse := (2, 0xFFFF, 0)
  let format : Refuse := (1, 0xFFFF, 0)
  if badIn bad 0 4 then some crcFault
  else if leAt h 0 4 ≠ 0x4C505747 then some format
  else if badIn bad 4 4 then some crcFault
  else if leAt h 4 2 ≠ 1 then some format
  else if badIn bad 20 4 then some crcFault
  else if leAt h 20 2 = 0 ∨ 8 < leAt h 20 2 then some format
  else none

/-- Parse and validate the image in the buffer (R179, R407): the refusal, or the Plan. `bad` are words with an uncorrectable
error. -/
def parseImage (v : Variant) (img : List Host.Cell) (bad : List Nat) : Refuse ⊕ Plan :=
  let h := imageRange img 0 64
  let n := leAt h 20 2
  let bytes := leAt h 8 4
  match headFault h bad with
  | some r => .inl r
  | none =>
    let dir := imageRange img 64 (16 * n)
    if badIn bad 0 (64 + 16 * n) ∨ leAt h 60 4 ≠ crc32c (h.take 60 ++ dir) then .inl (2, 0xFFFF, 0)
    else
      let secs := (List.range n).map (sectionAt dir)
      let placed := secs.filter (fun x => !misplaced secs bytes x)
      let sound := placed.filter (fun x => !badIn bad x.off x.len && x.crc == crc32c (imageRange img x.off x.len))
      let flags := leAt h 22 2
      let known (x : Section) : Bool := 1 ≤ x.kind && x.kind ≤ 5
      let again (x : Section) : Bool := known x && secs.any (fun y => y.index < x.index && y.kind == x.kind)
      let heads :=
        refuseIf (3 < flags || !zerosAt h 32 28 || !secs.any (fun x => x.kind == 1)) (1, 0xFFFF, 0) ++
        (secs.filter (fun x => misplaced secs bytes x || x.reserved != 0 || !known x || again x)).map (fun x => (1, x.index, 0)) ++
        (placed.filter (fun x => !sound.any (fun y => y.index == x.index))).map (fun x => (2, x.index, 0)) ++
        refuseIf (bytes < 128 || 393216 < bytes) (3, 0, 0) ++ refuseIf (leAt h 6 2 != partOf v) (4, 0, 0)
      let p0 : Plan := { emptyPlan with planId := leAt h 12 4, gen := leAt h 16 4 }
      let p0 := (p0.set F.PLAN_FLAGS_ACCEPT_FACTORY_CAL (flags % 2)).set F.PLAN_FLAGS_INJECT_RELAY (flags / 2 % 2)
      let (p, fs) := sound.foldl (readSection v img) (p0, [])
      match firstRefusal (heads ++ fs ++ planFaults p v) with
      | some r => .inl r
      | none => .inr p

end Sys2Proof.Machine
end

