-- ==== Sys2Proof/Machine/Restart.lean ====
section
/-! DEFINITION. Starts and restarts of slots (R73, R88, R110, R186), and what each block does while it is held in reset and when
it restarts (R54, R358, R410). -/
namespace Sys2Proof.Machine

/-! ### Slots -/

/-- Show the cap of a covered slot from its level cap (R339). -/
def State.showCap (s : State) (sl : Nat) : State :=
  match s.governing s.active sl with
  | none => s
  | some t => s.puti (F.SEC_SLOT_CAP_CAP sl) (min t.maxGain (s.levelCap sl))

/-- Put a gain in force at a boundary, under the Plan's range, the Guard limit and the cap (R186). -/
def State.setGain (s : State) (sl : Nat) (g : Int) : State :=
  let s := s.setWant sl (s.planGain sl g)
  s.puti (F.CHZ_SLOT_GAIN_GAIN_NOW sl) (s.limitGain sl (s.wantOf sl))

/-- A tile restarts; one that migrates restarts when its migration ends (R73, R75). -/
def State.restartTile (s : State) (sl : Nat) : State :=
  if s.fab.migs.any (fun m => m.slot == sl) then
    s.setFab { s.fab with migs := s.fab.migs.map (fun m => if m.slot == sl then { m with restart := true } else m) }
  else s.startFill sl

/-- A slot's tile or its lane restarts; both wait for a lane migration to end (R75, R108, R186). -/
def State.restartSlot (s : State) (sl : Nat) (tile lane : Bool) : State :=
  if s.laneMoving sl then
    s.setGouge { s.gouge with migs := s.gouge.migs.map (fun m =>
      if m.slot == sl then { m with tile := m.tile || tile, lane := m.lane || lane } else m) }
  else
    let s := if tile then s.restartTile sl else s
    if lane then s.startFromPlan sl false else s

/-- A slot starts: a fresh level cap, its tile fills, its lane starts (R73, R88, R339). -/
def State.startSlot (s : State) (sl : Nat) : State :=
  let s := s.setSec { s.sec with levelCap := sparseErase s.sec.levelCap sl }
  let s := if s.laneMoving sl then s.restartSlot sl true true else (s.restartTile sl).startFromPlan sl true
  let s := ((s.firstLimit sl).showCap sl).setGain sl (s.actI (F.CHZ_SLOT_GAIN_GAIN_INIT sl))
  if s.lvlOn sl then s.lvlStart sl else s

/-- A disabled slot delivers zero, and its taps are discarded (R186). -/
def State.stopSlot (s : State) (sl : Nat) : State :=
  let s := (s.setFab { s.fab with fill := sparseErase s.fab.fill sl }).putB (F.CHZ_SLOT_STATUS_FILLING sl) false
  s.stopLane sl

/-- Every enabled slot restarts its tile, and its lane under REPROBE with its present taps (R110, R358, R363). -/
def State.restartTaps (s : State) : State :=
  s.each s.slotsOn (fun s sl =>
    let s := if s.laneMoving sl then s.restartSlot sl true false else s.restartTile sl
    if s.hasLane sl && !s.laneMoving sl then s.startLane sl (s.gg sl).taps (s.gg sl).delay false false else s)

/-- Every enabled slot starts its tile and its lane afresh on the Active Plan: the fabric has been off (Table 15.1). -/
def State.restartAll (s : State) : State := s.each s.slotsOn (fun s sl => s.restartSlot sl true true)

/-! ### Registers of a block -/

/-- Offsets of the block numbered `n` in Table 1.2. -/
def inBlock (n key : Nat) : Bool := blockOf (key / 32) == n

/-- Return the registers of a block to their reset values, but for those named as kept. -/
def State.clearBlock (s : State) (n : Nat) (keep : List Field) : State :=
  let kept := keep.map (fun f => (f, s.get f))
  let s := { s with regs := s.regs.filter (fun e => !inBlock n e.1), latches := s.latches.filter (fun e => blockOf e.1 != n) }
  s.each kept (fun s e => s.put e.1 e.2)

/-- End a descriptor of the block ABORTED_RESET, with the bytes written (R410). -/
def State.abortDesc (s : State) (k : DescKey) : State :=
  match s.findDesc k with
  | none => s
  | some d => (s.dropXfer k).completeAt k 4 0 (s.bytesOf d) 0 0 s.turn s.fc

/-! ### Each block held and restarted (R410) -/

def State.convHold (s : State) : State :=
  let s := s.calAbort 0
  let v := s.variant
  let s := s.clearBlock 4 ([F.CVA_STATUS_CAL_STATE, F.CVA_STATUS_GRADIENT, F.CVA_CAL_LAST_LAST_KIND, F.CVA_CAL_LAST_LAST_OUTCOME,
    F.CVA_CAL_LAST_ABORT_CAUSE, F.CVA_CAL_TURN_LO_COMMIT_TURN, F.CVA_CAL_TURN_HI_COMMIT_TURN, F.CVA_ADC_FAIL_ADC_FAIL,
    F.CVA_DAC_FAIL_DAC_FAIL, F.CVA_TEMP_TEMP 0, F.CVA_TEMP_TEMP 1, F.CVA_TEMP_TEMP 2, F.CVA_GRADIENT_GRAD_NOW] ++
    (adcsOf v).flatMap (fun n => [F.CVA_ADC_CAL_IMG_DBC n, F.CVA_ADC_CAL_AAF_CODE n, F.CVA_ADC_CAL_DCO_RESID n,
      F.CVA_ADC_STATUS_FAIL_KIND n]))
  let s := s.setCva { s.cva with ovr := [], tracked := [] }
  ((s.synthOff 0).synthOff 1).muteDacs
def State.convRestart (s : State) : State :=
  let s := s.each [0, 1] (fun s w => if (s.running || s.pwr.leaving) && !s.dieDown w then s.reacquire w false else s)
  s.muteDacs

def State.fabricHold (s : State) : State :=
  let s := s.each s.hif.captures (fun s c => (s.freeCapture c.engine).abortDesc (c.sq, c.order))
  let s := s.each [F.FAB_STATUS_SLIP_LIVE, F.FAB_ECC_COUNT_CORRECTED, F.FAB_ECC_COUNT_UNCORRECTED, F.FAB_SLIP_SLIPPED, F.FAB_SLIP_MERGE,
    F.FAB_SLIP_SLIP_COUNT, F.FAB_DOVETAIL_FILL_FILL0, F.FAB_DOVETAIL_FILL_FILL1, F.FAB_DOVETAIL_FILL_FILL2,
    F.FAB_DOVETAIL_FILL_FILL3] (fun s f => s.put f f.reset)
  let s := s.each (dacsOf s.variant) (fun s k => s.put (F.CHZ_COMB_SAT_SAT_WORDS k) 0)
  let s := s.each s.slotsOn (fun s sl =>
    ((s.puti (F.CHZ_SLOT_LEVEL_IN_LEVEL sl) (-32768)).puti (F.CHZ_SLOT_LEVEL_OUT_LEVEL sl) (-32768)).puti
      (F.CHZ_SLOT_PEAK_OUT_PEAK sl) (-32768) |>.putB (F.CHZ_SLOT_STATUS_DIRTY sl) true)
  (s.setFab { s.fab with coef := [], slipped := [], recentred := [], mergeNow := [], mergeRun := [], capRoute := [] }).live 8 false
def State.fabricRestart (s : State) : State :=
  if !s.running then s
  else
    let s := s.restartTaps
    s.each (s.slotsOn.filter s.lvlOn) State.lvlStart

/-- Nothing is subtracted or adapted; the record keeps ISO and VALID with C_REP 0; a snapshot in progress ends. -/
def State.gougeHold (s : State) : State :=
  let snaps := (s.hif.inflight.filter (fun d => d.opcode == Op.snapshot && d.started)).map (fun d => d.key)
  let s := s.each snaps State.abortDesc
  let s := s.setGouge { s.gouge with snap := none, hostFreeze := [] }
  let s := (s.put F.GOUGE_ECC_COUNT_CORRECTED 0).put F.GOUGE_ECC_COUNT_UNCORRECTED 0
  s.each (slotsOf s.variant) (fun s sl =>
    let x := s.gg sl
    let s := s.setGg sl { x with staged := none, restore := false, diverged := false, reprobe := none, snap := (x.snap.1, 0, x.snap.2.2) }
    let s := (s.put (F.GOUGE_SLOT_REPORT_C_REP sl) 0).putB (F.GOUGE_SLOT_CTRL_FREEZE sl) false
    let s := s.each [F.GOUGE_SLOT_STATUS_FROZEN sl, F.GOUGE_SLOT_STATUS_F_DIRTY sl, F.GOUGE_SLOT_STATUS_F_SEQ sl,
      F.GOUGE_SLOT_STATUS_F_MUTE sl, F.GOUGE_SLOT_STATUS_F_DAC sl, F.GOUGE_SLOT_STATUS_F_LOW_REF sl, F.GOUGE_SLOT_STATUS_F_HOST sl,
      F.GOUGE_SLOT_STATUS_F_DIVERGED sl, F.GOUGE_SLOT_STATUS_SPAN_SHORT sl, F.GOUGE_SLOT_ESTIMATE_C_EST sl,
      F.GOUGE_SLOT_ESTIMATE_C_EDGE sl, F.GOUGE_SLOT_CKPT_CKPT_VALID sl, F.GOUGE_SLOT_CKPT_DIV_COUNT sl,
      F.GOUGE_SLOT_CKPT_CKPT_C sl] (fun s f => s.put f f.reset)
    s)
def State.gougeRestart (s : State) : State := s.each (s.slotsOn.filter s.hasLane) (fun s sl => s.restartSlot sl false true)

def State.sequencerHold (s : State) : State :=
  let v := s.variant
  let s := s.seqHold
  let s := s.clearBlock 8 ([F.SEQ_PORT_MUTED_MUTED] ++ (List.range (nPortOf v)).map F.SEQ_TUN_STATUS_CODE ++
    (List.range (nDivOf v)).map F.SEQ_DIV_STATUS_SEL ++ allPins.map F.SEQ_FE_STATUS_LEVEL)
  let s := s.setSeq { seqNone with muteNext := s.seq.muteNext,
                                   groups := s.seq.groups.map (fun g => (g.1, { sgNone with moves := g.2.moves })) }
  -- the halves of a group rest
  (s.each allGroups (fun s g => (s.put (F.SEQ_DG_STATUS_STATE g) (s.restOf g)).put (F.SEQ_DG_STATUS_STATE_UL g) (s.restOf g))).syncTuns.syncSeq

def State.gaugeHold (s : State) : State := s.gauHold
def State.gaugeRestart (s : State) : State := s.gauCalAll

/-- No loop runs and a halt is released; owned pairs keep their compares and slots their last staged gain. -/
def State.controlHold (s : State) : State :=
  let s := s.releaseHalt
  let loops := s.ctl.loops.map (fun l => (l.1, { loopNone with host := l.2.host }))
  let s := s.clearBlock 11 []
  let s := s.setCtl { ctlNone with loops := loops }
  s.syncLoops
/-- Supply loops start again from the duty in force with the host target, level loops at zero state. -/
def State.controlRestart (s : State) : State :=
  let s := s.each (allLoops.filter s.loopOn) (fun s n =>
    let s := s.setLoop n { s.loop n with keepT := true }
    s.put (F.CTL_LOOP_TARGET_T n) (if s.pstate = 4 then s.act (F.CTL_LOOP_SP_SAFE_SP n)
      else (s.loop n).host.getD (s.act (F.CTL_LOOP_SP_SP_INIT n))))
  let s := if s.running then s.each (s.slotsOn.filter s.lvlOn) State.lvlStart else s
  s.syncLoops

/-- Every output at its TSTATE and the counter stopped; the trip path keeps acting (R263). -/
def State.pwmHold (s : State) : State :=
  let s := s.unfreeze
  let s := s.clearBlock 10 [F.PWM_TRIP_STATUS_LIVE, F.PWM_TRIP_STATUS_LATCHED, F.PWM_TRIP_COUNT_ACTIVATIONS, F.PWM_TRIP_COUNT_REFUSED,
    F.PWM_FLAGS_TRIP, F.PWM_STATUS_CLK_DRIVE, F.PWM_STATUS_TRIPPED]
  let s := s.setPwm { pwmNone with outs := s.pwm.outs.map (fun o => (o.1, { outNone with level := o.2.level, since := o.2.since })),
                                   pairs := s.pwm.pairs, trips := s.pwm.trips, frozenAt := if s.pwr.clkLost then some s.now else none }
  s.driveAll
/-- The counter starts from zero; each enabled pair loads its INIT and EDGE_INIT values as a newly enabled one (R259). -/
def State.pwmRestart (s : State) : State :=
  let s := (s.put F.PWM_PERIOD_STG_PERIOD_STG (s.act F.PWM_PERIOD_PERIOD_INIT)).arm 256
  let s := s.each (allPairs.filter (fun n => s.actB (F.PWM_PAIR_CFG_EN n))) (fun s n =>
    let l := [(F.PWM_PAIR_INIT_CMPA_INIT n, F.PWM_PAIR_CMP_STG_CMPA n), (F.PWM_PAIR_INIT_CMPB_INIT n, F.PWM_PAIR_CMP_STG_CMPB n),
      (F.PWM_PAIR_EDGE_INIT_DT_A n, F.PWM_PAIR_EDGE_STG_DT_A n), (F.PWM_PAIR_EDGE_INIT_DT_B n, F.PWM_PAIR_EDGE_STG_DT_B n),
      (F.PWM_PAIR_EDGE_INIT_FINE_A n, F.PWM_PAIR_EDGE_STG_FINE_A n), (F.PWM_PAIR_EDGE_INIT_FINE_B n, F.PWM_PAIR_EDGE_STG_FINE_B n)]
    (s.each l (fun s e => s.put e.2 (s.act e.1))).arm (2 ^ n))
  if s.running then s.pwmStart else s.driveAll

/-! ### Kills (R134, R372) and the Apzer link logic (R373, Table 16.6) -/

/-- A kill has appeared: signalled, and the outputs go safe without waiting for a boundary (R134). -/
def State.killActs (s : State) : State :=
  let s := ((s.raise 15).killLive).safeCause 1
  let s := s.setPwr { s.pwr with killClear := 0 }
  s.muteDacs.settlePins.seqRecheck
/-- A kill has gone: the module stays in SAFE (R135). -/
def State.killEnds (s : State) : State := s.killLive.muteDacs.settlePins.seqRecheck

def State.setApz (s : State) (a : Apz) : State := { s with apz := a }
/-- The kill of the pin (0) or of an input (1, 2) begins to be sent (R372). -/
def State.killOnset (s : State) (i : Nat) : State := s.setApz { s.apz with onset := sparseInsert s.apz.onset i (some s.now) }

def apzEn (i : Nat) : Field := if i = 0 then F.APZ_CFG_IN0_EN else F.APZ_CFG_IN1_EN
def apzUp (i : Nat) : Field := if i = 0 then F.APZ_STATUS_IN0_UP else F.APZ_STATUS_IN1_UP
def apzKillIn (i : Nat) : Field := if i = 0 then F.APZ_STATUS_KILL_IN0 else F.APZ_STATUS_KILL_IN1

/-- The kill held from an input: its last valid frame carried KILL, or it is down with KILL_ON_LOSS (R372, R373). -/
def State.syncKill (s : State) (i : Nat) : State :=
  let was := s.flag (apzKillIn i)
  let held := s.flag (apzEn i) && (sparseGet false s.apz.killed i || (s.flag F.APZ_CFG_KILL_ON_LOSS && !s.flag (apzUp i)))
  let s := s.putB (apzKillIn i) held
  if held && !was then ((s.bump F.GRD_KILL_APZ_COUNT 1).killOnset (1 + i)).killActs
  else if was && !held then s.killEnds else s
def State.syncKills (s : State) : State := (s.syncKill 0).syncKill 1

/-- The Apzer source is live while an enabled input is down, in HOLDOVER, or under a conflict or a missing leader (Table 15.8). -/
def State.syncApz (s : State) : State :=
  s.live 44 ([0, 1].any (fun i => s.flag (apzEn i) && !s.flag (apzUp i)) || s.get F.APZ_STATUS_ALIGN == 3 || s.apz.conflict || s.apz.noLeader)

/-- Align by the role: a LEADER is ALIGNED at hop 0, a FOLLOWER acquires (R369). -/
def State.apzRole (s : State) : State :=
  let r := s.get F.APZ_CFG_ROLE
  (s.put F.APZ_STATUS_ALIGN (if r = 1 then 2 else if r = 2 then 1 else 0)).put F.APZ_STATUS_HOP 0

/-- The link logic resets; its configuration stays, and acquisition restarts. -/
def State.apzHold (s : State) : State :=
  let s := s.setApz { apzNone with onset := s.apz.onset }
  let s := s.each [F.APZ_STATUS_IN0_UP, F.APZ_STATUS_IN1_UP, F.APZ_STATUS_ERR,
    F.APZ_DELAY_D_DOWN, F.APZ_DELAY_D_UP, F.APZ_COUNT_CRC_ERRORS, F.APZ_COUNT_LOSSES, F.APZ_COUNT_STEPS] (fun s f => s.put f f.reset)
  (s.apzRole.syncKills).syncApz

/-! ### Holding and releasing blocks (R302, R358) -/

/-- A block goes into reset; `unit` holds the bytes of the data-transfer unit in progress. -/
def State.holdBlock (s : State) (unit : List Byte) (b : Block) : State :=
  match b with
  | .converters => s.convHold
  | .fabric => s.fabricHold
  | .gouge => s.gougeHold
  | .sequencer => s.sequencerHold
  | .gauge => s.gaugeHold
  | .pwm => s.pwmHold
  | .control => s.controlHold
  | .hif => s.hifBlockReset unit
  | .apzer => s.apzHold

/-- A block restarts. -/
def State.restartBlock (s : State) (b : Block) : State :=
  match b with
  | .converters => s.convRestart
  | .fabric => s.fabricRestart
  | .gouge => s.gougeRestart
  | .sequencer => s.seqRestart
  | .gauge => s.gaugeRestart
  | .pwm => s.pwmRestart
  | .control => s.controlRestart
  | .hif => s
  | .apzer => s.apzRole

/-- Blocks that rails below their limits hold in reset (Table 15.3); a converter die is looked at apart (R54). -/
def State.railBlocks (s : State) : List Block :=
  (if s.railDown 0 then [.fabric, .gouge, .sequencer] else []) ++ (if s.railDown 3 then [.gauge, .pwm, .control, .hif] else [])

/-- At a boundary the blocks held since the last one restart, and those scheduled are held until the next (R300, R302). -/
def State.blockBoundary (s : State) (unit : List Byte) : State :=
  let old := s.flt.held
  let rail := s.railBlocks
  let next := s.flt.holdNext
  let s := s.setFlt { s.flt with held := rail ++ next.filter (fun b => !rail.contains b), holdNext := [] }
  let s := s.each (next.filter (fun b => !old.contains b)) (fun s b => (s.holdBlock unit b).bump F.FLT_RESET_BLOCK_RESETS 1)
  s.each (old.filter (fun b => !rail.contains b)) State.restartBlock

end Sys2Proof.Machine
end

