-- ==== Sys2Proof/Machine/Power.lean ====
section
/-! DEFINITION. Power states and their transitions (R354 to R360), the synthesisers' acquisitions (R43, R44), supplies, rails and
temperatures (R53, R357 to R359), kills (R134, R135) and the reference clock (R362, R363). -/
namespace Sys2Proof.Machine

def bitIf (i : Nat) (b : Bool) : Nat := if b then 2 ^ i else 0

/-! ### SAFE causes (R356) -/

/-- SAFE causes held now, a bit each, but for PLAN: HOST and FAULT are never held. -/
def State.heldCauses (s : State) : Nat :=
  bitIf 1 s.killHeld + bitIf 2 s.latchOn + bitIf 3 (s.isLive 36) + bitIf 4 s.pwr.clkLost + bitIf 5 (s.isLive 38 || s.isLive 39) +
  bitIf 6 (s.railDown 0 || s.railDown 3)

/-- The lowest cause in a mask of causes. -/
def lowestCause (m : Nat) : Nat := ((List.range 9).find? (fun c => bit m c)).getD 0

/-- RELAY is permitted (Table 15.2) but for the calibration factors. -/
def State.relayOk (s : State) : Bool :=
  s.flag F.PLAN_STATUS_ACTIVE_VALID && (s.lifecycle == 1 || s.lifecycle == 2 || s.lifecycle == 3) && s.heldCauses == 0 && !s.plan.lost
/-- RELAY is permitted by the calibration factors in use (Table 2.7). -/
def State.calOk (s : State) : Bool :=
  let c := s.get F.CVA_STATUS_CAL_STATE
  c == 2 || ((c == 1 || c == 3) && s.actB F.PLAN_FLAGS_ACCEPT_FACTORY_CAL)
def State.calAllRuns (s : State) : Bool := match s.cva.cal with | some c => c.code == 15 | none => false
/-- A state held before SAFE may be returned to (Table 15.2). -/
def State.mayReturn (s : State) (st : Nat) : Bool := st == 2 || (st == 3 && s.relayOk && s.calOk && !s.calAllRuns)

/-! ### Autonomous start ends (R190, R191) -/

/-- The sequence of flash start or FLASH_LOAD ends with a RESULT of Table 7.9: its parse is given up, and a swap that it asked for and
that has not committed is not committed. -/
def State.flashEnd (s : State) (r : Nat) : State :=
  if !s.flashBusy then s
  else
    let ours (f : ParseFrom) : Bool := match f with | .flash _ => true | _ => false
    let p := s.plan
    let parsing := p.parsing.filter (fun f => !ours f)
    let replace := p.replace.filter (fun e => !ours e.2)
    let swap := p.swap.filter (fun w => w.desc.isSome)
    let s := s.setPlan { p with parsing := parsing, replace := replace, swap := swap }
    let s := (s.putB F.PLAN_STATUS_PARSING (parsing.isSome || replace.isSome)).putB F.PLAN_STATUS_SWAP_PENDING swap.isSome
    let s := { s with flash := { s.flash with stage := .idle, autostart := false } }
    (s.put F.PLAN_BOOT_STAGE 6).put F.PLAN_BOOT_RESULT r

/-! ### Changing state (Table 15.2) -/

/-- Would an ARM be refused for the state the module is in (R310)? -/
def State.armState (s : State) : Bool := s.pstate == 1 || s.pstate == 2 || (s.pstate == 3 && s.actB F.PLAN_FLAGS_INJECT_RELAY)
/-- An armed injection is cancelled where it would be refused (R310). -/
def State.cancelInjection (s : State) : State :=
  if s.flag F.FLT_INJECT_ARMED && !s.armState then (s.putB F.FLT_INJECT_ARMED false).bump F.FLT_INJ_COUNT_REFUSED 1 else s

/-- What entering STANDBY switches off (Tables 2.8, 15.1; R268, R347). -/
def State.enterStandby (s : State) : State :=
  let s := (s.calAbort 2).releaseHalt
  let s := ((s.synthOff 0).synthOff 1).pwmStandby.loopsStop
  (s.endSession 1).dropChallenge

/-- What entering LISTEN from STANDBY starts: the calibration factors load, the carrier, slots and loops start, and CAL_ALL
begins at the same boundary (R46, R48, R73, R88, R268). -/
def State.enterListen (s : State) : State :=
  let s := s.setPwr { s.pwr with leaving := false }
  let s := if s.blockHeld .converters then s else s.loadStore
  let s := if s.blockHeld .pwm then s else s.pwmStart
  let s := if s.blockHeld .fabric then s else s.restartAll
  let s := if s.blockHeld .control then s else s.each (s.slotsOn.filter s.lvlOn) State.lvlStart
  s.calStart 15 0 0 0 none

/-- The module goes to state `new`. `cause` is what its record names (a SAFE cause, or 0xFF); `mask` the SAFE causes of an entry
to SAFE. -/
def State.setState (s : State) (new cause mask : Nat) : State :=
  let old := s.pstate
  let s := (s.put F.PWR_STATE_PREV old).put F.PWR_STATE_STATE new
  let s := s.setPwr { s.pwr with next := none }
  let s := s.emit 0xE0 1 15 (leBytes old 1 ++ leBytes new 1 ++ leBytes cause 1)
  let s := if old = 4 then
      let s := s.put F.PWR_STATE_SAFE_CAUSE 0
      let s := s.setPwr { s.pwr with killClear := 0, recover := none }
      s.leaveCleared.loopsLeaveSafe
    else s
  let s := if new = 4 then ((s.setPwr { s.pwr with before := old, killClear := 0 }).put F.PWR_STATE_SAFE_CAUSE mask).loopsSafe else s
  let s := if new = 1 then s.enterStandby else s
  let s := if new = 2 ∧ old ≤ 1 then s.enterListen else s
  let s := if new ≠ 3 ∧ s.get F.APZ_STATUS_ALIGN = 3 then (s.put F.APZ_STATUS_ALIGN 1).syncApz else s
  ((s.seqState old).cancelInjection).muteDacs.settleJtag

/-- STANDBY may be left: not for a critical temperature, in RETIRED, or under a board test (Table 15.2, R347, R359). -/
def State.mayLeave (s : State) : Bool := s.lifecycle != 4 && !s.isLive 42 && s.sec.jtag != .extest && s.sec.jtag != .clamp
/-- STANDBY is being left: both synthesisers start (R43). -/
def State.startSynths (s : State) : State :=
  let s := s.setPwr { s.pwr with leaving := true }
  s.each [0, 1] (fun s w => if s.dieDown w then s else s.acquire w)

/-- The waiting request ends FAILED. -/
def State.failReq (s : State) (cause detail : Nat) : State :=
  match s.pwr.req with
  | none => s
  | some r => (s.setPwr { s.pwr with req := none }).failedOpt r.desc cause detail

/-- Leaving STANDBY stops: the synthesisers go off again. -/
def State.stopLeaving (s : State) : State :=
  if !s.pwr.leaving then s
  else
    let s := s.setPwr { s.pwr with leaving := false, next := none }
    ((s.synthOff 0).synthOff 1).muteDacs

/-- Something stops a calibration whose measurements have not ended (Table 2.8). -/
def State.calStop (s : State) (cause : Nat) : State :=
  match s.cva.cal with
  | some c => if c.ended.isNone then s.calAbort cause else s
  | none => s

/-- A request starts on its way: at once for STANDBY being left; a running calibration aborts for one that leaves for STANDBY. -/
def State.takeReq (s : State) (target : Nat) (desc : Option DescKey) : State :=
  let s := (s.failReq 0x0B 0).setPwr { s.pwr with req := some ⟨target, desc⟩ }
  if s.pstate = 1 ∧ !s.pwr.leaving then s.startSynths
  else if target = 1 then s.calStop 2
  else s

/-- STATE_REQUEST (R210, R355): the state it asks for is reached in the order of Table 15.2, or the request is refused. -/
def execStateRequest (fc sq idx : Nat) (s : State) : Host.Outcome State Fault Refusal :=
  .next (s.withDesc fc sq idx Op.stateRequest (fun d s =>
    let k : DescKey := d.key
    let t := dState d.body
    let p := s.pstate
    let refused := p = 0 ∨ s.pwr.off ∨ (p = 1 ∧ t = 4) ∨ (p = 1 ∧ (t = 2 ∨ t = 3) ∧ !s.mayLeave)
    -- any STATE_REQUEST ends autonomous start (R191)
    let s := if s.autoStart then s.flashEnd 7 else s
    if refused then s.failed k 0x03 p
    else
      if t = p then
        -- it supersedes what was asked before
        let s := (s.failReq 0x0B 0).stopLeaving
        s.done k p
      else s.takeReq t (some k)))

/-! ### The state at a boundary (R355) -/

/-- Enter SAFE for the causes in the mask: a waiting request for another state fails. -/
def State.enterSafe (s : State) (mask cause : Nat) : State :=
  let req := s.pwr.req
  let s := s.setState 4 cause mask
  match req with
  | none => s
  | some r =>
    if r.target = 4 then (s.setPwr { s.pwr with req := none }).doneOpt r.desc 4
    else if r.target = 1 then s
    else s.failReq 0x03 4

/-- The request has reached its state. -/
def State.reqDone (s : State) : State :=
  match s.pwr.req with
  | none => s
  | some r => (s.setPwr { s.pwr with req := none }).doneOpt r.desc s.pstate

/-- Carry the waiting request one transition of Table 15.2. -/
def State.carryReq (s : State) : State :=
  match s.pwr.req with
  | none => s
  | some r =>
    let p := s.pstate
    if p ≤ 1 then s
    else if p = 4 ∧ s.heldCauses ≠ 0 then s.failReq 0x03 p
    else if r.target = 1 then (s.setState 1 0xFF 0).reqDone
    else if r.target = 2 then (if p = 2 then s else s.setState 2 0xFF 0).reqDone
    else if r.target = 4 then (s.setState 4 0xFF 1).reqDone
    else if s.calAllRuns then s
    else if !s.relayOk then s.failReq 0x03 p
    else if !s.calOk then s.failReq 0x0D (s.get F.CVA_STATUS_CAL_STATE)
    else (s.setState 3 0xFF 0).reqDone

/-- A scheduled change takes place: LISTEN with both synthesisers LOCKED, STANDBY for a critical temperature, or a return from SAFE
without a request. -/
def State.scheduled (s : State) : State :=
  match s.pwr.next with
  | none => s
  | some (st, cause) =>
    let p := s.pstate
    if st = 1 then
      if p ≤ 1 then s.setPwr { s.pwr with next := none }
      else
        let s := s.setState 1 cause 0
        match s.pwr.req with
        | some r => if r.target = 1 then s.reqDone else s.failReq 0x03 1
        | none => s
    else if p = 1 then
      if st = 2 ∧ s.pwr.leaving then
        let s := s.setState 2 cause 0
        match s.pwr.req with
        | some r => if r.target = 2 then s.reqDone else s
        | none => s
      else s.setPwr { s.pwr with next := none }
    else if p = 4 ∧ s.mayReturn st ∧ s.pwr.req.isNone ∧ s.heldCauses = 0 then s.setState st cause 0
    else s.setPwr { s.pwr with next := none }

/-- SAFE causes to act on at this boundary: those held, and those that have arisen since the last one. -/
def State.dueCauses (s : State) : Nat :=
  (s.heldCauses ||| s.pwr.safeDue) ||| (bitIf 7 s.plan.activeLost ||| bitIf 2 s.grd.safeDue ||| bitIf 8 s.flt.safeDue)

/-- The power state at a boundary: scheduled changes, SAFE for its causes, then the waiting request. In STANDBY that is no longer being
left, as after a reset ended the request, the synthesisers are OFF, but for one that stays UNLOCKED after its third attempt (R43). -/
def State.powerBoundary (s : State) : State :=
  let was := s.pstate
  let on_ (w : Nat) : Bool := s.synth w != 0 && s.synth w != 3
  let s := if s.pstate = 1 ∧ !s.pwr.leaving ∧ (on_ 0 ∨ on_ 1) then (s.each ([0, 1].filter on_) State.synthOff).muteDacs else s
  let s := s.scheduled
  let toStandby := match s.pwr.req with | some r => r.target == 1 | none => false
  let mask := s.dueCauses
  let s := if (s.pstate = 2 ∨ s.pstate = 3) ∧ was ≥ 2 ∧ mask ≠ 0 ∧ !toStandby then s.enterSafe mask (lowestCause mask)
    else if was ≥ 2 then s.carryReq else s
  let s := s.setPwr { s.pwr with safeDue := 0 }
  let s := (s.setGrd { s.grd with safeDue := false }).setFlt { s.flt with safeDue := false }
  s.setPlan { s.plan with activeLost := false }

/-! ### Synthesisers (R43, R44) -/

/-- SYNTH_LOCKED: a synthesiser locks; on leaving STANDBY, LISTEN follows when both have (R43, R355). -/
def execSynthLocked (fc w : Nat) (s : State) : Host.Outcome State Fault Refusal :=
  let s := s.at fc
  let s' := if s.synth w ≠ 1 ∨ s.dieDown w ∨ s.pwr.clkLost then s
    else
      let s := (s.synthLock w).muteDacs
      let s := if s.pwr.leaving ∧ s.pstate = 1 ∧ s.synth 0 = 2 ∧ s.synth 1 = 2 then
          let s := s.setPwr { s.pwr with next := some (2, 0xFF) }
          if s.fc = 0 then s.scheduled else s
        else s
      s.seqRecheck
  okIf (w < 2) s'

/-- SYNTH_LOCK_TIMEOUT: 150 μs have passed without lock; after the third attempt the synthesiser stays UNLOCKED and the request
that left STANDBY fails (R43). -/
def execSynthLockTimeout (fc w : Nat) (s : State) : Host.Outcome State Fault Refusal :=
  let s := s.at fc
  let x := s.synthX w
  let s' := if s.synth w ≠ 1 ∨ s.dieDown w ∨ s.pwr.clkLost ∨ turnsSince s.turn x.lockedAt < 75 then s
    else
      let n := s.get (F.CVA_SYNTH_STATUS_ATTEMPT w) + 1
      let s := s.put (F.CVA_SYNTH_STATUS_ATTEMPT w) n
      if n < 3 then s.setSynth w 4
      else
        let s := s.setSynth w 3
        let s := if x.lost then s else s.raise (1 + w)
        if s.pwr.leaving then
          let s := (s.failReq 0x0C (2 ^ w)).flashEnd 4
          let s := s.setPwr { s.pwr with leaving := false, next := none }
          (s.synthOff (1 - w)).muteDacs
        else s.seqRecheck
  okIf (w < 2) s'

/-- A LOCKED synthesiser is out of lock: counted and signalled; a calibration that it clocks aborts, and the other synthesisers in
its scope return to their active bands (R44, Table 2.8). -/
def State.unlocked (s : State) (w : Nat) : State :=
  let s := (s.bump (F.CVA_SYNTH_STATUS_LOCK_LOSS_COUNT w) 1).raise (1 + w)
  match s.cva.cal with
  | some c =>
    if c.ended.isNone && c.hasSynth s.variant w then
      let s := s.calAbort 1
      if c.setsBand (1 - w) ∧ (s.synth (1 - w) = 4 ∨ s.synth (1 - w) = 2) then s.reacquire (1 - w) false else s
    else s
  | none => s

/-- SYNTH_LOCK_LOSS: a locked synthesiser loses lock; its DACs mute, its words go dirty and it attempts relock (R44). -/
def execSynthLockLoss (fc w : Nat) (s : State) : Host.Outcome State Fault Refusal :=
  let s := s.at fc
  let s' := if s.synth w ≠ 2 then s else ((s.unlocked w).relock w).muteDacs.seqRecheck
  okIf (w < 2) s'

/-! ### VIN (R357) -/

/-- PWR_VIN_UV: VIN below 4.35 V for 2 μs; `vin` in units of 0.1 V. -/
def execPwrVinUv (fc vin : Nat) (s : State) : Host.Outcome State Fault Refusal :=
  let s := s.at fc
  let s' := if s.isLive 38 then s
    else
      let s := ((s.live 38 true).raise 38).putB F.PWR_SUPPLY_VIN_UV true
      let s := (s.bump F.PWR_SUPPLY_UV_EVENTS 1).safeCause 5
      s.emit 0xE2 3 15 (leBytes 0 1 ++ leBytes vin 1)
  okIf (vin < 256) (s.awake s')
/-- VIN_UV_RECOVERY: VIN is 4.50 V or more. -/
def execVinUvRecovery (fc : Nat) (s : State) : Host.Outcome State Fault Refusal :=
  .next (((s.at fc).live 38 false).putB F.PWR_SUPPLY_VIN_UV false)

/-- PWR_VIN_OV: VIN above 18.50 V for 2 μs. -/
def execPwrVinOv (fc vin : Nat) (s : State) : Host.Outcome State Fault Refusal :=
  let s := s.at fc
  let s' := if s.isLive 39 then s
    else
      let s := (((s.live 39 true).raise 39).putB F.PWR_SUPPLY_VIN_OV true).safeCause 5
      s.emit 0xE2 3 15 (leBytes 1 1 ++ leBytes vin 1)
  okIf (vin < 256) (s.awake s')
/-- VIN_OV_RECOVERY: VIN is 18.00 V or less. -/
def execVinOvRecovery (fc : Nat) (s : State) : Host.Outcome State Fault Refusal :=
  .next (((s.at fc).live 39 false).putB F.PWR_SUPPLY_VIN_OV false)

/-- To STANDBY at once: leaving STANDBY stops, and a waiting request for another state fails. -/
def State.toStandby (s : State) : State :=
  if s.pstate = 0 then s
  else
    let keep := match s.pwr.req with | some r => r.target == 1 | none => false
    if s.pstate = 1 then ((if keep then s else s.failReq 0x03 1).stopLeaving)
    else
      let s := s.setState 1 0xFF 0
      if keep then s.reqDone else s.failReq 0x03 1

/-- VIN_SHUTDOWN: VIN above 20.00 V; the module enters STANDBY within 1 μs. -/
def execVinShutdown (fc vin : Nat) (s : State) : Host.Outcome State Fault Refusal :=
  let s := s.at fc
  okIf (vin < 256) (s.awake (s.emit 0xE2 3 15 (leBytes 2 1 ++ leBytes vin 1)).toStandby)

/-! ### Rails (R54, R358) -/

/-- The converter die's rail has fallen: its synthesiser goes off and a calibration in its scope aborts (R54, Table 2.8). -/
def State.dieOff (s : State) (w : Nat) : State :=
  let s := match s.cva.cal with
    | some c => if c.ended.isNone && c.hasSynth s.variant w then s.calAbort 3 else s
    | none => s
  (s.synthOff w).muteDacs.seqRecheck

/-- Hold a block that a rail holds, from now. -/
def State.holdNow (s : State) (unit : List Byte) (b : Block) : State :=
  let s := s.setFlt { s.flt with held := s.flt.held ++ (if s.flt.held.contains b then [] else [b]) }
  s.holdBlock unit b

/-- The fabric's rail holds the Gouge: nothing is subtracted, and the taps stay as they are (Table 15.3). -/
def State.gougeOff (s : State) : State :=
  s.each (slotsOf s.variant) (fun s sl =>
    let s := s.setGg sl { s.gg sl with staged := none, restore := false, diverged := false, reprobe := none }
    s.put (F.GOUGE_SLOT_REPORT_C_REP sl) 0)

/-- An internal rail but VAON falls below its limit, with the outcome of its row of Table 15.3. The event of VPWR reaches the
collector when VPWR recovers. `unit` holds the bytes of the data-transfer unit in progress, which a reset of the Host Interface
completes. -/
def State.railFalls (s : State) (rail : Nat) (unit : List Byte) : State :=
    if s.railDown rail then s
    else
      let s := (s.putBit F.PWR_SUPPLY_RAIL_UV rail true).live 40 true
      let s := s.emit 0xE3 5 15 (leBytes rail 1)
      let s := if rail = 3 then s else (s.raise 40).bump F.PWR_SUPPLY_RAIL_EVENTS 1
      if rail = 0 then
        let s := (s.holdNow unit .fabric).safeCause 6
        let s := s.setFlt { s.flt with held := s.flt.held ++ (if s.flt.held.contains .gouge then [] else [.gouge]) }
        s.gougeOff.holdNow unit .sequencer
      else if rail = 3 then s.each [Block.gauge, .pwm, .control, .hif] (fun s b => s.holdNow unit b) |>.safeCause 6
      else s.dieOff (rail - 1)

/-- RAIL_RECOVERY: the rail is above its limit again and its blocks resume. -/
def execRailRecovery (fc rail : Nat) (s : State) : Host.Outcome State Fault Refusal :=
  let s := s.at fc
  let s' := if !s.railDown rail then s
    else
      let s := s.putBit F.PWR_SUPPLY_RAIL_UV rail false
      let s := s.live 40 (s.flag F.PWR_SUPPLY_RAIL_UV)
      let free (l : List Block) (s : State) : State := s.setFlt { s.flt with held := s.flt.held.filter (fun b => !l.contains b) }
      if rail = 0 then
        let s := free [.fabric, .gouge, .sequencer] s
        if s.running then s.restartTaps.seqRestart else s
      else if rail = 3 then
        let l := [Block.gauge, .pwm, .control, .hif]
        let s := (free l s).raise 40 |>.bump F.PWR_SUPPLY_RAIL_EVENTS 1
        s.each l State.restartBlock
      else
        let w := rail - 1
        if (s.running || s.pwr.leaving) && !s.dieDown w && !s.pwr.clkLost then (s.reacquire w false).muteDacs else s.muteDacs
  okIf (rail < 4) s'

/-! ### Temperatures (R53, R359) -/

/-- The hottest of the four dies, the lowest-numbered where they tie. -/
def hottest (l : List Int) : Nat × Int :=
  (l.zipIdx.drop 1).foldl (fun b e => if b.2 < e.1 then (e.2, e.1) else b) (0, l.headD 0)

/-- The gradient between the converter dies and the fabric die (R53). -/
def State.gradient (s : State) (g : Nat) : State :=
  let s := s.put F.CVA_GRADIENT_GRAD_NOW g
  let s := s.put F.CVA_GRADIENT_GRAD_PEAK (max (s.get F.CVA_GRADIENT_GRAD_PEAK) g)
  let s := if g > 60 ∧ !s.isLive 4 then (s.raise 4).live 4 true else if g ≤ 56 then s.live 4 false else s
  s.putB F.CVA_STATUS_GRADIENT (s.isLive 4)

/-- TEMP_SENSOR_READ: the temperatures of the donor-side, service-side, fabric and power dies in units of 0.5 °C. -/
def execTempSensorRead (fc : Nat) (donor service fabric power : Int) (s : State) : Host.Outcome State Fault Refusal :=
  let s := s.at fc
  let l := [donor, service, fabric, power]
  let was := s
  let s := ((s.puti (F.CVA_TEMP_TEMP 0) donor).puti (F.CVA_TEMP_TEMP 1) service).puti (F.CVA_TEMP_TEMP 2) fabric
  let s := s.gradient (min 511 (max (donor - fabric).natAbs (service - fabric).natAbs))
  let (die, t) := hottest l
  let s := (s.puti F.PWR_TEMP_HOTTEST t).put F.PWR_TEMP_DIE die
  let w : Int := 2 * (s.get F.PWR_TEMP_TEMP_WARN : Int)
  let rec_ (k : Nat) (s : State) : State := s.emit 0xE4 3 15 (leBytes die 1 ++ leBytes k 1 ++ leBytes (unsgn 16 t) 2)
  let s := if t > w ∧ !s.isLive 41 then rec_ 0 ((s.raise 41).live 41 true) else if t ≤ w - 10 then s.live 41 false else s
  let s := if t > 270 ∧ !s.isLive 42 then
      let s := rec_ 1 ((s.raise 42).live 42 true)
      if s.pstate ≥ 2 then s.setPwr { s.pwr with next := some (1, 0xFF) }
      else (if s.pwr.leaving then s.failReq 0x03 1 else s).stopLeaving
    else if t < 250 then s.live 42 false else s
  okIf (l.all (fun t => decide (-512 ≤ t ∧ t < 512))) (was.awake s)

/-! ### Kills (R134, R135, R372) -/

/-- KILL_N_FALL. -/
def execKillNFall (fc : Nat) (s : State) : Host.Outcome State Fault Refusal :=
  let s := s.at fc
  let t := s.setPwr { s.pwr with killPin := true }
  .next (if s.pwr.killPin then s else t.awake ((t.bump F.GRD_KILL_PIN_COUNT 1).killOnset 0).killActs)
/-- KILL_N_RISE: the module stays in SAFE (R135). -/
def execKillNRise (fc : Nat) (s : State) : Host.Outcome State Fault Refusal :=
  let s := (s.at fc).setPwr { s.pwr with killPin := false }
  .next (s.awake s.killLive.muteDacs.settlePins.seqRecheck)

/-- KILL_RESUME: with it in force, 500 Turns after the kill has gone the module returns at the next boundary to the state before
(R135). -/
def execKillResume (fc : Nat) (s : State) : Host.Outcome State Fault Refusal :=
  let s := s.at fc
  let ok := s.pstate == 4 && s.actB F.GRD_CFG_KILL_RESUME && decide (500 ≤ s.pwr.killClear) && bit (s.get F.PWR_STATE_SAFE_CAUSE) 1 &&
    s.heldCauses == 0 && s.pwr.req.isNone && s.mayReturn s.pwr.before
  .next (if ok then s.setPwr { s.pwr with next := some (s.pwr.before, 0xFF) } else s)

/-! ### The reference clock (R362, R363) -/

/-- REFCLK_LOSS: outputs go safe, SAFE is entered at once, and the spindle freezes. -/
def execRefclkLoss (fc : Nat) (s : State) : Host.Outcome State Fault Refusal :=
  let s := s.at fc
  if s.pwr.clkLost then .next s
  else if s.pwr.off then .next (s.setPwr { s.pwr with clkLost := true })
  else
    let met := s.pstate = 2 ∨ s.pstate = 3
    let s := ((s.raise 43).live 43 true).bump F.TB_CLK_LOSS_LOSSES 1
    let s := (s.putB F.CLK_STATUS_REF_OK false).putB F.CLK_STATUS_FAB_LOCK false
    let s := (s.setPwr { s.pwr with clkLost := true, recover := none }).putB F.FLT_ALIVE_STOPPED true
    let s := s.emit 0xE8 6 15 (leBytes s.turn.toNat 6)
    let s := if s.blockHeld .pwm then s else s.pwmClockLoss
    let s := s.each ([0, 1].filter (fun w => s.synth w == 2)) (fun s w => (s.bump (F.CVA_SYNTH_STATUS_LOCK_LOSS_COUNT w) 1).raise (1 + w))
    let s := s.calStop 1
    let s := s.each ([0, 1].filter (fun w => s.synth w != 0)) (fun s w => s.setSynth w 3)
    let s := s.muteDacs.settlePins.seqRecheck
    if met then
      let s := s.enterSafe (s.dueCauses) 4
      .next (s.setPwr { s.pwr with recover := some 0, safeDue := 0 })
    else .next s

/-- REFCLK_RETURN: REFCLK has been good for 1 ms after `us` microseconds: clocks relock, the spindle resumes and slots restart. -/
def execRefclkReturn (fc us : Nat) (s : State) : Host.Outcome State Fault Refusal :=
  let s := s.at fc
  if !s.pwr.clkLost then .next s
  else if s.pwr.off then .next (s.setPwr { s.pwr with clkLost := false })
  else
    let s := (s.put F.TB_CLK_LOSS_LAST_US (min us 0xFFFFFF)).live 43 false
    let s := (s.putB F.CLK_STATUS_REF_OK true).putB F.CLK_STATUS_FAB_LOCK true
    let s := s.emit 0xE9 2 15 (leBytes (min us 0xFFFFFFFF) 4)
    let s := s.setPwr { s.pwr with clkLost := false }
    let s := if s.blockHeld .pwm then s else s.pwmClockBack
    let s := s.each [0, 1] (fun s w =>
      if s.dieDown w || !(s.running || s.pwr.leaving) then s else s.reacquire w s.running)
    let s := if s.running && !s.blockHeld .fabric then s.restartTaps else s
    .next (s.muteDacs.settlePins.seqRecheck)

/-- AUTONOMOUS_RECOVERY: a flash-started module with BOOT_STRAP1 returns by itself 500 Turns after both synthesisers locked again,
with no other SAFE cause held (R363). -/
def execAutonomousRecovery (fc : Nat) (s : State) : Host.Outcome State Fault Refusal :=
  let s := s.at fc
  let waited := match s.pwr.recover with | some n => 500 ≤ n | none => false
  let ok := s.pstate == 4 && waited && s.flash.reachedRelay && bit s.pwr.straps 1 && s.heldCauses == 0 && s.pwr.req.isNone &&
    s.mayReturn s.pwr.before
  .next (if ok then s.setPwr { s.pwr with next := some (s.pwr.before, 0xFF) } else s)

/-- The counts of Turns kept in SAFE: since the last kill went away, and since both synthesisers were LOCKED again (R135, R363). -/
def State.safeTurns (s : State) : State :=
  let k := if s.pstate = 4 ∧ !s.killHeld then s.pwr.killClear + 1 else 0
  let r := match s.pwr.recover with
    | some n => if s.synth 0 = 2 ∧ s.synth 1 = 2 ∧ !s.pwr.clkLost then some (n + 1) else some 0
    | none => none
  s.setPwr { s.pwr with killClear := min k 500, recover := r.map (min 500) }

end Sys2Proof.Machine
end

