-- ==== Sys2Proof/Machine/Plans.lean ====
section
/-! DEFINITION. Plan control (spec/07): the image buffer, parse, validation, the swap and what it does to every part, errors of the
Plan RAM, and autonomous start from the flash. -/
namespace Sys2Proof.Machine

/-! ### Refusals (R181) -/

/-- Report a refusal: PLAN_REJECT, its count and its record. -/
def State.report7 (s : State) (r : Refuse) (atSwap : Bool) : State :=
  let s := (s.put F.PLAN_REJECT_CODE r.1).putB F.PLAN_REJECT_AT_SWAP atSwap
  let s := (s.put F.PLAN_REJECT_OFS_LO r.2.2).put F.PLAN_REJECT_ITEM r.2.1
  let s := s.bump F.PLAN_COUNT_REJECTS 1
  s.emit 0x61 3 3 (leBytes r.1 1 ++ leBytes (b2n atSwap) 1 ++ leBytes r.2.1 2 ++ leBytes r.2.2 1)

/-- DETAIL of a completion with cause PLAN_REFUSED (Table 8.7). -/
def refusalDetail (r : Refuse) (atSwap : Bool) : Nat := r.1 + 256 * b2n atSwap + 512 * r.2.2 + 65536 * (r.2.1 % 65536)

/-! ### The image buffer and the parse (R178, R179) -/

/-- Clear the image buffer. -/
def State.clearImage (s : State) : State := s.setPlan { s.plan with image := [], imageBad := [] }

/-- PLAN_LOAD (R178, R179, R185, R191). -/
def execPlanLoad (fc sq idx : Nat) (s : State) : Host.Outcome State Fault Refusal :=
  .next (s.withDesc fc sq idx Op.planLoad (fun d s =>
    let k : DescKey := d.key
    let off := dOffset d.body
    let n := dLen d.body
    if s.shadowLocked then s.failed k 0x07 0
    else if off % 4 ≠ 0 ∨ 393216 < off + n then (s.report7 (3, 0, 0) false).failed k 0x06 (refusalDetail (3, 0, 0) false)
    else (if off = 0 then s.clearImage else s).addXfer d (.planLoad off (dLast d.body)) (dAddr d.body) n))

/-- A refusal at build: the Shadow Plan is unchanged, and no source is signalled (R179). -/
def State.parseFails (s : State) (r : Refuse) (fr : ParseFrom) : State :=
  let s := (s.setPlan { s.plan with parsing := none }).putB F.PLAN_STATUS_PARSING false
  let s := s.report7 r false
  match fr with
  | .load k => s.failed k 0x06 (refusalDetail r false)
  | .orphan => s
  | .flash _ => match s.flash.stage with
    | .parse _ (some o) =>
      ({ s with flash := { s.flash with stage := .image o none } }.put F.PLAN_BOOT_STAGE 1).putB F.PLAN_BOOT_FALLBACK true
    | .parse _ none => s.flashEnd 2
    | _ => s

/-- PARSE_END: a parse ends within 256 Turns; a Plan that passed replaces the Shadow Plan at the next boundary (R179). -/
def execParseEnd (fc : Nat) (s : State) : Host.Outcome State Fault Refusal :=
  let s := s.at fc
  match s.plan.parsing, s.plan.replace with
  | some fr, none => match parseImage s.variant s.plan.image s.plan.imageBad with
    | .inl r => .next (s.parseFails r fr)
    | .inr p => .next (s.setPlan { s.plan with replace := some (p, fr) })
  | _, _ => .next s

/-! ### The Shadow Plan (R172, R180) -/

/-- RWS_WRITE: a host write to a register's staged fields. A register that is absent, or has none, or the route of a fixed role, takes
nothing (R2, Table 3.15). -/
def execRwsWrite (fc off v : Nat) (s : State) : Host.Outcome State Fault Refusal :=
  let s := s.at fc
  match findReg off with
  | none => .next s
  | some (r, i) =>
    let v := v &&& presentMask s.variant off
    if s.pwr.off || (rwsOf r).isEmpty || !namesIn s.variant r.names i || routeFixed s.variant off then .next s
    else if s.shadowLocked then .next (s.bump F.PLAN_COUNT_DROPPED_WRITES 1)
    else
      let s := { s with shadow := { s.shadow with flds := setEntry s.variant s.shadow.flds (off, v) } }
      .next (s.putB F.PLAN_STATUS_SHADOW_CHECKED false)

/-- A write of PLAN_CTRL: counted and ignored while the Shadow Plan is locked (R172, R180). -/
def State.planCtrl (s : State) (f : PlanCtl → PlanCtl) : State :=
  if s.pwr.off then s else if s.shadowLocked then s.bump F.PLAN_COUNT_DROPPED_WRITES 1 else s.setPlan (f s.plan)

/-- COPY_ACTIVE. -/
def execCopyActive (fc : Nat) (s : State) : Host.Outcome State Fault Refusal :=
  .next ((s.at fc).planCtrl (fun p => { p with copyActive := true }))
/-- CLEAR_SHADOW. -/
def execClearShadow (fc : Nat) (s : State) : Host.Outcome State Fault Refusal :=
  .next ((s.at fc).planCtrl (fun p => { p with clearShadow := true }))
/-- FLASH_LOAD. -/
def execFlashLoad (fc : Nat) (s : State) : Host.Outcome State Fault Refusal :=
  .next ((s.at fc).planCtrl (fun p => { p with flashLoad := true }))

/-! ### The swap (R184, R185) -/

/-- The pending swap is refused: both Plans are unchanged. A CHECK signals no source and leaves LAST_SWAP. -/
def State.refuseSwap (s : State) (w : Swap) (r : Refuse) : State :=
  let s := (s.setPlan { s.plan with swap := none }).putB F.PLAN_STATUS_SWAP_PENDING false
  let s := s.report7 r true
  let s := if w.mode = 2 then s else (s.raise 45).put F.PLAN_STATUS_LAST_SWAP 2
  match w.desc with
  | some k => s.failed k 0x06 (refusalDetail r true)
  | none => match s.flash.stage with | .swap => s.flashEnd 3 | _ => s

/-- A swap is accepted: it is pending. -/
def State.acceptSwap (s : State) (mode : Nat) (target : TurnNo) (desc : Option DescKey) : State :=
  let w : Swap := ⟨mode, target, desc, s.turn, false, none, false⟩
  (s.setPlan { s.plan with swap := some w }).putB F.PLAN_STATUS_SWAP_PENDING true

/-- A PLAN_SWAP descriptor in one mode. -/
def State.planSwap (s : State) (fc sq idx mode : Nat) : State :=
  let right := match (s.at fc).waiting sq idx with | some d => dMode d.body == mode | none => false
  if !right then s.at fc
  else s.withDesc fc sq idx Op.planSwap (fun d s =>
    let k : DescKey := d.key
    if s.shadowLocked then s.failed k 0x07 0
    else if s.pstate = 0 ∨ s.pwr.off then s.failed k 0x03 s.pstate
    else s.acceptSwap mode (dTarget d.body) (some k))

/-- PLAN_SWAP in mode NEXT. -/
def execPlanSwapNext (fc sq idx : Nat) (s : State) : Host.Outcome State Fault Refusal := .next (s.planSwap fc sq idx 0)
/-- PLAN_SWAP in mode AT_TURN. -/
def execPlanSwapAtTurn (fc sq idx : Nat) (s : State) : Host.Outcome State Fault Refusal := .next (s.planSwap fc sq idx 1)
/-- PLAN_SWAP in mode CHECK. -/
def execPlanSwapCheck (fc sq idx : Nat) (s : State) : Host.Outcome State Fault Refusal := .next (s.planSwap fc sq idx 2)

/-- SWAP_VALIDATION_END: validation of the Shadow Plan, begun at the boundary after acceptance, ends (R181, R184). A Shadow Plan that
passes is checked (Table 7.12). -/
def execSwapValidationEnd (fc : Nat) (s : State) : Host.Outcome State Fault Refusal :=
  let s := s.at fc
  match s.plan.swap with
  | none => .next s
  | some w =>
    if !w.validating || w.ended.isSome then .next s
    else match s.swapFaults with
      | some r => .next (s.refuseSwap w r)
      | none =>
        let s := s.setPlan { s.plan with swap := some { w with ended := some (s.turn, s.fc, none) } }
        .next (s.putB F.PLAN_STATUS_SHADOW_CHECKED true)

/-- The swap decision at fc 2,816 (R21, R184): the Chuck's verdict on a Plan whose validation has ended is final, and LATE comes after
every code that was found (R181). An AT_TURN swap not validated by the Turn before TARGET is LATE now, or NO_SHADOW, which is checked
before every other code (log entry 66). -/
def State.swapVerdict (s : State) : State :=
  match s.plan.swap with
  | none => s
  | some w =>
    if w.commit then s
    else if w.ended.isNone then
      if w.mode = 1 ∧ w.target = s.turn + 1 then
        s.refuseSwap w (if s.flag F.PLAN_STATUS_SHADOW_VALID then (0x13, 0, 0) else (0x14, 0, 0))
      else s
    else match s.chuckFaults with
      | some r => s.refuseSwap w r
      | none =>
        if w.mode = 1 ∧ (!laterThan w.target w.accepted ∨ (!laterThan w.target (s.turn + 1) ∧ w.target ≠ s.turn + 1)) then s.refuseSwap w (0x13, 0, 0)
        else if w.mode = 2 then
          let s := (s.setPlan { s.plan with swap := none }).putB F.PLAN_STATUS_SWAP_PENDING false
          s.doneOpt w.desc 0
        else s.setPlan { s.plan with swap := some { w with commit := true } }

/-- The swap commits at this boundary. -/
def State.swapCommits (s : State) : Bool :=
  match s.plan.swap with | some w => w.commit && (w.mode != 1 || w.target == s.turn) | none => false

/-! ### What a commit does to each part (R186, R187) -/

/-- Fields whose change restarts a slot's tile and lane, and those whose change restarts its lane alone (Table 7.5). -/
def tileFields (sl : Nat) : List Field :=
  [F.CHZ_SLOT_CFG_SRC sl, F.CHZ_SLOT_CFG_RATE sl, F.CHZ_SLOT_CFG_TRANS sl, F.CHZ_SLOT_CFG_REJ sl, F.CHZ_SLOT_CFG_PHASE sl,
   F.CHZ_SLOT_CFG_DIV sl, F.CHZ_SLOT_FREQ_FREQ sl, F.CHZ_SLOT_BW_BW sl, F.CHZ_SLOT_COMB_COMB_MASK sl]
def laneFields (sl : Nat) : List Field :=
  [F.GOUGE_SLOT_ALLOC_TAPS sl, F.GOUGE_SLOT_ALLOC_DELAY sl, F.GOUGE_SLOT_ALLOC_DELAY_AUTO sl, F.GOUGE_SLOT_ALLOC_PRE_TAPS sl]

/-- The lane's start values differ: its fields, START from 0 to 1, or the record with START in both (Table 7.5). -/
def laneDiffers (p q : Plan) (sl : Nat) : Bool :=
  p.differs q (laneFields sl) || (q.on (F.GOUGE_SLOT_ALLOC_START sl) &&
    (!p.on (F.GOUGE_SLOT_ALLOC_START sl) || p.coefs.find? (fun c => c.slot == sl) != q.coefs.find? (fun c => c.slot == sl)))

/-- One slot at a commit (Table 7.5). -/
def State.slotSwap (s : State) (old : Plan) (sl : Nat) : State :=
  let new := s.active
  let was := old.slotOn sl
  let on := new.slotOn sl
  if on && !was then s.startSlot sl
  else if was && !on then s.stopSlot sl
  else if !on then s
  else
    let tile := old.differs new (tileFields sl)
    let s := if tile then s.restartSlot sl true true else if laneDiffers old new sl then s.restartSlot sl false true else s
    let s := (s.showCap sl).setGain sl (if tile then new.geti (F.CHZ_SLOT_GAIN_GAIN_INIT sl) else s.gainNow sl)
    if s.lvlOn sl && (tile || old.differs new (lvlFields sl)) then s.lvlStart sl else s

/-- Converters newly enabled settle for 16 Turns (Table 7.6). -/
def State.settleSwap (s : State) (old : Plan) : State :=
  let new := s.active
  let adc := (adcsOf s.variant).filter (fun n => new.on (F.CVA_ADC_CFG_EN n) && !old.on (F.CVA_ADC_CFG_EN n))
  let dac := (dacsOf s.variant).filter (fun n => new.on (F.CVA_DAC_CFG_EN n) && !old.on (F.CVA_DAC_CFG_EN n))
  let l := adc ++ dac.map (32 + ·)
  s.setCva { s.cva with settle := s.cva.settle.filter (fun e => !l.contains e.1) ++ l.map (fun n => (n, s.turn.toNat)) }

/-- Descriptor effects staged under the outgoing Plan are discarded (R22): all but the reads, which are data transfers. Each ends as a
SLOT_GAIN so discarded does (DEDUCED, log entry 66). -/
def State.discardEffects (s : State) : State :=
  let out := s.staged.filter (fun e => e.due == s.turn && (match e.eff with
    | .counterRead _ _ _ | .gaugeRead _ _ => false
    | _ => true))
  let s := { s with staged := s.staged.filter (fun e => !out.contains e) }
  s.each out (fun s e => s.completeAt e.desc 3 0x05 0 0 0 s.turn 0)

/-- The commit: the Plans exchange in one step, and every part takes the incoming one (R171, R185 to R187). -/
def State.commitSwap (s : State) (w : Swap) : State :=
  let old := s.active
  let was := s.get F.PLAN_STATUS_ACTIVE_VALID
  let s := { s with active := s.shadow, shadow := old }
  let s := s.setPlan { s.plan with swap := none, lost := false, repair := false }
  let s := ((s.put F.PLAN_STATUS_SHADOW_VALID was).put F.PLAN_STATUS_SHADOW_CHECKED was).putB F.PLAN_STATUS_ACTIVE_VALID true
  let s := (s.putB F.PLAN_STATUS_SWAP_PENDING false).put F.PLAN_STATUS_LAST_SWAP 1
  let s := (s.put F.PLAN_SWAP_TURN_LO_SWAP_TURN s.turn.toNat).put F.PLAN_SWAP_TURN_HI_SWAP_TURN (s.turn.toNat / 2 ^ 32)
  let s := (s.bump F.PLAN_COUNT_SWAPS 1).emit 0x60 1 3 (leBytes s.active.planId 4 ++ leBytes s.active.gen 4)
  let s := s.discardGains.discardEffects
  let s := s.each (slotsOf s.variant) (fun s sl => s.slotSwap old sl)
  let s := (s.settleSwap old).gaugeSwap old
  let s := s.loopsFinish old
  let s := if s.blockHeld .pwm then s else s.pwmSwap old
  let s := s.loopsSwap old
  let s := (s.seqSwap old).syncGuardAll.cancelInjection.muteDacs
  match w.desc with
  | some k => s.doneBoundary k 0
  | none => s

/-! ### Autonomous start (R188 to R191) -/

def State.setFlash (s : State) (g : FlashStage) (stage : Nat) : State :=
  { s with flash := { s.flash with stage := g } }.put F.PLAN_BOOT_STAGE stage

/-- Flash start or a FLASH_LOAD begins with the header; in BLANK and RETIRED the flash is not read. -/
def State.flashBegin (s : State) (auto : Bool) : State :=
  let s := ((s.put F.PLAN_BOOT_RESULT 0).putB F.PLAN_BOOT_IMAGE_USED false).putB F.PLAN_BOOT_FALLBACK false
  let s : State := { (s.put F.PLAN_BOOT_TOKENS_OK 0) with flash := { s.flash with stage := .header, autostart := auto, tokensLeft := 0 } }
  if s.lifecycle = 1 ∨ s.lifecycle = 2 ∨ s.lifecycle = 3 then s.put F.PLAN_BOOT_STAGE 1 else s.flashEnd 6

/-- FLASH_START: in STANDBY after the start-up sequence, with BOOT_STRAP0, autonomous start begins, once. -/
def execFlashStart (fc : Nat) (s : State) : Host.Outcome State Fault Refusal :=
  let s := s.at fc
  .next (if s.pstate = 1 ∧ bit s.pwr.straps 0 ∧ s.get F.PLAN_BOOT_STAGE = 0 ∧ !s.flashBusy ∧ !s.pwr.leaving then s.flashBegin true
    else s)

/-- The flash header (Table 7.9): MAGIC, FORMAT, CRC, the reserved bytes and the token count. -/
def flashHeaderOk (b : List Byte) : Bool :=
  leAt b 0 4 == 0x4C465747 && leAt b 4 2 == 1 && leAt b 60 4 == crc32c (b.take 60) && zerosAt b 6 2 && zerosAt b 22 38 && leAt b 20 2 ≤ 32

/-- The header of a Plan image with its directory (R174): is it sound for this variant? -/
def imageHeadOk (v : Variant) (b : List Byte) : Bool :=
  let n := leAt b 20 2
  leAt b 0 4 == 0x4C505747 && leAt b 4 2 == 1 && leAt b 6 2 == partOf v && 128 ≤ leAt b 8 4 && leAt b 8 4 ≤ 393216 &&
  1 ≤ n && n ≤ 8 && leAt b 22 2 < 4 && zerosAt b 32 28 && leAt b 60 4 == crc32c (b.take 60 ++ (b.drop 64).take (16 * n))

/-- Images to try, the highest GENERATION first. -/
def imageOrder (v : Variant) (l : List (Nat × List Byte)) : List Nat :=
  let ok := l.filter (fun e => imageHeadOk v e.2)
  match ok with
  | [a, b] => if leAt a.2 16 4 < leAt b.2 16 4 then [b.1, a.1] else [a.1, b.1]
  | l => l.map (·.1)

/-- FLASH_READ_END: a read of the flash ends with these bytes: the 64-byte header; the tokens; the header and directory (192 bytes)
of each image present; or a whole image. -/
def execFlashReadEnd (fc : Nat) (bytes : List Byte) (s : State) : Host.Outcome State Fault Refusal :=
  let s := s.at fc
  match s.flash.stage with
  | .header =>
    if !flashHeaderOk bytes then .next (s.flashEnd 1)
    else
      let a := leAt bytes 8 4
      let b := leAt bytes 12 4
      let n := if leAt bytes 16 4 = 0 then 0 else leAt bytes 20 2
      .next (if n = 0 then s.setFlash (.heads a b) 1 else s.setFlash (.tokens n a b) 1)
  | .tokens n a b =>
    let ops := (List.range n).map (fun i => SecOp.token (padTo 256 (bytes.drop (256 * i))) none (some i))
    let s := { s with flash := { s.flash with tokensLeft := n } }
    .next ((s.setSec { s.sec with ops := s.sec.ops ++ ops }).setFlash (.heads a b) 1)
  | .heads a b =>
    let l := if a = 0 then [1] else if b = 0 then [0] else [0, 1]
    let heads := l.zipIdx.map (fun e => (e.1, (bytes.drop (192 * e.2)).take 192))
    .next (match imageOrder s.variant heads with
      | [] => s.flashEnd 2
      | w :: rest => s.setFlash (.image w rest.head?) 1)
  | .image w o =>
    if s.plan.parsing.isSome ∨ s.plan.replace.isSome ∨ s.plan.swap.isSome then .next s
    else
      let s := s.clearImage.loadBytes 0 bytes
      let s := (s.setPlan { s.plan with parsing := some (.flash w) }).putB F.PLAN_STATUS_PARSING true
      .next (s.setFlash (.parse w o) 2)
  | _ => .next s

/-- The sequence after the swap: STANDBY is left, LISTEN is entered, and with BOOT_STRAP1 RELAY (R190). -/
def State.flashBoundary (s : State) : State :=
  match s.flash.stage with
  | .leaving =>
    if s.pstate = 1 then (if !s.pwr.leaving && s.mayLeave then s.startSynths else s)
    else if bit s.pwr.straps 1 then s.setFlash .calAll 5
    else s.flashEnd 0
  | .calAll =>
    if s.pstate = 1 then s.flashEnd 5
    else if s.pstate ≠ 2 then s
    else if s.calOk && s.relayOk then { (s.setState 3 0xFF 0).flashEnd 0 with flash := ⟨.idle, false, true, 0⟩ }
    else if !s.calOk && !s.calAllRuns then s.flashEnd 5
    else s
  | _ => s

/-! ### At a boundary -/

/-- A passed parse replaces the whole Shadow Plan (R179); in flash start the swap is asked for at once (R190). -/
def State.replaceShadow (s : State) : State :=
  match s.plan.replace with
  | none => s
  | some (p, fr) =>
    let s := { s with shadow := p }
    let s := (s.setPlan { s.plan with replace := none, parsing := none }).putB F.PLAN_STATUS_PARSING false
    let s := (s.putB F.PLAN_STATUS_SHADOW_VALID true).putB F.PLAN_STATUS_SHADOW_CHECKED true
    match fr with
    | .load k => s.doneBoundary k 0
    | .orphan => s
    | .flash w =>
      match s.flash.stage with
      | .parse _ _ =>
        let s := s.putB F.PLAN_BOOT_IMAGE_USED (w == 1)
        if s.flash.autostart then (s.setFlash .swap 3).acceptSwap 0 0 none else s.flashEnd 0
      | _ => s

/-- PLAN_CTRL acts (R180). -/
def State.planCtrlActs (s : State) : State :=
  let p := s.plan
  let s := s.setPlan { s.plan with copyActive := false, clearShadow := false, flashLoad := false }
  let v := s.get F.PLAN_STATUS_ACTIVE_VALID
  let s := if p.copyActive then
      ({ s with shadow := s.active }.put F.PLAN_STATUS_SHADOW_VALID v).put F.PLAN_STATUS_SHADOW_CHECKED v
    else s
  let s := if p.clearShadow then
      ({ s with shadow := emptyPlan }.putB F.PLAN_STATUS_SHADOW_VALID false).putB F.PLAN_STATUS_SHADOW_CHECKED false
    else s
  if p.flashLoad && !s.flashBusy then s.flashBegin false else s

/-- Plan control at a boundary: the commit, PLAN_CTRL, a passed parse; validation of an accepted swap begins (R184). An AT_TURN swap
whose TARGET the count has passed by is LATE. -/
def State.planBoundary (s : State) : State :=
  let s := s.setPlan { s.plan with repair := false }
  let s := match s.plan.swap with
    | none => s
    | some w =>
      if s.swapCommits then
        let s := s.commitSwap w
        match w.desc, s.flash.stage with
        | none, .swap =>
          let s := s.setFlash .leaving 4
          if s.pstate = 1 ∧ !s.pwr.leaving ∧ s.mayLeave then s.startSynths else s
        | _, _ => s
      else if w.commit ∧ w.mode = 1 ∧ !laterThan w.target s.turn then s.refuseSwap w (0x13, 0, 0)
      else s.setPlan { s.plan with swap := some { w with validating := true } }
  s.planCtrlActs.replaceShadow

/-! ### Errors (R173) -/

/-- An error of a kind of memory: 0 one copy of the Active Plan, 1 the same word of both, 2 the Shadow Plan, 3 a word of the image
buffer. -/
def State.planError (s : State) (kind word : Nat) (single : Bool) : State :=
  let s := (s.bump (if single then F.PLAN_ECC_CORRECTED else F.PLAN_ECC_UNCORRECTED) 1).raise 5
  if single then s
  else if kind = 0 then s.setPlan { s.plan with repair := true }
  else if kind = 1 then (s.putB F.PLAN_STATUS_ACTIVE_VALID false).setPlan { s.plan with activeLost := true, lost := true }
  else if kind = 2 then s.putB F.PLAN_STATUS_SHADOW_VALID false
  else s.setPlan { s.plan with imageBad := if s.plan.imageBad.contains word then s.plan.imageBad else s.plan.imageBad ++ [word] }

/-- PLAN_ECC. -/
def execPlanEcc (fc kind word : Nat) (single : Bool) (s : State) : Host.Outcome State Fault Refusal :=
  let s := s.at fc
  okIf (kind < 4 && word < 98304) (s.awake (s.planError kind word single))

end Sys2Proof.Machine
end

