-- ==== Sys2Proof/Machine/Captures.lean ====
section
/-! DEFINITION. Captures (R60, R77 to R80): what an engine records of its point, its triggers, and its end. -/
namespace Sys2Proof.Machine

def Capture.full (c : Capture) : Bool := c.point / 4096 == 0
/-- Capture engines, one port each (Table 3.1). -/
def nCapOf (v : Variant) : Nat := nPortOf v
/-- Blocks in the share of a baseband capture (R79). -/
def shareBlocks : Nat := 8192

/-- Raw converter capture is permitted (R80, Table 14.9). -/
def State.rawOk (s : State) : Bool :=
  let g := match s.sec.session with | some (g, _, _) => g | none => 0
  let quiet := s.pstate == 2 || s.pstate == 4
  match s.lifecycle with
  | 0 | 1 => quiet
  | 3 => bit g 2 && (quiet || (s.pstate == 3 && bit g 3))
  | _ => false

/-- CAPTURE: arms the lowest-numbered free engine (R77 to R80, R209). Where raw capture is not permitted, the buffer too short and the engines
busy all at once, the spec does not say which cause prevails: they are tested in that order (DESIGN CHOICE, log entry 62). -/
def execCapture (fc sq idx : Nat) (s : State) : Host.Outcome State Fault Refusal :=
  .next (s.withDesc fc sq idx Op.capture (fun d s =>
    let k : DescKey := d.key
    let p := dPoint d.body
    let full := p / 4096 == 0
    let need := 64 + dRecords d.body * (if full then 48 else 128)
    let free := (List.range (nCapOf s.variant)).find? (fun e => (s.findCapture e).isNone)
    if full && bits p 0 8 < nAdcOf s.variant && !s.rawOk then s.failed k 0x11 0
    else if dLen d.body < need then s.failed k 0x12 need
    else if s.hif.captures.any Capture.full || (full && !s.hif.captures.isEmpty) then s.failed k 0x0E 0
    else match free with
      | none => s.failed k 0x0E 0
      | some e =>
        let c : Capture := { engine := e, sq := d.sq, order := d.order, addr := dAddr d.body, point := p, kind := dTrigger d.body,
                             trigTurn := dTrigTurn d.body, want := dRecords d.body, pre := dPre d.body, timeout := dTimeout d.body,
                             armed := s.turn, from_ := none, trig := none, recs := [], before := 0, part := [], upto := 0,
                             ended := false, truncated := false, late := false }
        let s := s.setHif { s.hif with captures := s.hif.captures ++ [c] }
        s.addXfer d (.capture e) (dAddr d.body) need))

/-! ### Recording (R75, R78, R79) -/

/-- One more record: before the trigger the most recent PRE_RECORDS are kept, after it as many as are wanted. -/
def Capture.add (c : Capture) (r : CapRec) : Capture :=
  if c.trig.isNone then { c with recs := (c.recs ++ [r]).drop (c.recs.length + 1 - c.pre) }
  else if c.recs.length < c.want then { c with recs := c.recs ++ [r] } else c

/-- The block in progress becomes a record: its time and its sideband are those of the word its first sample derives from, with OVR and
DIRTY where they applied to any of its samples. -/
def Capture.close (c : Capture) : Capture :=
  match c.part with
  | [] => c
  | e :: _ =>
    let o := c.part.any (·.1.ovr)
    let d := c.part.any (·.1.dirty)
    let b := baseRecord (sideband e.1.turn.toNat e.1.fc o d) (c.part.map (·.2))
    ({ c with part := [] }).add ⟨e.1.turn, e.1.fc, e.1.epoch, o, d, b⟩
def Capture.addSample (c : Capture) (e : CapRec × Int × Int) : Capture :=
  let c := { c with part := c.part ++ [e] }
  if c.part.length = 15 then c.close else c

/-- A full-rate record of the word at `fc` of this Turn. -/
def State.fullRec (s : State) (st : Stream) (port fc : Nat) : CapRec :=
  let w := s.laneWord st port fc
  ⟨s.turn, fc, s.epoch.toNat, sideOvr w.side, sideDirty w.side, fullRecord w⟩

/-- The samples of a slot over this Turn, each with the fc of the word it derives from. -/
def State.turnSamples (s : State) (st : Stream) (sl : Nat) : List (Nat × Samp) :=
  if !s.slotOn sl then []
  else
    let d := s.slotDecim sl
    let (a, _) := s.sampleGrid d
    let l := (((s.sourceMarks st sl).runPath st sl).lastSamples sl).reverse
    l.zipIdx.map (fun e => ((a + e.2) * d / 16 - 3072 * s.ticks, e.1))

/-- The tile of a slot has failed at time `t` and no spare has taken over yet (R75, R76). -/
def State.tileDown (s : State) (sl t : Nat) : Bool :=
  s.fab.migs.any (fun m => m.slot == sl && m.since ≤ t) || (s.fab.noSpare.contains sl && s.mutedAt sl t)

/-- What a baseband capture takes of a sample at its stage: 0 after the channel filter, 1 after the Gouge, 2 after the gain. A migration of
its tile leaves zeros, marked dirty. -/
def State.baseSample (s : State) (point fc : Nat) (z : Samp) : CapRec × Int × Int :=
  let stage := bits point 8 2
  let up (v : Int × Int) : Int × Int := (sample20 (524288 * v.1), sample20 (524288 * v.2))
  let v := if stage = 0 then up z.input else if stage = 1 then (sample20 z.resid.1, sample20 z.resid.2) else up z.out
  if s.tileDown (bits point 0 7) (3072 * s.ticks + fc) then (⟨s.turn, fc, s.epoch.toNat, z.ovr, true, []⟩, (0, 0))
  else (⟨s.turn, fc, s.epoch.toNat, z.ovr, z.dirty, []⟩, v)

/-- Record the point from where the engine stands up to `fc` of this Turn. -/
def State.recordTo (s : State) (st : Stream) (fc : Nat) (c : Capture) : Capture :=
  let start := 3072 * s.ticks
  match c.from_ with
  | none => c
  | some f =>
    if c.ended then c
    else
      let a := max c.upto f - start
      let c := { c with upto := start + fc }
      if c.full then
        ((List.range (fc - a)).map (fun i => s.fullRec st (bits c.point 0 8) (a + i))).foldl Capture.add c
      else
        let l := (s.turnSamples st (bits c.point 0 7)).filter (fun e => a ≤ e.1 && e.1 < fc)
        (l.map (fun e => s.baseSample c.point e.1 e.2)).foldl Capture.addSample c

/-- The Turn ends: every engine has recorded it. -/
def State.captureTurn (s : State) (st : Stream) : State :=
  s.each s.hif.captures (fun s c => s.setCapture (s.recordTo st 3072 c))

/-- The routes of the capture ports follow the engines at a boundary (R60): an engine armed since the last one records from here on. -/
def State.captureBoundary (s : State) : State :=
  let s := s.each s.hif.captures (fun s c =>
    if c.from_.isNone then s.setCapture { c with from_ := some s.now, upto := s.now } else s)
  (s.setFab { s.fab with capRoute := s.hif.captures.map (fun c =>
    (c.engine, if c.full then some (bits c.point 0 8) else none)) }).choose

/-! ### Triggers and ends (R79) -/

/-- The word of this fc at the point carries OVR, or is dirty. -/
def State.pointMarked (s : State) (st : Stream) (c : Capture) (ovr : Bool) : Bool :=
  let of (r : CapRec) : Bool := if ovr then r.ovr else r.dirty
  if c.full then of (s.fullRec st (bits c.point 0 8) s.fc)
  else ((s.turnSamples st (bits c.point 0 7)).filter (fun e => e.1 == s.fc)).any (fun e => of (s.baseSample c.point e.1 e.2).1)

/-- CAPTURE_TRIGGER: the engine's trigger occurs (R79), `h` telling what has flowed in this Turn. IMMEDIATE is the first boundary after
acceptance; TURN the boundary of its Turn, or the next boundary with LATE when that is past; OVR and DIRTY lie in the word of this fc; GUARD
is an action that begins now, on the captured slot or, at a full-rate point, on any; FAULT a latch of now. A TURN trigger that names the Turn
of acceptance is past: its boundary is over, and the spec does not say (DESIGN CHOICE, log entry 62). A baseband block in progress ends at
the trigger (DEDUCED, log entry 62). -/
def execCaptureTrigger (fc : Nat) (h : Heard) (s : State) : Host.Outcome State Fault Refusal :=
  let s := s.at fc
  let s' := match s.findCapture h.engine with
    | none => s
    | some c =>
      let first := s.fc == 0 && c.from_ == some s.now
      let past := c.kind == 1 && !laterThan c.trigTurn c.armed
      let now_ := match c.kind with
        | 0 => first
        | 1 => (past && first) || (s.fc == 0 && !past && s.turn == c.trigTurn)
        | 2 => s.pointMarked h.stream c true
        | 3 => s.pointMarked h.stream c false
        | 4 => s.grd.begun.any (fun e => e.2 == s.now && (c.full || e.1 == bits c.point 0 7))
        | _ => s.flt.latchAt == some s.now
      if c.trig.isSome || c.ended || c.from_.isNone || !now_ then s
      else
        let c := (s.recordTo h.stream s.fc c).close
        s.setCapture { c with trig := some (s.turn, s.fc), before := c.recs.length, late := past }
  okIf (h.engine < nCapOf s.variant) s'

/-- CAPTURE_RECORDING_END: its RECORDS are recorded. -/
def execCaptureRecordingEnd (fc engine : Nat) (w : Lanes) (l : List SlotMeas) (s : State) : Host.Outcome State Fault Refusal :=
  let s := s.at fc
  let s' := match s.findCapture engine with
    | none => s
    | some c =>
      let c := s.recordTo ⟨w.adcs, w.tiles, l⟩ (s.fc + 1) c
      if c.trig.isNone || c.ended || c.recs.length < c.want then s
      else (s.setCapture { c with ended := true }).choose
  okIf (engine < nCapOf s.variant) s'

/-- Blocks of a capture that the link has not taken yet. -/
def State.undrained (s : State) (c : Capture) : Nat :=
  match s.findXfer (c.sq, c.order) with | some x => c.recs.length - x.pos / c.recSize | none => 0

/-- CAPTURE_SHARE_OVERRUN: a baseband capture whose share would overrun stops with TRUNCATED, with the blocks its share holds. -/
def execCaptureShareOverrun (fc engine : Nat) (w : Lanes) (l : List SlotMeas) (s : State) : Host.Outcome State Fault Refusal :=
  let s := s.at fc
  let s' := match s.findCapture engine with
    | none => s
    | some c =>
      let c := s.recordTo ⟨w.adcs, w.tiles, l⟩ (s.fc + 1) c
      let n := s.undrained c
      if c.trig.isNone || c.ended || c.full || n ≤ shareBlocks then s
      else
        (s.setCapture { c with recs := c.recs.take (c.recs.length + shareBlocks - n), ended := true, truncated := true }).choose
  okIf (engine < nCapOf s.variant) s'

/-- NO_TRIGGER: the arming timeout expires; nothing is written (R79). -/
def execNoTrigger (fc engine : Nat) (s : State) : Host.Outcome State Fault Refusal :=
  let s := s.at fc
  let s' := match s.findCapture engine with
    | none => s
    | some c =>
      if c.trig.isSome || turnsSince s.turn c.armed < c.timeout then s
      else ((s.freeCapture engine).dropXfer (c.sq, c.order)).failed (c.sq, c.order) 0x0F 0
  okIf (engine < nCapOf s.variant) s'

end Sys2Proof.Machine
end

