-- ==== Sys2Proof/Machine/Apzer.lean ====
section
/-! DEFINITION. The Apzer Link (R365 to R373): the frames that arrive, inputs up and down, acquisition, holdover and conflicts, and
the frames the module sends. Times of arrival are in units of 1/16 fc of the module's own Turn. -/
namespace Sys2Proof.Machine

/-! ### Frames that arrive (R366 to R368) -/

/-- A valid frame on an enabled input, with its KILL bit (R372, R373). -/
def State.apzValid (s : State) (i : Nat) (kill : Bool) : State :=
  let n := min 192 (sparseGet 0 s.apz.valid i + 1)
  (s.setApz { s.apz with valid := sparseInsert s.apz.valid i n, killed := sparseInsert s.apz.killed i kill,
                           heard := sparseInsert s.apz.heard i s.now }).syncKill i

/-- The input takes frames: enabled, and the link logic not held in reset. -/
def State.apzTakes (s : State) (i : Nat) : Bool := s.flag (apzEn i) && !s.blockHeld .apzer && !s.pwr.off

/-- MARK, COUNT, EPOCH, HOP and DELAY frames of one sender Turn have all been received, from an aligned sender. -/
def Apz.complete (a : Apz) : Bool :=
  a.markAt.isSome && a.countMask == 1023 && a.epochMask == 15 && a.delayMask == 7 &&
  (match a.hop with | some h => bit h 4 | none => false)

/-- A new sender Turn begins to be collected. -/
def Apz.fresh (a : Apz) : Apz :=
  { a with markAt := none, markCount := 0, countBits := 0, countMask := 0, epochBits := 0, epochMask := 0, hop := none, delayBits := 0,
           delayMask := 0 }

/-- The frame completes the sender's Turn: one more good Turn (R369). -/
def State.apzPiece (s : State) (f : Apz → Apz) : State :=
  let a := f s.apz
  let now_ := a.complete && !s.apz.complete
  s.setApz { a with goodTurns := if now_ then min 4 (a.goodTurns + 1) else a.goodTurns }

/-- The module's boundary less the sender's, from the arrival of MARK and the delay of the hop, in units of 1/16 fc (R371). -/
def boundaryDiff (t16 d : Nat) : Int :=
  let x : Int := ((d : Int) - (t16 : Int)) % 49152
  if x < 24576 then x else x - 49152

/-- A frame on APZ_IN0 that carries timing; LEADERs and FOLLOWERs look at it. -/
def State.apzFrame0 (s : State) (kill : Bool) (f : State → State) : State :=
  if !s.apzTakes 0 then s
  else
    let s := s.apzValid 0 kill
    if s.get F.APZ_CFG_ROLE = 0 then s else f s

/-- APZ_MARK: a MARK opens a sender Turn, a good one's successor where its count follows on; an aligned follower compares its boundary with it (R369, R371). -/
def execApzMark (t16 data : Nat) (kill : Bool) (s : State) : Host.Outcome State Fault Refusal :=
  let s := s.at (t16 / 16)
  let s' := s.apzFrame0 kill (fun s =>
    let good := if s.apz.complete && data == (s.apz.markCount + 1) % 32 then s.apz.goodTurns else 0
    let s := s.setApz { s.apz.fresh with markAt := some t16, markCount := data, goodTurns := good }
    if s.get F.APZ_CFG_ROLE = 2 ∧ s.get F.APZ_STATUS_ALIGN = 2 then
      let diff := boundaryDiff t16 (s.get F.APZ_DELAY_D_UP)
      let s := s.puti F.APZ_STATUS_ERR diff
      s.setApz { s.apz with offTurns := if 32 < diff.natAbs then s.apz.offTurns + 1 else 0 }
    else s)
  okIf (t16 < 49152 && data < 32) s'

/-- APZ_COUNT_FRAME: frame `k` carries five bits of the count of the next Turn. -/
def execApzCountFrame (fc k data : Nat) (kill : Bool) (s : State) : Host.Outcome State Fault Refusal :=
  let s := s.at fc
  let s' := s.apzFrame0 kill (fun s => s.apzPiece (fun a =>
    let b := a.countBits - a.countBits / 2 ^ (5 * (k - 1)) % 32 * 2 ^ (5 * (k - 1))
    { a with countBits := b + data * 2 ^ (5 * (k - 1)), countMask := setBit a.countMask (k - 1) true }))
  okIf (1 ≤ k && k ≤ 10 && data < 32) s'

/-- APZ_EPOCH_FRAME: frame `k` carries five bits of the epoch of the next Turn. -/
def execApzEpochFrame (fc k data : Nat) (kill : Bool) (s : State) : Host.Outcome State Fault Refusal :=
  let s := s.at fc
  let s' := s.apzFrame0 kill (fun s => s.apzPiece (fun a =>
    let b := a.epochBits - a.epochBits / 2 ^ (5 * (k - 11)) % 32 * 2 ^ (5 * (k - 11))
    { a with epochBits := b + data * 2 ^ (5 * (k - 11)), epochMask := setBit a.epochMask (k - 11) true }))
  okIf (11 ≤ k && k ≤ 14 && data < 32) s'

/-- APZ_HOP_FRAME: the sender's hop index in bits [3:0], ALIGNED in bit 4. -/
def execApzHopFrame (fc data : Nat) (kill : Bool) (s : State) : Host.Outcome State Fault Refusal :=
  let s := s.at fc
  let s' := s.apzFrame0 kill (fun s =>
    let s := if bit data 4 then s.setApz { s.apz with acqTurns := 0 } else s.setApz { s.apz with goodTurns := 0 }
    s.apzPiece (fun a => { a with hop := some data }))
  okIf (data < 32) s'

/-- APZ_DELAY_FRAME: frame `k` carries five bits of the one-way delay, low bits first. -/
def execApzDelayFrame (fc k data : Nat) (kill : Bool) (s : State) : Host.Outcome State Fault Refusal :=
  let s := s.at fc
  let s' := s.apzFrame0 kill (fun s =>
    let s := s.apzPiece (fun a =>
      let b := a.delayBits - a.delayBits / 2 ^ (5 * (k - 16)) % 32 * 2 ^ (5 * (k - 16))
      { a with delayBits := b + data * 2 ^ (5 * (k - 16)), delayMask := setBit a.delayMask (k - 16) true })
    if s.apz.delayMask = 7 then s.put F.APZ_DELAY_D_UP s.apz.delayBits else s)
  okIf (16 ≤ k && k ≤ 18 && data < 32) s'

/-- APZ_ECHO: the ECHO of the module's MARK reaches APZ_IN1; the one-way delay is half of what the round trip exceeds 64 fc by,
averaged over up to 16 Turns (R368). -/
def execApzEcho (t16 : Nat) (kill : Bool) (s : State) : Host.Outcome State Fault Refusal :=
  let s := s.at (t16 / 16)
  let s' := if !s.apzTakes 1 then s
    else
      let s := s.apzValid 1 kill
      if s.get F.APZ_CFG_ROLE = 0 then s
      else
        let l := (t16 :: s.apz.trips).take 16
        let sum : Int := (l.foldl (· + ·) 0 : Nat)
        let d := openDiv (sum - 1024 * l.length) (2 * l.length) (Config.roundUp s.free)
        ((s.setApz { s.apz with trips := l }).put F.APZ_DELAY_D_DOWN (clampInt 0 32767 d).toNat).tick
  okIf (t16 < 49152) s'

/-- APZ_IDLE_FRAME: an IDLE frame on an input, with its KILL bit. -/
def execApzIdleFrame (fc i : Nat) (kill : Bool) (s : State) : Host.Outcome State Fault Refusal :=
  let s := s.at fc
  okIf (i < 2) (if s.apzTakes i then s.apzValid i kill else s)

/-- APZ_INVALID_FRAME: counted and ignored (R366). -/
def execApzInvalidFrame (fc i : Nat) (s : State) : Host.Outcome State Fault Refusal :=
  let s := s.at fc
  okIf (i < 2) (if !s.apzTakes i then s
    else
      let a := { s.apz with valid := sparseInsert s.apz.valid i 0, invalid := sparseInsert s.apz.invalid i (sparseGet 0 s.apz.invalid i + 1) }
      (s.setApz a).bump F.APZ_COUNT_CRC_ERRORS 1)

/-! ### Inputs, holdover and conflicts (R370, R371, R373) -/

/-- An aligned follower enters HOLDOVER; where the module is not in RELAY it returns to ACQUIRING at once (R371). -/
def State.holdover (s : State) : State :=
  let s := (s.raise 44).emit 0xF3 3 2 (leBytes (s.get F.APZ_STATUS_ERR) 2)
  let s := s.setApz { s.apz.fresh with goodTurns := 0, offTurns := 0, acqTurns := 0 }
  (s.put F.APZ_STATUS_ALIGN (if s.inRelay then 3 else 1)).syncApz

/-- APZ_LINK is signalled for an input with a cause of event 0x00F1. -/
def State.apzLinkDown (s : State) (i cause : Nat) : State := (s.raise 44).emit 0xF1 3 2 (leBytes i 1 ++ leBytes cause 1)

/-- APZ_INPUT_DOWN: an enabled input is lost, for no valid frame in 64 fc (cause 0) or 3 invalid ones in a Turn (cause 1). -/
def execApzInputDown (fc i cause : Nat) (s : State) : Host.Outcome State Fault Refusal :=
  let s := s.at fc
  let s' := if !s.apzTakes i || !s.flag (apzUp i) || (if cause = 1 then sparseGet 0 s.apz.invalid i < 3 else s.now < sparseGet 0 s.apz.heard i + 64) then s
    else
      let s := ((s.putB (apzUp i) false).bump F.APZ_COUNT_LOSSES 1).apzLinkDown i cause
      let s := s.setApz { s.apz with valid := sparseInsert s.apz.valid i 0 }
      let s := if i = 0 then
          let s := s.setApz { s.apz.fresh with goodTurns := 0, acqTurns := 0, noLeader := false, conflictTurns := 0 }
          if s.get F.APZ_CFG_ROLE = 2 ∧ s.get F.APZ_STATUS_ALIGN = 2 then s.holdover else s
        else s
      (s.syncKill i).syncApz
  okIf (i < 2 && cause < 2) s'

/-- APZ_INPUT_UP: 192 consecutive valid frames. -/
def execApzInputUp (fc i : Nat) (s : State) : Host.Outcome State Fault Refusal :=
  let s := s.at fc
  let s' := if !s.apzTakes i || s.flag (apzUp i) || sparseGet 0 s.apz.valid i < 192 then s
    else ((s.putB (apzUp i) true).syncKill i).syncApz
  okIf (i < 2) s'

/-- NO_LEADER: a follower has been ACQUIRING for 4,096 Turns with APZ_IN0 up and no aligned sender (R370). -/
def execNoLeader (fc : Nat) (s : State) : Host.Outcome State Fault Refusal :=
  let s := s.at fc
  let due := s.get F.APZ_CFG_ROLE == 2 && s.get F.APZ_STATUS_ALIGN == 1 && decide (4096 ≤ s.apz.acqTurns) && s.flag F.APZ_STATUS_IN0_UP &&
    !s.apz.noLeader
  .next (if due then ((s.apzLinkDown 0 4).setApz { s.apz with noLeader := true }).syncApz else s)

/-- The spindle at a boundary: the count goes on, the epoch with its wrap (R30). -/
def State.spindle (s : State) : State :=
  { s with turn := s.turn + 1, epoch := if s.turn + 1 = 0 then s.epoch + 1 else s.epoch }

/-- Every duration counted in Turns goes on as before when the count steps by `d` (R364: only stamps cannot be compared across a
step); stamps that registers and records show, and Turns the host named, stay (DEDUCED, log entry 21). -/
def State.rebase (s : State) (d : TurnNo) : State :=
  let n (t : Nat) : Nat := (BitVec.ofNat 48 t + d).toNat
  let m (l : List (Nat × Nat)) : List (Nat × Nat) := l.map (fun e => (e.1, n e.2))
  let o (t : Option TurnNo) : Option TurnNo := t.map (· + d)
  let fab := { s.fab with
    migs := s.fab.migs.map (fun x => { x with fail := x.fail + d }), ecc := m s.fab.ecc, fill := m s.fab.fill,
    gains := s.fab.gains.map (fun g => { g with due := g.due + d }) }
  let gg := { s.gouge with
    migs := s.gouge.migs.map (fun x => { x with fail := x.fail + d }), ecc := m s.gouge.ecc, copyAt := o s.gouge.copyAt,
    snap := s.gouge.snap.map (fun x => (x.1, x.2.1, x.2.2.1, x.2.2.2 + d)) }
  let slots := s.grd.slots.map (fun e =>
    let x := e.2
    (e.1, { x with boEnd := o x.boEnd, boAt := if x.backoff = 0 then x.boAt else x.boAt + d, muteEnd := o x.muteEnd,
                   oscAt := x.oscAt.map (· + d), overranAt := o x.overranAt, cond := o x.cond }))
  let grd := { s.grd with
    slots := slots, dirEnd := s.grd.dirEnd.map (fun e => (e.1, e.2 + d)), allEnd := o s.grd.allEnd,
    dirAt := s.grd.dirAt.map (fun e => (e.1, e.2 + d)), allAt := s.grd.allAt.map (· + d), irqAt := o s.grd.irqAt,
    lossAt := o s.grd.lossAt, emAt := s.grd.emAt.map (fun e => (e.1, e.2 + d)) }
  let cva := { s.cva with
    synth := s.cva.synth.map (fun x => (x.1, { x.2 with lockedAt := x.2.lockedAt + d })),
    cal := s.cva.cal.map (fun c => { c with start := c.start + d }), settle := m s.cva.settle, tracked := m s.cva.tracked }
  let hif := { s.hif with
    coal := s.hif.coal.map (fun e => (e.1, o e.2)),
    captures := s.hif.captures.map (fun c => { c with armed := c.armed + d, trig := c.trig.map (fun t => (t.1 + d, t.2)) }) }
  let flt := { s.flt with winStart := m s.flt.winStart, resets := s.flt.resets.map (· + d) }
  let sec := { s.sec with
    challenge := s.sec.challenge.map (fun c => { c with turn := c.turn + d }),
    session := s.sec.session.map (fun x => (x.1, x.2.1 + d, x.2.2)) }
  let ctl := { s.ctl with lvls := s.ctl.lvls.map (fun e => (e.1, { e.2 with startAt := e.2.startAt + d })) }
  let plan := { s.plan with swap := s.plan.swap.map (fun w =>
    { w with accepted := w.accepted + d, ended := w.ended.map (fun e => (e.1 + d, e.2)) }) }
  { s with fab := fab, gouge := gg, grd := grd, cva := cva, hif := hif, flt := flt, sec := sec, ctl := ctl, plan := plan,
           log := { s.log with thawTurn := o s.log.thawTurn }, staged := s.staged.map (fun e => { e with due := e.due + d }) }

/-- A follower with 4 good Turns takes the sender's count and epoch at this boundary (R369). A sender that is the sixteenth of its chain
ends acquisition: ALIGN is OFF until ROLE is written anew (DEDUCED, log entry 68). -/
def State.acquireApz (s : State) : State :=
  let ready := s.get F.APZ_CFG_ROLE == 2 && s.get F.APZ_STATUS_ALIGN == 1 && decide (4 ≤ s.apz.goodTurns) && s.apz.complete &&
    (s.pstate == 1 || s.pstate == 2 || s.pstate == 4)
  if !ready then s
  else
    let h := (s.apz.hop.getD 0) % 16
    let count : TurnNo := BitVec.ofNat 48 s.apz.countBits
    let ep : BitVec 16 := BitVec.ofNat 16 s.apz.epochBits
    let s := s.setApz { s.apz.fresh with goodTurns := 0, offTurns := 0, acqTurns := 0, noLeader := false }
    if h = 15 then ((s.put F.APZ_STATUS_ALIGN 0).apzLinkDown 0 2).syncApz
    else
      let old := s.turn
      let step := count ≠ s.turn ∨ ep ≠ s.epoch
      let s := { s.rebase (count - old) with turn := count, epoch := ep }
      let s := (s.put F.APZ_STATUS_ALIGN 2).put F.APZ_STATUS_HOP (h + 1)
      let s := s.emit 0xF0 2 2 (leBytes (h + 1) 1 ++ leBytes 2 1)
      let s := if step then
          (s.bump F.APZ_COUNT_STEPS 1).emit 0xF2 2 2 (leBytes old.toNat 6 ++ leBytes count.toNat 6 ++ leBytes ep.toNat 2)
        else s
      let s := match s.plan.swap with
        | some w => if w.mode = 1 then s.refuseSwap w (0x13, 0, 0) else s
        | none => s
      s.syncApz

/-- The link at a boundary: a follower that no longer agrees with its sender, a LEADER that hears another, and the counts of
Turns. -/
def State.apzBoundary (s : State) : State :=
  let role := s.get F.APZ_CFG_ROLE
  let a := s.apz
  let differs := a.complete && (BitVec.ofNat 48 a.countBits != s.turn || BitVec.ofNat 16 a.epochBits != s.epoch)
  let s := s.setApz { s.apz with invalid := eachOf 2 0 }
  if role = 2 ∧ s.get F.APZ_STATUS_ALIGN = 2 then
    if 16 ≤ a.offTurns ∨ differs then s.holdover else s.setApz s.apz.fresh
  else if role = 2 ∧ s.get F.APZ_STATUS_ALIGN = 1 then
    if s.flag F.APZ_STATUS_IN0_UP then s.setApz { s.apz with acqTurns := min 4096 (a.acqTurns + 1) } else s
  else if role = 1 then
    let heard := a.markAt.isSome && (match a.hop with | some h => bit h 4 | none => false)
    let n := if heard then min 4 (a.conflictTurns + 1) else 0
    let s := s.setApz { s.apz.fresh with conflictTurns := n }
    if n = 4 ∧ !a.conflict then ((s.setApz { s.apz with conflict := true }).apzLinkDown 0 3).syncApz
    else if n = 0 ∧ a.conflict then (s.setApz { s.apz with conflict := false }).syncApz
    else s
  else s

/-- A write of APZ_CFG has changed the link's configuration: a new ROLE aligns or acquires afresh, a disabled input is neither up nor
holds a kill (R369, R372, R373). -/
def State.apzConfigured (s : State) (oldRole : Nat) : State :=
  let s := s.each [0, 1] (fun s i =>
    if s.flag (apzEn i) then s
    else (s.setApz { s.apz with valid := sparseInsert s.apz.valid i 0, killed := sparseInsert s.apz.killed i false }).putB (apzUp i) false)
  let s := if s.get F.APZ_CFG_ROLE = oldRole then s
    else (s.setApz { s.apz.fresh with goodTurns := 0, offTurns := 0, acqTurns := 0, conflictTurns := 0, conflict := false,
                                      noLeader := false }).apzRole
  s.syncKills.syncApz

/-! ### Frames the module sends (R366, R367, R372) -/

/-- CRC-4 over the nine bits [12:4] of a frame, in sending order. -/
def crc4 (v : Nat) : Nat :=
  (List.range 9).foldl (fun c i =>
    let x := c * 2 + v / 2 ^ (8 - i) % 2
    if 16 ≤ x then (x - 16) ^^^ 3 else x) 0
/-- The remainder of the nine bits shifted up by four. -/
def crc4of (v : Nat) : Nat := crc4Shift 4 (crc4 v)
where
  crc4Shift : Nat → Nat → Nat
    | 0, c => c
    | n + 1, c => crc4Shift n (let x := c * 2; if 16 ≤ x then (x - 16) ^^^ 3 else x)

def apzWord (kill : Bool) (type data : Nat) : Nat :=
  let v := b2n kill * 256 + type * 32 + data
  6 * 8192 + v * 16 + crc4of v

/-- The KILL bit of a frame on output `o` (0 downstream, 1 upstream): the pin's kill on both, an input's away from its origin; each is
sent in 4 frames at least (R372). -/
def State.sendsKill (s : State) (o : Nat) : Bool :=
  let recent (i : Nat) : Bool := match sparseGet none s.apz.onset i with | some t => s.now < t + 64 | none => false
  s.flag F.APZ_CFG_PROPAGATE && (s.pwr.killPin || recent 0 || s.flag (apzKillIn o) || recent (1 + o))

/-- Frame `k` of the Turn on APZ_OUT0, none while the outputs are at the idle line level (R367, R370). -/
def State.frameOut (s : State) (k : Nat) : Option Nat :=
  if !s.flag F.APZ_CFG_OUT_EN then none
  else
    let kill := s.sendsKill 0
    let next := s.turn + 1
    let ep := if next = 0 then s.epoch + 1 else s.epoch
    if s.get F.APZ_CFG_ROLE = 0 then some (apzWord kill 0 0)
    else if k = 0 then some (apzWord kill 1 (s.turn.toNat % 32))
    else if k ≤ 10 then some (apzWord kill 2 (next.toNat / 2 ^ (5 * (k - 1)) % 32))
    else if k ≤ 14 then some (apzWord kill 3 (ep.toNat / 2 ^ (5 * (k - 11)) % 32))
    else if k = 15 then some (apzWord kill 4 (s.get F.APZ_STATUS_HOP + 16 * b2n (s.get F.APZ_STATUS_ALIGN == 2)))
    else if k ≤ 18 then some (apzWord kill 5 (s.get F.APZ_DELAY_D_DOWN / 2 ^ (5 * (k - 16)) % 32))
    else some (apzWord kill 0 0)

end Sys2Proof.Machine
end

