-- ==== Sys2Proof/Machine/Resets.lean ====
section
/-! DEFINITION. Resets of the whole module and what they keep (R304, R357, R374 to R376), the start-up sequence (R312, R329, R349,
R360), rails (R358), and fault injection (R309, R310). -/
namespace Sys2Proof.Machine

/-! ### POR and RESET_N (R357, R360, R364, R375) -/

/-- The OTP a reset leaves: a row whose commit it interrupts has no marker and counts as consumed (R331, R376). -/
def Sec.otpAfter (c : Sec) : Otp := if c.committing then { c.otp with rows := c.otp.rows ++ [⟨false, 0, 0, []⟩] } else c.otp
/-- Rows torn and not yet recorded: the next self-test records them. -/
def Sec.tornAfter (c : Sec) : List Nat := if c.committing then c.torn ++ [c.otp.rows.length] else c.torn

/-- The module held in reset: everything but the OTP is at its reset value. The pins, the reference clock and what has left on the
link are outside; the model's own counters go on. -/
def State.inReset (s : State) (p : Pwr) : State :=
  let r := State.reset
  let p := { r.pwr with off := true, starting := false, por := p.por, resetLow := p.resetLow, killPin := p.killPin, clkLost := p.clkLost }
  { r with variant := s.variant, regs := [], gau := eachOf 4 gauNone,
           sec := { r.sec with otp := s.sec.otpAfter, torn := s.sec.tornAfter, nonces := s.sec.nonces },
           pwr := p, hif := { r.hif with perst := s.hif.perst }, linkOut := s.linkOut, free := s.free, pending := s.pending }

/-- POR is asserted: nothing is written, and BOOT_CAUSE becomes POWER_LOSS (R357). -/
def State.porNow (s : State) : State := s.inReset { s.pwr with por := true }

/-- POR_ASSERT. -/
def execPorAssert (fc : Nat) (s : State) : Host.Outcome State Fault Refusal := .next ((s.at fc).porNow)

/-- RESET_N_ASSERT: the descriptors in flight are ended first, then the module resets (R225, R375); `unit` holds the bytes of the
data-transfer unit in progress. BOOT_CAUSE is RESET_PIN unless POR is asserted already. -/
def execResetNAssert (fc : Nat) (unit : List Byte) (s : State) : Host.Outcome State Fault Refusal :=
  let s := s.at fc
  if s.pwr.resetLow then .next s
  else if s.pwr.off then .next (s.setPwr { s.pwr with resetLow := true })
  else
    let s := s.endDescriptors unit false
    .next ((s.inReset { s.pwr with resetLow := true }).put F.PWR_STATE_BOOT_CAUSE 2)

/-- Neither POR nor RESET_N holds the module any more: the start-up sequence begins with the straps (R188, R360); the Gauge
calibrates alongside it. -/
def State.released (s : State) (straps : Nat) : State :=
  if !s.pwr.off || s.pwr.por || s.pwr.resetLow then s
  else
    let s := (s.setPwr { s.pwr with off := false, starting := true, straps := straps }).put F.PLAN_BOOT_STRAPS straps
    (((s.gauCalAll).killLive).live 43 s.pwr.clkLost).live 31 true

/-- POR_RELEASE: VIN and VAON are good; the level of the straps is sampled. -/
def execPorRelease (fc straps : Nat) (s : State) : Host.Outcome State Fault Refusal :=
  let s := (s.at fc).setPwr { s.pwr with por := false }
  okIf (straps < 8) (s.released straps)
/-- RESET_N_RELEASE. -/
def execResetNRelease (fc straps : Nat) (s : State) : Host.Outcome State Fault Refusal :=
  let s := (s.at fc).setPwr { s.pwr with resetLow := false }
  okIf (straps < 8) (s.released straps)

/-- PWR_RAIL (R54, R358): VAON below its limit is POR. -/
def execPwrRail (fc rail : Nat) (unit : List Byte) (s : State) : Host.Outcome State Fault Refusal :=
  let s := s.at fc
  okIf (rail < 5) (if rail = 4 then s.porNow else s.awake (s.railFalls rail unit))

/-! ### Start-up (R329, R349, R360) -/

/-- The BOOT record (R360, R377). -/
def State.boot (s : State) : State :=
  s.emit 0xE1 2 15 (leBytes (s.get F.PWR_STATE_BOOT_CAUSE) 1 ++ leBytes s.pwr.straps 1 ++ leBytes (s.get F.FLT_RESET_LAST_SOURCE) 1)

/-- The authentication of the sealed calibration set has ended (R349): `set` is what it authenticated. Which reason of Table 14.6 a failure
has the spec does not state, but for SELF_TEST after a failed self-test (R329). -/
def State.sealedEnd (s : State) (passed : Bool) (set : Option Factors) : State :=
  match set, passed with
  | some f, true => ((s.setCva { s.cva with sealedSet := some f }).put F.SEC_STATUS_SEALED_CAL 1).verdict 3 0
  | _, _ =>
    let r := if passed then Config.openByte s.free % 16 else 15
    ((((s.tick).put F.SEC_STATUS_SEALED_CAL 2).authFail 3 r).emit 0xCA 5 14 []).verdict 3 r

/-- SELF_TEST_END: the self-test passes, or fails in test `failed` of event 0x00C9; `sealedSet` is the calibration set its last step
authenticated, none where it is absent or false. The log's first record is a TURN_MARK, and the module enters STANDBY. -/
def execSelfTestEnd (fc : Nat) (failed : Option Nat) (sealedSet : Option Factors) (s : State) : Host.Outcome State Fault Refusal :=
  let s := s.at fc
  let fin (s : State) : State :=
    let s := s.writeRec s.turnMark false false 0
    let s := s.setPwr { s.pwr with starting := false }
    let s := match failed with
      | none => s.put F.SEC_STATUS_SELF_TEST 1
      | some t => (s.put F.SEC_STATUS_SELF_TEST 2).emit 0xC9 6 14 (leBytes t 1)
    let s := s.sealedEnd failed.isNone sealedSet
    let torn := s.sec.torn
    let s := (s.setSec { s.sec with torn := [] }).each torn (fun s i => s.emit 0xBA 3 0 (leBytes i 1))
    (s.setState 1 0xFF 0).boot
  okIf (match failed with | some t => decide (t < 5) | none => true) (if s.pwr.starting then fin s else s)

/-! ### Chip reset (R303, R304, R374) -/

/-- Registers a chip reset keeps: the Chuck's, the recorder's, the collector's but its injection, the Gauge's factors, the timebase,
the Apzer configuration, the supplies, what a Host Interface reset keeps, and the named ones. -/
def keptOnChip (v : Variant) (k : Nat) : Bool :=
  let o := k / 32
  let b := blockOf o
  (b == 12 && o != 0x90034 && o != 0x90038) || b == 13 || b == 14 || b == 9 || (b == 1 && !hifCleared k) ||
  (0x2000 ≤ o && o < 0x2040) || (b == 2 && 0x3000 ≤ o) || o == 0xC0000 || o == 0xC0004 || o == 0xC000C ||
  ([F.CVA_STATUS_CAL_STATE, F.CVA_CAL_LAST_LAST_KIND, F.CVA_CAL_LAST_LAST_OUTCOME, F.CVA_CAL_LAST_ABORT_CAUSE,
    F.CVA_CAL_TURN_LO_COMMIT_TURN, F.CVA_CAL_TURN_HI_COMMIT_TURN, F.CVA_ADC_FAIL_ADC_FAIL, F.CVA_DAC_FAIL_DAC_FAIL,
    F.PLAN_BOOT_STRAPS, F.PWM_TRIP_STATUS_LIVE, F.GRD_STATUS_LATCHED, F.GRD_LATCH_CAUSE, F.GRD_LATCH_TURN_LO_LATCH_TURN,
    F.GRD_LATCH_TURN_HI_LATCH_TURN] ++ (List.range 4).map F.GRD_LATCH_SLOTS_SLOTS ++
   (List.range 5).map F.FAB_TILE_RETIRED_RETIRED ++ (List.range 5).map F.GOUGE_LANE_RETIRED_RETIRED).any (fun f => f.key == k) ||
  (adcsOf v).any (fun n => [F.CVA_ADC_CAL_IMG_DBC n, F.CVA_ADC_CAL_AAF_CODE n, F.CVA_ADC_CAL_DCO_RESID n, F.CVA_ADC_STATUS_FAIL_KIND n].any
    (fun f => f.key == k)) ||
  (slotsOf v).any (fun sl => (F.CHZ_SLOT_STATUS_MIGRATED sl).key == k || (F.GOUGE_SLOT_STATUS_MIGRATED sl).key == k)

/-- Every block outside the always-on domain at its reset state; what a chip reset keeps stays. -/
def State.chipCleared (s : State) : State :=
  let r := State.reset
  let rail := s.railBlocks
  let ops := s.sec.ops.filter (fun o => match o with | .token _ none (some _) => false | _ => true)
  { s with
    regs := s.regs.filter (fun e => keptOnChip s.variant e.1), latches := [], active := emptyPlan, shadow := emptyPlan, plan := r.plan,
    flash := r.flash, staged := [], overran := 0, worked := [],
    flt := { s.flt with raised := s.flt.raised.filter srcAlwaysOn, held := rail, holdNext := [], chipReset := none, safeDue := false },
    sec := { s.sec with ops := ops, levelCap := [], withdrawn := [] },
    pwr := { s.pwr with req := none, next := none, leaving := false, killClear := 0, recover := none, before := 0, safeDue := 0 },
    cva := { r.cva with store := s.cva.store, ilCal := s.cva.ilCal, sealedSet := s.cva.sealedSet },
    fab := { r.fab with tiles := s.fab.tiles, migs := s.fab.migs, noSpare := s.fab.noSpare },
    gouge := { r.gouge with lanes := s.gouge.lanes, migs := s.gouge.migs, noSpare := s.gouge.noSpare },
    grd := r.grd, ctl := ctlNone, seq := seqNone,
    pwm := { pwmNone with outs := eachOf 16 { outNone with since := s.now },
                          frozenAt := if s.pwr.clkLost then some s.now else none } }

/-- CHIP_RESET: the descriptors in flight end, the module resets outside the always-on domain and restarts from STANDBY. -/
def execChipReset (fc : Nat) (unit : List Byte) (s : State) : Host.Outcome State Fault Refusal :=
  let s := s.at fc
  match s.flt.chipReset with
  | none => .next s
  | some src =>
    let old := s.pstate
    let s := ((s.endDescriptors unit false).endOperations).thaw
    let s := (s.endSession 4).calAbort 0
    let s := ((s.synthOff 0).synthOff 1).gauHold
    let s := s.resetHif
    let s := (s.setHif { s.hif with held := [] }).chipCleared
    let s := s.setFlt { s.flt with resets := (s.turn :: s.flt.resets).take 3 }
    let s := ((s.put F.FLT_RESET_LAST_SOURCE src).putB F.FLT_RESET_CHIP_SEEN true).put F.PWR_STATE_BOOT_CAUSE 3
    -- live states as the sources report them now
    let s := s.each ((List.range 47).filter (fun i => !srcAlwaysOn i)) (fun s i => s.live i false)
    let s := s.live 3 (s.flag F.CVA_ADC_FAIL_ADC_FAIL || s.flag F.CVA_DAC_FAIL_DAC_FAIL)
    let s := (((s.live 6 (!s.fab.migs.isEmpty)).live 10 (!s.gouge.migs.isEmpty)).syncSpares).killLive
    let s := s.live 31 (!s.linkUp)
    let s := if s.blockHeld .gauge then s else s.gauCalAll
    let s := s.apzHold
    let s := s.put F.PWR_STATE_SAFE_CAUSE 0
    let s := if old = 1 ∨ old = 0 then s
      else ((s.put F.PWR_STATE_PREV old).put F.PWR_STATE_STATE 1).emit 0xE0 1 15 (leBytes old 1 ++ leBytes 1 1 ++ leBytes 0xFF 1)
    .next ((s.boot).muteDacs.settlePins.seqRecheck)

/-! ### Fault injection (R309, R310, Table 12.5) -/

/-- INDEX names a tile, slot or ring that is present and enabled. -/
def State.injectIndexOk (s : State) (checker index : Nat) : Bool :=
  match checker with
  | 1 => index < nTileOf s.variant && !s.tileRetired index && (match s.slotOfTile index with | some sl => s.slotOn sl | none => false)
  | 2 => slotIn s.variant index && s.slotOn index
  | 5 => index < 8 && s.flag (F.HIF_SQ_CFG_EN index)
  | _ => true

/-- FLT_INJECT_ARM: a write of FLT_INJECT with ARM. A refused ARM counts and changes nothing. -/
def execFltInjectArm (fc checker : Nat) (twoBits : Bool) (index : Nat) (s : State) : Host.Outcome State Fault Refusal :=
  let s := s.at fc
  let ok := s.armState && !s.flag F.FLT_INJECT_ARMED && decide (checker < 6) && s.injectIndexOk checker index
  let s' := if !ok then s.bump F.FLT_INJ_COUNT_REFUSED 1
    else
      let s := (s.put F.FLT_INJECT_CHECKER checker).putB F.FLT_INJECT_BITS twoBits
      (s.put F.FLT_INJECT_INDEX index).putB F.FLT_INJECT_ARMED true
  okIf (checker < 8 && index < 256) s'

/-- The state a command leaves, or the one before it where it has none. -/
def nextOr (s : State) (o : Host.Outcome State Fault Refusal) : State := match o with | .next t => t | _ => s

/-- INJECTED_ERROR: the armed checker's next write gets its inverted check bits, and the error is handled as a natural one; `p` says
which log bank is written, and which port's lane's buffer the fabric writes. The descriptor-fetch parity of checker 5 acts at the next
fetch from its ring (`execDescriptorFetch`). -/
def execInjectedError (fc : Nat) (p : WritePlace) (s : State) : Host.Outcome State Fault Refusal :=
  let s := s.at fc
  let i := s.get F.FLT_INJECT_INDEX
  let two := s.flag F.FLT_INJECT_BITS
  let after (s : State) : State := (s.putB F.FLT_INJECT_ARMED false).bump F.FLT_INJ_COUNT_INJECTED 1
  let s' := if !s.flag F.FLT_INJECT_ARMED then s
    else match s.get F.FLT_INJECT_CHECKER with
      | 0 => nextOr s (execFabEcc fc (.lane p.port) (!two) (after s))
      | 1 => match s.slotOfTile i with
        | none => s
        | some sl =>
          let t := nextOr s (execChzCoefParity fc sl (after s))
          if two && t.fab.coef.any (fun e => e.1 == sl) then t.setFab { t.fab with coef := sparseInsert t.fab.coef sl 2 } else t
      | 2 => if s.hasLane i then nextOr s (execGougeTapEcc fc 0 ⟨i, 0⟩ (!two) (after s)) else s
      | 3 => (after s).planError 0 0 (!two)
      | 4 => nextOr s (execLogMem fc p.bank 2 (!two) (after s))
      | _ => s
  okIf (p.bank < 32 && p.port < nFportOf s.variant) (s.awake s')

end Sys2Proof.Machine
end

