-- ==== Sys2Proof/Machine/Views.lean ====
section
/-! DEFINITION. What a register read returns (R8, R10, R12): the stored fields, the copies in force, and the fields that are
computed from the rest of the state, each by the meaning its table gives it. -/
namespace Sys2Proof.Machine

/-- A number of things as its field shows it. -/
def countOf {α : Type} (l : List α) : Nat := l.length

/-- Chip resets the collector caused within the last 8,388,608 Turns (Table 12.10). -/
def State.resetsShown (s : State) : Nat := min 3 s.recentResets.length

/-- Sum of N over the enabled slots of a Plan (Table 4.9). -/
def Plan.tapsUsed (p : Plan) (v : Variant) : Nat := (p.slots v).foldl (fun a sl => a + 32 * p.get (F.GOUGE_SLOT_ALLOC_TAPS sl)) 0
/-- Sum of N × 2^RATE in tap units over the enabled slots of a Plan (R86, Table 4.9). -/
def Plan.unitsUsed (p : Plan) (v : Variant) : Nat :=
  (p.slots v).foldl (fun a sl => a + 32 * p.get (F.GOUGE_SLOT_ALLOC_TAPS sl) * 2 ^ p.get (F.CHZ_SLOT_CFG_RATE sl)) 0

/-- The token at SEC_TOKEN_SEL.INDEX. -/
def State.selToken (s : State) : Option Token := s.sec.tokens.find? (fun t => t.index == s.get F.SEC_TOKEN_SEL_INDEX)
def State.ofToken (s : State) (f : Token → Nat) : Nat := match s.selToken with | some t => f t | none => 0

/-- Session time left in units of 65,536 Turns, a unit begun counting whole (Table 14.18; DEDUCED, log entry 20). -/
def State.unitsLeft (s : State) : Nat := match s.sec.session with
  | none => 0
  | some (_, t, n) => n - turnsSince s.turn t / 65536
def State.grants (s : State) : Nat := match s.sec.session with | some (g, _, _) => g | none => 0

/-- Turns left of the hold of the step in force (Table 5.22). -/
def State.holdLeft (s : State) (sl : Nat) : Nat :=
  let left (t : Option TurnNo) : Nat := match t with
    | some t => if laterThan t s.turn then min 65535 (turnsSince t s.turn) else 0
    | none => 0
  match s.guardStep sl with
  | 4 => left s.grd.allEnd
  | 3 => left ((s.grd.dirEnd.find? (fun e => e.1 == slotIsUl sl)).map (·.2))
  | 2 => left (s.gd sl).muteEnd
  | 1 => left (s.gd sl).boEnd
  | _ => 0

/-- FLT_LIVE, with the sources of a block held in reset not live (R295, R296). -/
def State.liveWord (s : State) (hi : Bool) : Nat :=
  (List.range 32).foldl (fun a i =>
    let src := if hi then 32 + i else i
    if src < 47 && s.isLive src && !s.srcHeld src then a + 2 ^ i else a) 0

def State.oldestSeq (s : State) : Nat := match s.log.recs with | [] => 0 | r :: _ => r.seq

/-- Fields of single registers that are computed, with the values they show. -/
def State.views (s : State) : List (Field × Nat) :=
  let o := s.sec.otp
  [(F.ID_PART_PART, partOf s.variant),
   (F.HIF_STATUS_IN_FLIGHT, s.hif.inflight.length), (F.HIF_STATUS_HELD, s.hif.held.length),
   (F.HIF_STATUS_FETCH_STOPPED, b2n s.fetchStopped), (F.HIF_HWT_CMD_USED, countOf (s.hif.hwt.filter (fun e => e.2.v))),
   (F.TB_TURN_LO_TURN, s.turn.toNat % 2 ^ 32), (F.TB_TURN_HI_TURN, s.turn.toNat / 2 ^ 32), (F.TB_TURN_HI_EPOCH, s.epoch.toNat),
   (F.TB_NOW_FC, s.fc),
   (F.CVA_STATUS_TRACK_ACTIVE, b2n (s.flag F.CVA_CAL_CTRL_TRACK_EN && (adcsOf s.variant).any s.adcInService)),
   (F.FAB_STATUS_SPARES_FREE, s.freeTiles.length), (F.FAB_STATUS_SPARE_EXH, b2n (s.isLive 46)),
   (F.FAB_STATUS_TILES_RETIRED, countOf ((List.range (nTileOf s.variant)).filter s.tileRetired)),
   (F.FAB_CAP_STATUS_ENGINE_BUSY, s.hif.captures.foldl (fun a c => a ||| 2 ^ c.engine) 0),
   (F.FAB_CAP_STATUS_FULL_RATE, b2n (s.hif.captures.any Capture.full)),
   (F.GOUGE_STATUS_LANES_FREE, s.freeLanes.length), (F.GOUGE_STATUS_SNAP_BUSY, b2n s.snapBusy),
   (F.GOUGE_STATUS_LANES_RETIRED, countOf ((List.range (nTileOf s.variant)).filter s.laneRetired)),
   (F.GOUGE_TAPS_USED_TAPS, s.active.tapsUsed s.variant), (F.GOUGE_UNITS_USED_UNITS, s.active.unitsUsed s.variant),
   (F.GOUGE_TAPS_SHADOW_TAPS, s.shadow.tapsUsed s.variant), (F.GOUGE_UNITS_SHADOW_UNITS, s.shadow.unitsUsed s.variant),
   (F.GRD_STATUS_SAFE_BY_GUARD, b2n (s.pstate == 4 && (s.get F.PWR_STATE_SAFE_CAUSE ||| s.heldCauses) &&& 6 != 0)),
   (F.GRD_STATUS_SLOTS_MUTED, countOf (s.slotsOn.filter s.guardMuted)),
   (F.GRD_STATUS_SLOTS_BACKED_OFF, countOf (s.slotsOn.filter (fun sl => (s.gd sl).backoff != 0))),
   (F.CTL_STATUS_HALT_OK, b2n s.haltOk), (F.CTL_STATUS_LVL_LOOPS, countOf ((slotsOf s.variant).filter s.lvlOn)),
   (F.FLT_RESET_RECENT, s.resetsShown), (F.FLT_LIVE_LO_LIVE, s.liveWord false), (F.FLT_LIVE_HI_LIVE, s.liveWord true),
   (F.LOG_STATUS_RECORDS, s.log.recs.length), (F.LOG_STATUS_QUEUED, s.log.queue.length),
   (F.LOG_STATUS_BANKS_OK, s.banksOk.length), (F.LOG_STATUS_FULL, b2n (!s.logHasRoom)),
   (F.LOG_STATUS_WITNESS_ONLY, b2n s.banksOk.isEmpty), (F.LOG_OLDEST_SEQ_OLDEST_SEQ, s.oldestSeq),
   (F.SEC_STATUS_LIFECYCLE, s.lifecycle), (F.SEC_STATUS_SESSION, b2n s.sec.session.isSome),
   (F.SEC_STATUS_COUNTER_EXHAUSTED, b2n (o.counter == 1024)), (F.SEC_STATUS_BUSY, b2n (!s.sec.ops.isEmpty)),
   (F.SEC_SERIAL_SERIAL 0, o.serial % 2 ^ 32), (F.SEC_SERIAL_SERIAL 1, o.serial / 2 ^ 32),
   (F.SEC_COUNTER_C, o.counter), (F.SEC_COUNTER_ROWS_USED, o.rows.length),
   (F.SEC_COUNTER_KEYS_USED, countOf ((List.range 8).filter (fun k => o.keyState k != 0))),
   (F.SEC_KEY_STATE_SLOT0, o.keyState 0), (F.SEC_KEY_STATE_SLOT1, o.keyState 1), (F.SEC_KEY_STATE_SLOT2, o.keyState 2),
   (F.SEC_KEY_STATE_SLOT3, o.keyState 3), (F.SEC_KEY_STATE_SLOT4, o.keyState 4), (F.SEC_KEY_STATE_SLOT5, o.keyState 5),
   (F.SEC_KEY_STATE_SLOT6, o.keyState 6), (F.SEC_KEY_STATE_SLOT7, o.keyState 7), (F.SEC_KEY_STATE_SERVICE, o.keyState 8),
   (F.SEC_TOKENS_HELD, s.sec.tokens.length),
   (F.SEC_TOKEN_DIG_DIGEST 0, s.ofToken (fun t => leAt t.digest 0 4)), (F.SEC_TOKEN_DIG_DIGEST 1, s.ofToken (fun t => leAt t.digest 4 4)),
   (F.SEC_TOKEN_META_VALID, b2n s.selToken.isSome), (F.SEC_TOKEN_META_DL, s.ofToken (fun t => b2n t.dl)),
   (F.SEC_TOKEN_META_UL, s.ofToken (fun t => b2n t.ul)), (F.SEC_TOKEN_META_KEY_SLOT, s.ofToken (·.keySlot)),
   (F.SEC_TOKEN_META_VERSION, s.ofToken (·.version)), (F.SEC_TOKEN_OP_OPERATOR, s.ofToken (·.operator)),
   (F.SEC_TOKEN_TURN_LO_ACCEPT_TURN, s.ofToken (fun t => t.acceptTurn.toNat % 2 ^ 32)),
   (F.SEC_TOKEN_TURN_HI_ACCEPT_TURN, s.ofToken (fun t => t.acceptTurn.toNat / 2 ^ 32)),
   (F.SEC_PROV_CTRL_BUSY, b2n s.provBusy), (F.SEC_DEBUG_GRANTS, s.grants), (F.SEC_DEBUG_UNITS_LEFT, s.unitsLeft),
   (F.PWR_STATE_SAFE_CAUSE, s.get F.PWR_STATE_SAFE_CAUSE ||| (s.heldCauses ||| bitIf 7 s.plan.lost))]

/-- Computed fields of register arrays: the row's first offset, the index, and the field's lowest bit. -/
def State.viewAt (s : State) (base i lo : Nat) : Option Nat :=
  if base = (F.HIF_SQ_STATUS_IN_FLIGHT 0).off ∧ lo = 16 then some (s.sqInFlight i)
  else if base = (F.HIF_SQ_STATUS_WAIT_CQ 0).off ∧ lo = 19 then some (b2n (s.cqWaiting (s.cqOf i) != 0))
  else if base = (F.HIF_CQ_STATUS_WAITING 0).off ∧ lo = 17 then some (s.cqWaiting i)
  else if base = (F.PLAN_ID_GEN_VALUE 0).off then
    some ([s.active.planId, s.active.gen, s.shadow.planId, s.shadow.gen].getD i 0)
  else if base = (F.CVA_ADC_STATUS_IN_SERVICE 0).off ∧ lo = 0 then some (b2n (s.adcInService i))
  else if base = (F.CVA_ADC_STATUS_STORM 0).off ∧ lo = 2 then some (b2n (s.getBit F.CVA_OVR_STORM_LIVE_STORM i))
  else if base = (F.CVA_ADC_STATUS_CAL_FAILED 0).off ∧ lo = 3 then some (b2n (s.getBit F.CVA_ADC_FAIL_ADC_FAIL i))
  else if base = (F.CHZ_SLOT_STATUS_TILE 0).off ∧ lo = 0 then some (s.tileOf i)
  else if base = (F.GOUGE_SLOT_STATUS_PHASE 0).off ∧ lo = 0 then some (s.shownPhase i)
  else if base = (F.GOUGE_SLOT_STATUS_LANE 0).off ∧ lo = 16 then some (s.laneOf i)
  else if base = (F.GOUGE_SLOT_ALLOC_TAPS 0).off + 4 ∧ lo = 8 then if s.hasLane i then some (s.gg i).delay else none
  else if base = (F.GRD_SLOT_STATUS_HOLD_LEFT 0).off ∧ lo = 16 then some (s.holdLeft i)
  else none

/-- A computed field, if this is one. -/
def State.view (s : State) (r : RegRow) (off i lo : Nat) : Option Nat :=
  match s.views.find? (fun e => e.1.off == off && e.1.lo == lo) with
  | some e => some e.2
  | none => s.viewAt r.base i lo

/-- The route of a port whose role fixes it (Table 3.2): its source, none for zero words. A tile takes its slot's source, a combiner
its own lane, a capture port the point of its engine as the last boundary gave it (R60). For the tile of a slot that is not enabled the spec
names no source; the model shows zero words (DESIGN CHOICE, log entry 58). -/
def State.fixedRoute (s : State) (p : Nat) : Option Nat :=
  let v := s.variant
  let tile0 := nAdcOf v
  let comb0 := tile0 + nTileOf v
  let cap0 := comb0 + nDacOf v
  if tile0 ≤ p ∧ p < comb0 then
    match s.slotOfTile (p - tile0) with
    | some sl => if s.slotOn sl then some (s.srcAdc sl) else none
    | none => none
  else if comb0 ≤ p ∧ p < cap0 then some p
  else if cap0 ≤ p ∧ p < cap0 + nCapOf v then
    match s.fab.capRoute.find? (fun e => e.1 == p - cap0) with
    | some e => e.2
    | none => none
  else none
/-- SRC and ZERO of such a port, and their copies in force (Table 3.15). -/
def State.shownRoute (s : State) (p lo : Nat) : Nat :=
  match s.fixedRoute p with
  | some a => if lo % 16 = 0 then a else 0
  | none => if lo % 16 = 0 then 0 else 1

/-- What a field shows (Table 0.3): an RC field what it held before the events of this fc (R11), a write-only field reads 0, a staged field the
Shadow Plan, its _ACT copy the Active Plan. -/
def State.readField (s : State) (r : RegRow) (off i : Nat) (f : FieldRow) : Nat :=
  let stored (m : FMap) (g : Field) : Nat := getF m g
  let v := match f.acc with
    | .wo => 0
    | .rws => stored s.shadow.flds (fieldAt f off)
    | .rc => s.beforeFresh (fieldAt f off)
    | .act back lo => (s.viewAt r.base i f.lo).getD (stored s.active.flds ⟨off - back, lo, f.width, f.reset⟩)
    | _ => (s.view r off i f.lo).getD (stored s.regs (fieldAt f off))
  let v := if routeFixed s.variant off then s.shownRoute i f.lo else v
  (v % 2 ^ f.width) * 2 ^ f.lo

/-- The word at an offset, as a read sees it and before its side effects: 0 where no register is, or where its index names an
absent resource (R2, R8). -/
def State.readWord (s : State) (off : Nat) : Nat :=
  match findReg off with
  | none => 0
  | some (r, i) => if namesIn s.variant r.names i then r.fields.foldl (fun a f => a + s.readField r off i f) 0 else 0

/-! ### Side effects of reads (R11, R12) -/

/-- Low words of the values wider than 32 bits (R12, R296): the upper word lies 4 bytes above. -/
def wideLows : List Nat :=
  [F.HIF_DB_ADDR_LO_ADDR.off, F.HIF_XLATE_LO_VA.off, F.HIF_HWT_PA_LO_PA.off, F.TB_TURN_LO_TURN.off, F.PLAN_SWAP_TURN_LO_SWAP_TURN.off,
   F.CVA_CAL_TURN_LO_COMMIT_TURN.off, F.GRD_LATCH_TURN_LO_LATCH_TURN.off, F.FLT_STATUS_LO_STATUS.off, F.FLT_LIVE_LO_LIVE.off,
   F.FLT_SEVERE_LO_SEVERE.off, F.FLT_PIN_LO_PIN.off, F.FLT_IRQ_LO_IRQ.off, (F.SEC_SERIAL_SERIAL 0).off, (F.SEC_TOKEN_DIG_DIGEST 0).off,
   F.SEC_TOKEN_TURN_LO_ACCEPT_TURN.off]
/-- Rows whose registers are such low words. -/
def wideRows : List Nat :=
  [(F.HIF_SQ_BASE_LO_BASE 0).off, (F.HIF_CQ_BASE_LO_BASE 0).off, (F.FLT_SRC_FIRST_LO_TURN 0).off, (F.FLT_SRC_LAST_LO_TURN 0).off]
/-- `off` is the low word of a wide value. -/
def isWideLow (off : Nat) : Bool :=
  wideLows.contains off || (match findReg off with | some (r, _) => wideRows.contains r.base | none => false)

/-- A read clears an RC field. -/
def State.clearRc (s : State) (f : FieldRow) (g : Field) : State :=
  let n := s.freshCount g
  let s := { s with fresh := s.fresh.filter (fun e => e.1 != g.key) }
  s.put g (satAdd (2 ^ g.width - 1) f.reset n)

/-- RC fields return to their reset values (R10), and count from there the events of the very fc (R11). -/
def State.clearOnRead (s : State) (off : Nat) : State :=
  match findReg off with
  | none => s
  | some (r, i) =>
    if namesIn s.variant r.names i then
      s.each (r.fields.filter (fun f => f.acc == .rc)) (fun s f => s.clearRc f (fieldAt f off))
    else s

/-- The upper word is latched afresh. -/
def State.latchUpper (s : State) (off : Nat) : State :=
  { s with latches := sparseErase s.latches (off + 4) ++ [(off + 4, s.readWord (off + 4))] }

/-- A read of one register: its word, and the state after its side effects. -/
def State.readReg (s : State) (off : Nat) : Nat × State :=
  if isWideLow off then (s.readWord off, (s.latchUpper off).clearOnRead off)
  else match s.latches.find? (fun e => e.1 == off) with
    | some e => (e.2, { s with latches := sparseErase s.latches off })
    | none => (s.readWord off, s.clearOnRead off)

/-- Words of `n` registers from `off`, in ascending order, with the side effects of reading them (R208). -/
def State.readRegs (s : State) (off : Nat) : Nat → List Byte × State
  | 0 => ([], s)
  | n + 1 =>
    let (v, s) := s.readReg off
    let (l, s) := s.readRegs (off + 4) n
    (leBytes v 4 ++ l, s)

end Sys2Proof.Machine
end

