-- ==== Sys2Proof/Machine/Registers.lean ====
section
/-! DEFINITION. Register accesses that have no row of their own: host writes of RW and W1C fields, and reads with their side
effects (R8 to R12). -/
namespace Sys2Proof.Machine

/-- Registers whose writes are commands of their own. -/
def ownRow (off : Nat) : Bool :=
  [F.HIF_CTRL_PAUSE.off, F.HIF_TRAP_PENDING.off, F.CTL_DEBUG_HALT.off, F.LOG_RD_SEQ_SEQ.off, F.FLT_STATUS_LO_STATUS.off,
   F.FLT_STATUS_HI_STATUS.off].contains off ||
  (match findReg off with
   | some (r, _) => [(F.HIF_SQ_CFG_EN 0).off, (F.HIF_CQ_CFG_EN 0).off, (F.GOUGE_SLOT_CTRL_FREEZE 0).off].contains r.base
   | none => false)

/-- Values a field does not take: the write leaves it unchanged (R257, R359, R369). -/
def refusedValue (off lo v : Nat) : Bool :=
  if off = F.PWR_TEMP_TEMP_WARN.off ∧ lo = 0 then v < 60 || 130 < v
  else if off = F.PWM_PERIOD_STG_PERIOD_STG.off then v < 64 || 3840 < v
  else if off = F.APZ_CFG_ROLE.off ∧ lo = 0 then v == 3
  else false

/-- A write of one field (Table 0.3): W1C clears the bits written 1, but those set in the same fc (R11); RWL follows the lifecycle lock; other codes
take nothing. -/
def State.writeField (s : State) (off v : Nat) (f : FieldRow) : State :=
  let g := fieldAt f off
  let x := bits v f.lo f.width
  match f.acc with
  | .rw => if refusedValue off f.lo x then s else s.put g x
  | .rwl => if s.rwlLocked then s else s.put g x
  | .w1c =>
    let hit := s.get g &&& x
    s.put g ((s.get g - hit) ||| (hit &&& s.freshBits g))
  | _ => s

/-- The base registers of a ring whose EN is 1, which take no write (R195). -/
def State.baseKept (s : State) (r : RegRow) (i : Nat) : Bool :=
  (r.base == (F.HIF_SQ_BASE_LO_BASE 0).off || r.base == (F.HIF_SQ_BASE_HI_BASE 0).off) && s.flag (F.HIF_SQ_CFG_EN i) ||
  (r.base == (F.HIF_CQ_BASE_LO_BASE 0).off || r.base == (F.HIF_CQ_BASE_HI_BASE 0).off) && s.flag (F.HIF_CQ_CFG_EN i)

/-- Staging registers of a pair that a supply loop owns (R258). -/
def State.ownedPair (s : State) (r : RegRow) (i : Nat) : Bool :=
  (r.base == (F.PWM_PAIR_CMP_STG_CMPA 0).off || r.base == (F.PWM_PAIR_EDGE_STG_DT_A 0).off) && s.owned i

/-- What follows a write: a rate bucket is full again (R318); a vector unmasked with its pending bit set sends its message (R228, log
entry 8); the Apzer link takes its configuration (R369). -/
def State.afterWrite (s : State) (r : RegRow) (i off oldRole : Nat) : State :=
  if r.base = (F.LOG_RATE_CAP 0).off then s.setLog { s.log with spent := sparseErase s.log.spent i }
  else if r.base = (F.HIF_MSIX_CTRL_MASK 0).off then
    if s.linkUp && !s.flag (F.HIF_MSIX_CTRL_MASK i) && s.getBit (F.HIF_MSIX_PBA_PENDING (i / 32)) (i % 32) then
      (s.putBit (F.HIF_MSIX_PBA_PENDING (i / 32)) (i % 32) false).link (.msix i)
    else s
  else if off = F.APZ_CFG_ROLE.off then s.apzConfigured oldRole
  else s

/-- A host write of a register's RW, RWL and W1C fields; what a carrier zero of this very fc loads has been sampled before it (R255). -/
def State.writeReg (s : State) (off v : Nat) : State :=
  match findReg off with
  | none => s
  | some (r, i) =>
    if !namesIn s.variant r.names i || ownRow off || s.baseKept r i then s
    else if s.ownedPair r i then s.bump (F.PWM_PAIR_COUNT_OWNED_DROPS i) 1
    else
      let oldRole := s.get F.APZ_CFG_ROLE
      let s := if blockOf off = 10 then s.pwmSample s.active else s
      (s.each r.fields (fun s f => s.writeField off v f)).afterWrite r i off oldRole

/-- REGISTER_WRITE, of `len` bytes: only an aligned 32-bit write is taken. A write to an offset without a register, to an absent
resource, or while the module is OFF is discarded (R2, R8). Offsets from `bar2` on are those of BAR2: a write at the first rings the
doorbell, the others take nothing (R193). -/
def execRegisterWrite (fc off len v : Nat) (s : State) : Host.Outcome State Fault Refusal :=
  let s := s.at fc
  .next (if s.pwr.off then s
    else if off = bar2 then s.askDoorbells
    else if off % 4 != 0 || len != 4 then s else s.writeReg off v)

/-- A host read of `len` bytes: the addressed register is the one that holds the first byte; it has the side effects of a full
read, and bytes beyond its end read 0 (R8). -/
def State.hostRead (s : State) (off len : Nat) : State :=
  let (v, s) := s.readReg (off / 4 * 4)
  s.link (.read off (v / 2 ^ (8 * (off % 4)) % 2 ^ (8 * len)))

/-- WIDE_LOW_READ: a read of the low word of a value wider than 32 bits latches its upper word (R12). -/
def execWideLowRead (fc off len : Nat) (s : State) : Host.Outcome State Fault Refusal :=
  okIf (isWideLow (off / 4 * 4)) ((s.at fc).hostRead off len)

/-- WIDE_UPPER_READ: a read of an upper word consumes its latched value, where it has one (R12). -/
def execWideUpperRead (fc off len : Nat) (s : State) : Host.Outcome State Fault Refusal :=
  okIf (4 ≤ off && isWideLow (off / 4 * 4 - 4)) ((s.at fc).hostRead off len)

/-- CLEAR_ON_READ: a read of any other register, which clears its RC fields (R10, R11). -/
def execClearOnRead (fc off len : Nat) (s : State) : Host.Outcome State Fault Refusal :=
  .next ((s.at fc).hostRead off len)

end Sys2Proof.Machine
end

