-- ==== Sys2Proof/Machine/Turn.lean ====
section
/-! DEFINITION. The Turn: its boundary (R18, R21, R22), the commit window (R21) and overruns (R23). -/
namespace Sys2Proof.Machine

/-! ### Descriptor effects due at a boundary (R205, R208, R209) -/

/-- Take the effects due at this boundary out of the staged ones. -/
def State.dueEffects (s : State) : List Staged := s.staged.filter (fun e => e.due == s.turn)
def State.dropDue (s : State) : State := { s with staged := s.staged.filter (fun e => e.due != s.turn) }

/-- Set-points: the loop takes its new target (R284). -/
def State.setpointEffect (s : State) (e : Staged) : State :=
  match e.eff with
  | .setpoint n t => (s.takeSetpoint n t).doneBoundary e.desc 0
  | _ => s

/-- The recorder's requests, from LOG_CTRL and from descriptors, which complete here (R320 to R322). -/
def State.logEffects (s : State) (due : List Staged) : State :=
  let l := s.log
  let has (f : Effect) : Bool := due.any (fun e => e.eff == f)
  let s := s.setLog { l with clearReq := false, freezeReq := false, thawReq := false }
  let s := s.logBoundary (if has .logClear then some 1 else if l.clearReq then some 0 else none) (l.thawReq || has .logThaw)
    (l.freezeReq || has .logFreeze)
  s.each (due.filter (fun e => e.eff == .logClear || e.eff == .logThaw || e.eff == .logFreeze)) (fun s e => s.doneBoundary e.desc 0)

/-- A CAL_RUN starts (R46), unless the module has left its states, its block is in reset, or another calibration began first. -/
def State.calEffect (s : State) (e : Staged) : State :=
  match e.eff with
  | .calRun code adc dac synth =>
    if s.blockHeld .converters then s.completeAt e.desc 4 0 0 0 0 s.turn 0
    else if !s.running then s.completeAt e.desc 3 0x0B 0 0 0 s.turn 0
    else if s.cva.cal.isSome then s.completeAt e.desc 3 0x08 0 0 0 s.turn 0
    else s.calStart code adc dac synth (some e.desc)
  | _ => s

/-- Registers and Gauge entries are read, and their words become a transfer (R208, R209). -/
def State.readEffect (s : State) (e : Staged) : State :=
  match s.findDesc e.desc with
  | none => s
  | some d =>
    match e.eff with
    | .counterRead first count va =>
      let (b, s) := s.readRegs first count
      s.addXfer d (.bytes b) va b.length
    | .gaugeRead entries va =>
      let (b, s) := s.gaugeRecords ((List.range 64).filter (fun k => bit entries k))
      s.addXfer d (.bytes b) va b.length
    | _ => s

/-! ### The boundary (R18, Table 1.5) -/

/-- The Turn ends: its words and samples are complete, and what they count falls in fc 0 of the next (R24, R39, R72, R78). -/
def State.endTurn (s : State) (st : Stream) : State :=
  ((({ s with fc := 0, fresh := [] }).captureTurn st).runPaths st).ovrBoundary st

/-- The count goes on, and the Apzer link with it (R30, R364, R369 to R371). -/
def State.countTurn (s : State) : State :=
  let s := ({ s with ticks := s.ticks + 1, overran := 0, worked := [] }).spindle
  let s := (s.putB F.CLK_STATUS_REF_OK true).putB F.CLK_STATUS_FAB_LOCK true
  s.newTurnPaths.acquireApz.apzBoundary

/-- The snapshots: what the Turn just ended has measured (R17, R61, R62, R70, R71, R74). -/
def State.snapshots (s : State) (m : TurnMeas) : State :=
  let s := (s.fabricMeas m.fill).levelsBoundary
  let s := ((s.coefBoundary m.readBack).mergeBoundary).slipBoundary
  (s.captureBoundary.lvlBoundary).pwmBoundary

/-- Gains, limits, masks and programs staged for this boundary take effect; those staged under an outgoing Plan do not (R22). -/
def State.stagedResults (s : State) (m : TurnMeas) (perm : List Nat) : State :=
  let s := s.guardBoundary
  let s := if s.swapCommits then (s.each (slotsOf s.variant) (fun s sl => s.setGg sl { s.gg sl with reprobe := none })).dropSwitches
    else s.applyGains
  let s := s.seqBoundary perm m.mm
  (if s.blockHeld .gouge then s else s.gougeBoundary).lateRestarts

/-- The Plan, calibrations, power states and resets at the boundary. What they make of the groups' readiness acts at once (R143, R152,
R153), and the new Turn's words follow from where they leave the converters. -/
def State.boundaryStates (s : State) (m : TurnMeas) : State :=
  let commits := s.swapCommits
  let s := s.planBoundary
  let s := if commits then s.seqMutes else s
  let due := s.dueEffects
  let s := s.dropDue
  let s := (s.each due State.setpointEffect).logEffects due
  let s := (((s.calStepTo m.calStep).oscRetries m.oscEnd).realign m.realigned).calCommit
  let s := (s.safeTurns.powerBoundary).flashBoundary
  let s := (s.each due State.calEffect).seqRecheck
  let s := s.haltBoundary.blockBoundary m.unit
  let s := (s.boundaryDacs).boundaryMutes.convTurn
  s.each due State.readEffect

/-- Completions and transfers that wait for a boundary, and the doorbell read of fc 0 (R197, R340, Table 8.8). -/
def State.boundaryLink (s : State) : State :=
  let w := s.sec.withdrawn
  let s := s.setSec { s.sec with withdrawn := [] }
  let s := s.each w (fun s k => s.doneBoundary k 0)
  (s.setHif { s.hif with xfers := s.hif.xfers.map (fun x => { x with waits := false }) }).choose.askDoorbells

/-- Every effect of a boundary. -/
def State.boundary (s : State) (m : TurnMeas) : State :=
  let perm := allGroups.filter s.allowed
  ((((s.endTurn m.stream).countTurn.snapshots m).stagedResults m perm).boundaryStates m).boundaryLink

/-- Indices in a Turn's measurements name parts the variant has. -/
def measOk (v : Variant) (m : TurnMeas) : Bool :=
  m.stream.adcs.all (fun e => e.1 < nAdcOf v) && m.stream.tiles.all (fun e => slotIn v e.1) &&
  m.stream.slots.all (fun r => slotIn v r.slot) && m.mm.all (fun r => r.channel < nObsOf v) && m.readBack.all (slotIn v)

/-- TURN_BOUNDARY: none comes while the module is OFF or the reference is lost (R362, R364). -/
def execTurnBoundary (m : TurnMeas) (s : State) : Host.Outcome State Fault Refusal :=
  okIf (measOk s.variant m) (if s.pwr.off || s.pwr.clkLost then s else s.boundary m)

/-! ### The commit window (R21) -/

/-- COMMIT_WINDOW, at fc 2,816: the swap decision, then the gains with their limits. Masks, pin programs and descriptor effects that
are staged here wait with their due times. -/
def execCommitWindow (s : State) : Host.Outcome State Fault Refusal :=
  let s := s.at 2816
  .next (if s.pwr.off || s.pwr.clkLost then s else s.onceATurn 0 (fun s => s.swapVerdict.stageGains))

/-! ### Overruns (R23) -/

/-- The slots a work class works on. -/
def State.classSlots (s : State) (cls : Nat) : List Nat :=
  if cls = 0 then (if !s.running || s.railDown 0 || s.blockHeld .fabric then [] else s.slotsOn)
  else if cls = 1 then (if !s.running || s.blockHeld .gouge then [] else s.slotsOn.filter (fun sl => s.hasLane sl && !s.laneMoving sl))
  else if s.ctlRuns then (slotsOf s.variant).filter s.lvlOn else []

/-- A Gouge step has overrun for a slot: taps, estimate and checkpoint age are not advanced (R94). -/
def State.gougeOverrun (s : State) (sl : Nat) : State :=
  let x := s.gg sl
  s.setGg sl { x with staged := none, validTurns := if x.frozen then x.validTurns else x.validTurns - 1 }

/-- An overrun of a class is flagged and signalled once in a Turn. -/
def State.flagOverrun (s : State) (cls : Nat) : State :=
  if bit s.overran cls then s
  else
    let was := s.overran
    let s := { s with overran := setBit was cls true }
    let s := if was = 0 then s.bump F.TB_OVERRUN_OVR_COUNT 1 else s
    if cls = 0 then (if was % 4 = 0 then (s.putB F.TB_OVERRUN_GRD_OVR true).raise 21 else s.putB F.TB_OVERRUN_GRD_OVR true)
    else if cls = 1 then (if was % 4 = 0 then (s.putB F.TB_OVERRUN_GOUGE_OVR true).raise 21 else s.putB F.TB_OVERRUN_GOUGE_OVR true)
    else
      let s := (s.putB F.TB_OVERRUN_CTL_OVR true).putB F.CTL_FLAGS_LVL_OVR true
      (s.bump F.CTL_COUNT_LVL_OVERRUNS 1).raise 22

/-- The last fc of a class (Table 1.5): of the Guard, the Gouge, the level loops. -/
def classEnd (cls : Nat) : Nat := [767, 2047, 2815].getD cls 0

/-- TURN_OVERRUN: the deadline of a class passes, 0 the Guard, 1 the Gouge, 2 the level loops; slots whose work has not completed by then have
overrun. Before the last fc of the class nothing has. -/
def execTurnOverrun (fc cls : Nat) (s : State) : Host.Outcome State Fault Refusal :=
  let s := s.at fc
  let l := (s.classSlots cls).filter (fun sl => !s.worked.contains (cls, sl))
  let s' := if s.fc < classEnd cls || l.isEmpty then s
    else (s.each l (fun s sl => if cls = 0 then s.guardOverrun sl else if cls = 1 then s.gougeOverrun sl else s.lvlOverrun sl)).flagOverrun cls
  okIf (cls < 3) s'

end Sys2Proof.Machine
end

