-- ==== Sys2Proof/Machine/Dispatch.lean ====
section
/-! DEFINITION. What each command does: one arm per constructor, one direct call of its meaning. -/
namespace Sys2Proof.Machine

def exec (i : Instr) (s : State) : Host.Outcome State Fault Refusal :=
  match i with
  | .turnBoundary m => Sys2Proof.Machine.execTurnBoundary m s
  | .guardEvaluation fc l em => Sys2Proof.Machine.execGuardEvaluation fc l em s
  | .guardMuteEffect => Sys2Proof.Machine.execGuardMuteEffect s
  | .gougeAdaptationStep fc l => Sys2Proof.Machine.execGougeAdaptationStep fc l s
  | .levelLoopRun fc l => Sys2Proof.Machine.execLevelLoopRun fc l s
  | .commitWindow => Sys2Proof.Machine.execCommitWindow s
  | .turnOverrun fc cls => Sys2Proof.Machine.execTurnOverrun fc cls s
  | .doorbell fc => Sys2Proof.Machine.execDoorbell fc s
  | .doorbellRead fc area => Sys2Proof.Machine.execDoorbellRead fc area s
  | .descriptorFetch fc bytes parityOk => Sys2Proof.Machine.execDescriptorFetch fc bytes parityOk s
  | .coalesceTimeout fc cq => Sys2Proof.Machine.execCoalesceTimeout fc cq s
  | .nop fc sq idx => Sys2Proof.Machine.execNop fc sq idx s
  | .fence fc sq idx => Sys2Proof.Machine.execFence fc sq idx s
  | .planLoad fc sq idx => Sys2Proof.Machine.execPlanLoad fc sq idx s
  | .planSwapNext fc sq idx => Sys2Proof.Machine.execPlanSwapNext fc sq idx s
  | .planSwapAtTurn fc sq idx => Sys2Proof.Machine.execPlanSwapAtTurn fc sq idx s
  | .planSwapCheck fc sq idx => Sys2Proof.Machine.execPlanSwapCheck fc sq idx s
  | .slotGain fc sq idx => Sys2Proof.Machine.execSlotGain fc sq idx s
  | .capture fc sq idx => Sys2Proof.Machine.execCapture fc sq idx s
  | .gougeSnapshot fc sq idx => Sys2Proof.Machine.execGougeSnapshot fc sq idx s
  | .gaugeRead fc sq idx => Sys2Proof.Machine.execGaugeRead fc sq idx s
  | .counterRead fc sq idx => Sys2Proof.Machine.execCounterRead fc sq idx s
  | .logRead fc sq idx => Sys2Proof.Machine.execLogRead fc sq idx s
  | .logClear fc d => Sys2Proof.Machine.execLogClear fc d s
  | .logFreeze fc d => Sys2Proof.Machine.execLogFreeze fc d s
  | .logThaw fc d => Sys2Proof.Machine.execLogThaw fc d s
  | .calRun fc sq idx => Sys2Proof.Machine.execCalRun fc sq idx s
  | .supplySetpoint fc sq idx => Sys2Proof.Machine.execSupplySetpoint fc sq idx s
  | .stateRequest fc sq idx => Sys2Proof.Machine.execStateRequest fc sq idx s
  | .tokenSubmit fc sq idx => Sys2Proof.Machine.execTokenSubmit fc sq idx s
  | .getChallenge fc sq idx => Sys2Proof.Machine.execGetChallenge fc sq idx s
  | .respond fc sq idx => Sys2Proof.Machine.execRespond fc sq idx s
  | .endSession fc sq idx => Sys2Proof.Machine.execEndSession fc sq idx s
  | .transferUnit fc host => Sys2Proof.Machine.execTransferUnit fc host s
  | .heldCompletionDelivery fc => Sys2Proof.Machine.execHeldCompletionDelivery fc s
  | .sqCfgWrite fc n v => Sys2Proof.Machine.execSqCfgWrite fc n v s
  | .cqCfgWrite fc n v => Sys2Proof.Machine.execCqCfgWrite fc n v s
  | .pause fc on => Sys2Proof.Machine.execPause fc on s
  | .hifBlockReset fc unit => Sys2Proof.Machine.execHifBlockReset fc unit s
  | .orphanDiscard fc => Sys2Proof.Machine.execOrphanDiscard fc s
  | .trapClear fc => Sys2Proof.Machine.execTrapClear fc s
  | .hwtWrite fc index => Sys2Proof.Machine.execHwtWrite fc index s
  | .hwtRead fc index => Sys2Proof.Machine.execHwtRead fc index s
  | .hwtInvalidate fc index => Sys2Proof.Machine.execHwtInvalidate fc index s
  | .hwtInvalidateDrained fc => Sys2Proof.Machine.execHwtInvalidateDrained fc s
  | .rwsWrite fc off v => Sys2Proof.Machine.execRwsWrite fc off v s
  | .copyActive fc => Sys2Proof.Machine.execCopyActive fc s
  | .clearShadow fc => Sys2Proof.Machine.execClearShadow fc s
  | .flashLoad fc => Sys2Proof.Machine.execFlashLoad fc s
  | .freeze fc sl on => Sys2Proof.Machine.execFreeze fc sl on s
  | .reprobe fc sl zero => Sys2Proof.Machine.execReprobe fc sl zero s
  | .grdLatchClear fc => Sys2Proof.Machine.execGrdLatchClear fc s
  | .hostRffeCommand fc v => Sys2Proof.Machine.execHostRffeCommand fc v s
  | .rffeCommandEnd fc b parity rdata => Sys2Proof.Machine.execRffeCommandEnd fc b parity rdata s
  | .rffeScheduledCommand fc b j => Sys2Proof.Machine.execRffeScheduledCommand fc b j s
  | .retry fc v => Sys2Proof.Machine.execRetry fc v s
  | .selfCal fc n => Sys2Proof.Machine.execSelfCal fc n s
  | .injGo fc n e => Sys2Proof.Machine.execInjGo fc n e s
  | .loadAll fc m => Sys2Proof.Machine.execLoadAll fc m s
  | .tripClear fc m => Sys2Proof.Machine.execTripClear fc m s
  | .halt fc on => Sys2Proof.Machine.execHalt fc on s
  | .step fc => Sys2Proof.Machine.execStep fc s
  | .fltInjectArm fc checker twoBits index => Sys2Proof.Machine.execFltInjectArm fc checker twoBits index s
  | .injectedError fc p => Sys2Proof.Machine.execInjectedError fc p s
  | .fltStatusClear fc hi v => Sys2Proof.Machine.execFltStatusClear fc hi v s
  | .logRdSeq fc v => Sys2Proof.Machine.execLogRdSeq fc v s
  | .provGo fc => Sys2Proof.Machine.execProvGo fc s
  | .tokenRelease fc index => Sys2Proof.Machine.execTokenRelease fc index s
  | .registerWrite fc off len v => Sys2Proof.Machine.execRegisterWrite fc off len v s
  | .wideLowRead fc off len => Sys2Proof.Machine.execWideLowRead fc off len s
  | .clearOnRead fc off len => Sys2Proof.Machine.execClearOnRead fc off len s
  | .porAssert fc => Sys2Proof.Machine.execPorAssert fc s
  | .porRelease fc straps => Sys2Proof.Machine.execPorRelease fc straps s
  | .resetNAssert fc unit => Sys2Proof.Machine.execResetNAssert fc unit s
  | .resetNRelease fc straps => Sys2Proof.Machine.execResetNRelease fc straps s
  | .perstNAssert fc unit => Sys2Proof.Machine.execPerstNAssert fc unit s
  | .perstNRelease fc => Sys2Proof.Machine.execPerstNRelease fc s
  | .killNFall fc => Sys2Proof.Machine.execKillNFall fc s
  | .killNRise fc => Sys2Proof.Machine.execKillNRise fc s
  | .killResume fc => Sys2Proof.Machine.execKillResume fc s
  | .tripActive fc k => Sys2Proof.Machine.execTripActive fc k s
  | .tripInactive fc k => Sys2Proof.Machine.execTripInactive fc k s
  | .syncInEdge fc => Sys2Proof.Machine.execSyncInEdge fc s
  | .refclkLoss fc => Sys2Proof.Machine.execRefclkLoss fc s
  | .refclkReturn fc us => Sys2Proof.Machine.execRefclkReturn fc us s
  | .autonomousRecovery fc => Sys2Proof.Machine.execAutonomousRecovery fc s
  | .pwrVinUv fc vin => Sys2Proof.Machine.execPwrVinUv fc vin s
  | .vinUvRecovery fc => Sys2Proof.Machine.execVinUvRecovery fc s
  | .pwrVinOv fc vin => Sys2Proof.Machine.execPwrVinOv fc vin s
  | .vinOvRecovery fc => Sys2Proof.Machine.execVinOvRecovery fc s
  | .vinShutdown fc vin => Sys2Proof.Machine.execVinShutdown fc vin s
  | .pwrRail fc rail unit => Sys2Proof.Machine.execPwrRail fc rail unit s
  | .railRecovery fc rail => Sys2Proof.Machine.execRailRecovery fc rail s
  | .tempSensorRead fc donor service fabric power => Sys2Proof.Machine.execTempSensorRead fc donor service fabric power s
  | .secTamper fc mesh rail osc => Sys2Proof.Machine.execSecTamper fc mesh rail osc s
  | .hifLinkDown fc => Sys2Proof.Machine.execHifLinkDown fc s
  | .linkUp fc speed width => Sys2Proof.Machine.execLinkUp fc speed width s
  | .jtagInstruction fc k code => Sys2Proof.Machine.execJtagInstruction fc k code s
  | .apzMark t16 data kill => Sys2Proof.Machine.execApzMark t16 data kill s
  | .apzCountFrame fc k data kill => Sys2Proof.Machine.execApzCountFrame fc k data kill s
  | .apzEpochFrame fc k data kill => Sys2Proof.Machine.execApzEpochFrame fc k data kill s
  | .apzHopFrame fc data kill => Sys2Proof.Machine.execApzHopFrame fc data kill s
  | .apzDelayFrame fc k data kill => Sys2Proof.Machine.execApzDelayFrame fc k data kill s
  | .apzEcho t16 kill => Sys2Proof.Machine.execApzEcho t16 kill s
  | .apzIdleFrame fc j kill => Sys2Proof.Machine.execApzIdleFrame fc j kill s
  | .apzInvalidFrame fc j => Sys2Proof.Machine.execApzInvalidFrame fc j s
  | .apzInputDown fc j cause => Sys2Proof.Machine.execApzInputDown fc j cause s
  | .apzInputUp fc j => Sys2Proof.Machine.execApzInputUp fc j s
  | .noLeader fc => Sys2Proof.Machine.execNoLeader fc s
  | .synthLocked fc w => Sys2Proof.Machine.execSynthLocked fc w s
  | .synthLockTimeout fc w => Sys2Proof.Machine.execSynthLockTimeout fc w s
  | .synthLockLoss fc w => Sys2Proof.Machine.execSynthLockLoss fc w s
  | .calEnd fc new fails => Sys2Proof.Machine.execCalEnd fc new fails s
  | .trackUpdate fc adc f => Sys2Proof.Machine.execTrackUpdate fc adc f s
  | .dovetailSlip fc o => Sys2Proof.Machine.execDovetailSlip fc o s
  | .mergeMismatch fc m => Sys2Proof.Machine.execMergeMismatch fc m s
  | .fabEcc fc e single => Sys2Proof.Machine.execFabEcc fc e single s
  | .chzCoefParity fc sl => Sys2Proof.Machine.execChzCoefParity fc sl s
  | .fabTileFail fc tile => Sys2Proof.Machine.execFabTileFail fc tile s
  | .spareMigrationStep fc bad => Sys2Proof.Machine.execSpareMigrationStep fc bad s
  | .fillEnd fc sl => Sys2Proof.Machine.execFillEnd fc sl s
  | .converterEnableSettle fc => Sys2Proof.Machine.execConverterEnableSettle fc s
  | .captureTrigger fc h => Sys2Proof.Machine.execCaptureTrigger fc h s
  | .noTrigger fc engine => Sys2Proof.Machine.execNoTrigger fc engine s
  | .snapshotCopy fc => Sys2Proof.Machine.execSnapshotCopy fc s
  | .delaySearchEnd fc sl lag peak iso => Sys2Proof.Machine.execDelaySearchEnd fc sl lag peak iso s
  | .probePhaseEnd fc sl => Sys2Proof.Machine.execProbePhaseEnd fc sl s
  | .checkpoint fc sl => Sys2Proof.Machine.execCheckpoint fc sl s
  | .gougeTapEcc fc kind at_ single => Sys2Proof.Machine.execGougeTapEcc fc kind at_ single s
  | .laneFail fc lane => Sys2Proof.Machine.execLaneFail fc lane s
  | .laneMigrationStep fc bad => Sys2Proof.Machine.execLaneMigrationStep fc bad s
  | .guardHoldExpiry fc => Sys2Proof.Machine.execGuardHoldExpiry fc s
  | .patternBoundary fc g => Sys2Proof.Machine.execPatternBoundary fc g s
  | .fePinEdge fc p => Sys2Proof.Machine.execFePinEdge fc p s
  | .seqTxTimeout fc g => Sys2Proof.Machine.execSeqTxTimeout fc g s
  | .seqHoldExpired fc g => Sys2Proof.Machine.execSeqHoldExpired fc g s
  | .frameStart fc g => Sys2Proof.Machine.execFrameStart fc g s
  | .syncBurst fc g b levels => Sys2Proof.Machine.execSyncBurst fc g b levels s
  | .mismatchDwell fc m => Sys2Proof.Machine.execMismatchDwell fc m s
  | .tunerSearchStep fc m => Sys2Proof.Machine.execTunerSearchStep fc m s
  | .searchTimeout fc m => Sys2Proof.Machine.execSearchTimeout fc m s
  | .carrierZero fc => Sys2Proof.Machine.execCarrierZero fc s
  | .carrierTop fc => Sys2Proof.Machine.execCarrierTop fc s
  | .compareMatch fc n isB => Sys2Proof.Machine.execCompareMatch fc n isB s
  | .pwmTriggerLine fc l => Sys2Proof.Machine.execPwmTriggerLine fc l s
  | .maskAssert fc m => Sys2Proof.Machine.execMaskAssert fc m s
  | .maskRelease fc m => Sys2Proof.Machine.execMaskRelease fc m s
  | .gaugeTrigger fc n => Sys2Proof.Machine.execGaugeTrigger fc n s
  | .gaugeDelayEnd fc n => Sys2Proof.Machine.execGaugeDelayEnd fc n s
  | .conversionEnd fc n v => Sys2Proof.Machine.execConversionEnd fc n v s
  | .gaugeSelfCalEnd fc n offset gain => Sys2Proof.Machine.execGaugeSelfCalEnd fc n offset gain s
  | .supplyLoopRun fc n => Sys2Proof.Machine.execSupplyLoopRun fc n s
  | .supplyLoopMiss fc n => Sys2Proof.Machine.execSupplyLoopMiss fc n s
  | .faultEvent fc srcs => Sys2Proof.Machine.execFaultEvent fc srcs s
  | .faultWindowClose fc j => Sys2Proof.Machine.execFaultWindowClose fc j s
  | .chipReset fc unit => Sys2Proof.Machine.execChipReset fc unit s
  | .aliveToggle fc => Sys2Proof.Machine.execAliveToggle fc s
  | .eventArrival fc => Sys2Proof.Machine.execEventArrival fc s
  | .turnMark fc => Sys2Proof.Machine.execTurnMark fc s
  | .rateRefill fc => Sys2Proof.Machine.execRateRefill fc s
  | .logMem fc bank kind single => Sys2Proof.Machine.execLogMem fc bank kind single s
  | .parseEnd fc => Sys2Proof.Machine.execParseEnd fc s
  | .swapValidationEnd fc => Sys2Proof.Machine.execSwapValidationEnd fc s
  | .flashStart fc => Sys2Proof.Machine.execFlashStart fc s
  | .selfTestEnd fc failed sealedSet => Sys2Proof.Machine.execSelfTestEnd fc failed sealedSet s
  | .tokenVerdict fc => Sys2Proof.Machine.execTokenVerdict fc s
  | .consentCounterStep fc => Sys2Proof.Machine.execConsentCounterStep fc s
  | .provVerdict fc => Sys2Proof.Machine.execProvVerdict fc s
  | .otpRowCommit fc => Sys2Proof.Machine.execOtpRowCommit fc s
  | .respondVerdict fc => Sys2Proof.Machine.execRespondVerdict fc s
  | .challengeExpiry fc => Sys2Proof.Machine.execChallengeExpiry fc s
  | .sessionExpiry fc => Sys2Proof.Machine.execSessionExpiry fc s
  | .wideUpperRead fc off len => Sys2Proof.Machine.execWideUpperRead fc off len s
  | .planEcc fc kind word single => Sys2Proof.Machine.execPlanEcc fc kind word single s
  | .flashReadEnd fc bytes => Sys2Proof.Machine.execFlashReadEnd fc bytes s
  | .captureRecordingEnd fc engine w l => Sys2Proof.Machine.execCaptureRecordingEnd fc engine w l s
  | .captureShareOverrun fc engine w l => Sys2Proof.Machine.execCaptureShareOverrun fc engine w l s
  | .deadTimeEnd fc o => Sys2Proof.Machine.execDeadTimeEnd fc o s
  | .minIntervalReached fc o => Sys2Proof.Machine.execMinIntervalReached fc o s
  | .tamperEnd fc => Sys2Proof.Machine.execTamperEnd fc s

end Sys2Proof.Machine
end

