-- ==== Sys2Proof/Safety.lean ====
section
/-! DEFINITION. What a safe state is, in the terms the claims use. -/
namespace Sys2Proof.Machine

/-- The image buffer is in its canonical form. -/
def Memory.wf (m : List Host.Cell) : Bool := sparseWf Config.imageUnlisted m

/-- The one-time-programmable memory lies within its bounds (Table 14.2, R331, R342): 16 provisioning rows, 1,024 counter bits. -/
def Otp.bounded (o : Otp) : Bool := decide (o.counter ≤ 1024) && decide (o.rows.length ≤ 16)

/-- `p` is `o` with more of it burned: nothing programmed once is undone (R331, R341). -/
def Otp.grows (o p : Otp) : Prop :=
  p.serial = o.serial ∧ p.rootHash = o.rootHash ∧ o.counter ≤ p.counter ∧ o.rows <+: p.rows

/-- Every DAC of the variant is silent (R42, R134). -/
def State.silent (s : State) : Bool := (dacsOf s.variant).all s.dacMuted

/-- No slot of the variant radiates: each is muted or disabled (R15). -/
def State.slotsMuted (s : State) : Bool := (slotsOf s.variant).all (fun sl => !s.slotOn sl || s.flag (F.CHZ_SLOT_STATUS_MUTED sl))

/-- The OTP is within its bounds, with a row free for a commit under way (R331). -/
def Sec.otpOk (c : Sec) : Bool := c.otp.bounded && (!c.committing || decide (c.otp.rows.length < 16))

/-! ### The vocabulary of the claims -/

/-- Every register field but those listed reads in `t` as in `s`. -/
def State.sameRegsBut (s : State) (l : List Field) (t : State) : Prop := ∀ g : Field, (∀ f ∈ l, g.key ≠ f.key) → t.get g = s.get g

/-- `t` is `s` at `fc`, with the listed fields written and nothing else. -/
def State.wrote (s : State) (fc : Nat) (l : List Field) (t : State) : Prop :=
  s.sameRegsBut l t ∧ t = { s.at fc with regs := t.regs, fresh := t.fresh }

/-- `t` is `s` at `fc` with one more counted in `f`, which saturates at `top`, and nothing else. -/
def State.counted (s : State) (fc : Nat) (f : Field) (top : Nat) (t : State) : Prop :=
  t.get f = satAdd top (s.get f) 1 ∧ s.wrote fc [f] t

/-- Descriptor `d` of opcode `op` is in flight, the one that waits at its ring position, and may start now (R202). -/
abbrev State.offers (s : State) (op : Nat) (d : Desc) : Prop :=
  s.waiting d.sq d.idx = some d ∧ s.findDesc d.key = some d ∧ d.opcode = op ∧ d.started = false ∧ s.startable d = true

/-- The state at `fc` in which descriptor `k` has started, and nothing else has happened. -/
def State.started (s : State) (fc : Nat) (k : DescKey) : State :=
  { s.at fc with
    hif := { s.hif with inflight := s.hif.inflight.map (fun e => if e.key == k then { e with started := true } else e) } }

/-- Completion ring `cq` can take a completion, or the held list can (R199, R223). -/
abbrev State.takesCpl (s : State) (cq : Nat) : Prop := s.cqReady cq = true ∨ s.hif.held.length < 256

/-- The completion `c` has been written into completion ring `cq` as the 32 bytes of Table 8.5, or is held (R213, R223). -/
def State.reports (t : State) (cq : Nat) (c : Cpl) : Prop :=
  (∃ i pa head phase, LinkMsg.cpl cq i pa (cplBytes c head phase) ∈ t.linkOut) ∨ c ∈ t.hif.held

/-- Descriptor `d` is no longer in flight in `t`, and its completion, stamped with the time of `s` and `fc`, has gone out or is held. -/
def State.completed (s : State) (fc : Nat) (d : Desc) (status cause result detail : Nat) (t : State) : Prop :=
  t.findDesc d.key = none ∧
  t.reports d.cq ⟨d.tag, d.idx, d.sq, d.opcode, status, cause, s.turn, fc % 3072, result, detail, 0, bit d.flags 0, d.cq⟩

/-! ### What a run can rely on -/

/-- What holds in every state a run reaches: the OTP lies within its bounds, with a row free for a commit under way (Table 14.2, R331); the
image buffer is in its canonical form; the position lies inside the Turn (R7). -/
def State.Inv (s : State) : Prop := s.sec.otpOk = true ∧ Memory.wf s.plan.image = true ∧ s.fc < 3072

/-- The commands that may exchange or clear the Active Plan and move the Turn count: a boundary, and the resets. -/
def marksTime : Instr → Bool
  | .turnBoundary _ | .porAssert _ | .resetNAssert _ _ | .pwrRail _ _ _ | .chipReset _ _ => true
  | _ => false

/-- The commands that may write the image buffer: a PLAN_LOAD clears or fills it with the units that a transfer, a boundary or a reset of the
Host Interface ends (R178, R222, R226), a flash read fills it (R190), and a reset of the module empties it. -/
def movesImage : Instr → Bool
  | .planLoad _ _ _ | .transferUnit _ _ | .flashReadEnd _ _ | .turnBoundary _ | .hifBlockReset _ _ | .perstNAssert _ _
  | .porAssert _ | .resetNAssert _ _ | .pwrRail _ _ _ | .chipReset _ _ => true
  | _ => false

/-- The descriptor that a fetch from ring `n` brings. -/
def State.fetched (s : State) (n fc : Nat) (bytes : List Byte) : Desc :=
  let b := padTo 64 bytes
  ⟨n, s.get (F.HIF_SQ_STATUS_HEAD n), leAt b 2 2, byteAt b 0, byteAt b 1, b, s.turn, fc % 3072, s.hif.nextOrder, false, s.cqOf n⟩

/-- A transfer that has just become ready: what R219 moves of it, from which address, and how much. -/
def Desc.readyXfer (d : Desc) (kind : XferKind) (va len : Nat) : Xfer := ⟨d.sq, kind, va, len, 0, d.order, false, false, false, []⟩

/-- No LOG_READ waits for records that are no longer held (R209). -/
def State.noSpentLog (s : State) : Prop := ∀ x ∈ s.hif.xfers, ∀ nx last, x.kind = .log nx last → (s.nextUnit x).isSome = true

/-- The entry that the VA and PA registers describe (R216). -/
def State.hwtRegs (s : State) : HwtEntry :=
  ⟨s.get F.HIF_HWT_VA_VA, s.get F.HIF_HWT_PA_LO_PA + 2 ^ 32 * s.get F.HIF_HWT_PA_HI_PA, s.flag F.HIF_HWT_PA_HI_SIZE,
   s.flag F.HIF_HWT_PA_HI_RD, s.flag F.HIF_HWT_PA_HI_WR, s.flag F.HIF_HWT_PA_HI_V⟩

/-- What telling the host writes: TAIL and PHASE of the completion rings, the count of lost completions, the pending bits of masked
vectors (R200, R223, R228). -/
def reportFields : List Field :=
  F.HIF_ORPHAN_LOST :: F.HIF_MSIX_PBA_PENDING 0 :: F.HIF_MSIX_PBA_PENDING 1 ::
  (List.range 8).flatMap (fun n => [F.HIF_CQ_STATUS_TAIL n, F.HIF_CQ_STATUS_PHASE n])

/-- `t` differs from `s` in the listed fields, in events and records under way, and in what telling the host changes: completions
written, held or lost, descriptors out of flight, interrupt messages; and in nothing else. -/
def State.told (s : State) (l : List Field) (t : State) : Prop :=
  s.sameRegsBut (l ++ reportFields) t ∧
  t = { s with regs := t.regs, fresh := t.fresh, linkOut := t.linkOut, evOut := t.evOut, flt := { s.flt with raised := t.flt.raised },
               hif := { s.hif with inflight := t.hif.inflight, held := t.hif.held, coal := t.hif.coal } }

/-- The Turn and fc captured for a source read as `t` and `fc`. -/
def State.capturedAt (s : State) (lo hi fc : Field) (t : TurnNo) (n : Nat) : Prop :=
  s.get lo + 2 ^ 32 * s.get hi = t.toNat ∧ s.get fc = n

/-- The registers a verdict writes. -/
def verdictFields : List Field := [F.SEC_LAST_VERDICT_REASON, F.SEC_LAST_VERDICT_OPERATION, F.SEC_IRQ_VERDICT]

/-- The calibration under way fails for one of its converters: an OSC failure of its die, or a failure of its own (R50). -/
def State.calFails (s : State) (f : CalFails) (c : Cal) : Bool :=
  (adcsOf s.variant).any (fun n => (failKind f c s.variant n).isSome) || (dacsOf s.variant).any (fun n => failsDac f c s.variant n)

/-- The registers of a slot's lane, and the Guard's cap that a lane's start or its TRACK phase ends. -/
def gougeFields (sl : Nat) : List Field :=
  [F.GOUGE_SLOT_STATUS_PHASE sl, F.GOUGE_SLOT_STATUS_VALID sl, F.GOUGE_SLOT_STATUS_SPAN_SHORT sl, F.GOUGE_SLOT_STATUS_PROBE_FAILS sl,
   F.GOUGE_SLOT_STATUS_PROBE_FAILED sl, F.GOUGE_SLOT_REPORT_C_REP sl, F.GOUGE_SLOT_REPORT_ISO sl, F.GOUGE_SLOT_ESTIMATE_C_EST sl,
   F.GOUGE_SLOT_ESTIMATE_C_EDGE sl, F.GOUGE_SLOT_CKPT_CKPT_VALID sl, F.GOUGE_SLOT_CKPT_DIV_COUNT sl, F.GOUGE_SLOT_CKPT_CKPT_C sl,
   F.GRD_SLOT_STATUS_OSC_CAP sl]

/-- `t` is `s` at `fc`, but for the registers of slot `sl`'s lane, its lane's own state, and what is signalled. -/
def State.laneOnly (s : State) (fc sl : Nat) (t : State) : Prop :=
  s.sameRegsBut (gougeFields sl) t ∧ (∀ o, o ≠ sl → t.gg o = s.gg o) ∧
  t = { s with fc := fc % 3072, regs := t.regs, fresh := t.fresh, free := t.free, evOut := t.evOut, worked := t.worked,
               flt := { s.flt with raised := t.flt.raised }, gouge := { s.gouge with slots := t.gouge.slots } }

/-- What a reference that predicts a frame start at `p` does to group `g` (R145, R148): `e` from the frame start it predicts, it shows and moves the
next frame inside SYNC_TOL, where a group in HOLDOVER is LOCKED again; outside it is an outlier. -/
def State.referred (s t : State) (g : Nat) (p : Int) : Prop :=
  let e := nearest (p - (s.sg g).frameAt) (s.period g)
  let tol : Int := s.act (F.SEQ_DG_SYNC_SYNC_TOL g)
  (-tol ≤ e → e ≤ tol → t.geti (F.SEQ_DG_SYNC_ERR_ERR g) = e ∧ t.get (F.SEQ_DG_SYNC_ERR_FRAMES_SINCE g) = 0 ∧
    ((s.sg g).anchor = none → (t.sg g).shift = e) ∧ (s.syncState g = 3 → t.syncState g = 2)) ∧
  (e < -tol ∨ tol < e → t.get (F.SEQ_DG_COUNT_OUTLIERS g) = satAdd 255 (s.get (F.SEQ_DG_COUNT_OUTLIERS g)) 1)

end Sys2Proof.Machine
end

