-- ==== Sys2Proof/WellFormed.lean ====
section
/-! DEFINITION. Well-formed commands: operands name parts the variant has, in the ranges their rows give. -/
namespace Sys2Proof
open Sys2Proof.Machine

/-- The command names parts the variant has. A command that does not is no happening on this hardware: it ends in `Fault.illFormed`. -/
def wellFormed (v : Variant) (c : Instr) : Bool :=
  match c with
  | .turnBoundary m => measOk v m
  | .guardEvaluation _ l em => l.all (slotIn v) && em.all (fun m => m.channel < nEmOf v)
  | .guardMuteEffect => true
  | .gougeAdaptationStep _ l => l.all (slotIn v)
  | .levelLoopRun _ l => l.all (slotIn v)
  | .commitWindow => true
  | .turnOverrun _ cls => cls < 3
  | .doorbell _ => true
  | .doorbellRead _ _ => true
  | .descriptorFetch _ _ _ => true
  | .coalesceTimeout _ cq => cq < 8
  | .nop _ _ _ => true
  | .fence _ _ _ => true
  | .planLoad _ _ _ => true
  | .planSwapNext _ _ _ => true
  | .planSwapAtTurn _ _ _ => true
  | .planSwapCheck _ _ _ => true
  | .slotGain _ _ _ => true
  | .capture _ _ _ => true
  | .gougeSnapshot _ _ _ => true
  | .gaugeRead _ _ _ => true
  | .counterRead _ _ _ => true
  | .logRead _ _ _ => true
  | .logClear _ _ => true
  | .logFreeze _ _ => true
  | .logThaw _ _ => true
  | .calRun _ _ _ => true
  | .supplySetpoint _ _ _ => true
  | .stateRequest _ _ _ => true
  | .tokenSubmit _ _ _ => true
  | .getChallenge _ _ _ => true
  | .respond _ _ _ => true
  | .endSession _ _ _ => true
  | .transferUnit _ _ => true
  | .heldCompletionDelivery _ => true
  | .sqCfgWrite _ n _ => n < 8
  | .cqCfgWrite _ n _ => n < 8
  | .pause _ _ => true
  | .hifBlockReset _ _ => true
  | .orphanDiscard _ => true
  | .trapClear _ => true
  | .hwtWrite _ index => index < 1024
  | .hwtRead _ index => index < 1024
  | .hwtInvalidate _ index => index < 1024
  | .hwtInvalidateDrained _ => true
  | .rwsWrite _ _ _ => true
  | .copyActive _ => true
  | .clearShadow _ => true
  | .flashLoad _ => true
  | .freeze _ sl _ => sl < 128
  | .reprobe _ sl _ => sl < 128
  | .grdLatchClear _ => true
  | .hostRffeCommand _ _ => true
  | .rffeCommandEnd _ b _ rdata => b < 2 && rdata < 256
  | .rffeScheduledCommand _ b i => b < 2 && i < 64
  | .retry _ _ => true
  | .selfCal _ n => n < 4
  | .injGo _ n e => n < 4 && e < 16
  | .loadAll _ _ => true
  | .tripClear _ _ => true
  | .halt _ _ => true
  | .step _ => true
  | .fltInjectArm _ checker _ index => checker < 8 && index < 256
  | .injectedError _ p => p.bank < 32 && p.port < nFportOf v
  | .fltStatusClear _ _ _ => true
  | .logRdSeq _ _ => true
  | .provGo _ => true
  | .tokenRelease _ index => index < 64
  | .registerWrite _ _ _ _ => true
  | .wideLowRead _ off _ => isWideLow (off / 4 * 4)
  | .clearOnRead _ _ _ => true
  | .porAssert _ => true
  | .porRelease _ straps => straps < 8
  | .resetNAssert _ _ => true
  | .resetNRelease _ straps => straps < 8
  | .perstNAssert _ _ => true
  | .perstNRelease _ => true
  | .killNFall _ => true
  | .killNRise _ => true
  | .killResume _ => true
  | .tripActive _ k => k < 4
  | .tripInactive _ k => k < 4
  | .syncInEdge _ => true
  | .refclkLoss _ => true
  | .refclkReturn _ _ => true
  | .autonomousRecovery _ => true
  | .pwrVinUv _ vin => vin < 256
  | .vinUvRecovery _ => true
  | .pwrVinOv _ vin => vin < 256
  | .vinOvRecovery _ => true
  | .vinShutdown _ vin => vin < 256
  | .pwrRail _ rail _ => rail < 5
  | .railRecovery _ rail => rail < 4
  | .tempSensorRead _ donor service fabric power => [donor, service, fabric, power].all (fun t => decide (-512 ≤ t ∧ t < 512))
  | .secTamper _ _ _ _ => true
  | .hifLinkDown _ => true
  | .linkUp _ speed width => 1 ≤ speed && speed ≤ 5 && [1, 2, 4].contains width
  | .jtagInstruction _ _ _ => true
  | .apzMark t16 data _ => t16 < 49152 && data < 32
  | .apzCountFrame _ k data _ => 1 ≤ k && k ≤ 10 && data < 32
  | .apzEpochFrame _ k data _ => 11 ≤ k && k ≤ 14 && data < 32
  | .apzHopFrame _ data _ => data < 32
  | .apzDelayFrame _ k data _ => 16 ≤ k && k ≤ 18 && data < 32
  | .apzEcho t16 _ => t16 < 49152
  | .apzIdleFrame _ i _ => i < 2
  | .apzInvalidFrame _ i => i < 2
  | .apzInputDown _ i cause => i < 2 && cause < 2
  | .apzInputUp _ i => i < 2
  | .noLeader _ => true
  | .synthLocked _ w => w < 2
  | .synthLockTimeout _ w => w < 2
  | .synthLockLoss _ w => w < 2
  | .calEnd _ _ _ => true
  | .trackUpdate _ adc f => adc < nAdcOf v && f.img < 256
  | .dovetailSlip _ o => o.dovetail < 4
  | .mergeMismatch _ m =>
    if m.point < 128 then slotIn v m.point else if m.point < 160 then m.point - 128 < nDacOf v
    else if m.point < 192 then m.point - 160 < nEmOf v else m.point - 192 < nObsOf v
  | .fabEcc _ e _ => fabErrOk v e
  | .chzCoefParity _ sl => slotIn v sl
  | .fabTileFail _ tile => tile < nTileOf v
  | .spareMigrationStep _ _ => true
  | .fillEnd _ sl => slotIn v sl
  | .converterEnableSettle _ => true
  | .captureTrigger _ h => h.engine < nCapOf v
  | .noTrigger _ engine => engine < nCapOf v
  | .snapshotCopy _ => true
  | .delaySearchEnd _ sl lag _ _ => slotIn v sl && lag < 8192
  | .probePhaseEnd _ sl => slotIn v sl
  | .checkpoint _ sl => slotIn v sl
  | .gougeTapEcc _ kind p _ => if kind = 3 then p.unit < nTileOf v else kind < 3 && slotIn v p.unit
  | .laneFail _ lane => lane < nTileOf v
  | .laneMigrationStep _ _ => true
  | .guardHoldExpiry _ => true
  | .patternBoundary _ g => g < 8
  | .fePinEdge _ p => p < 32
  | .seqTxTimeout _ g => g < 8
  | .seqHoldExpired _ g => g < 8
  | .frameStart _ g => g < 8
  | .syncBurst _ g _ levels => g < 8 && levels.all (fun l => l.1 < nDivOf v)
  | .mismatchDwell _ m => m < nObsOf v
  | .tunerSearchStep _ m => m < nObsOf v
  | .searchTimeout _ m => m < nObsOf v
  | .carrierZero _ => true
  | .carrierTop _ => true
  | .compareMatch _ n _ => n < 8
  | .pwmTriggerLine _ l => l < 16
  | .maskAssert _ m => m < 8
  | .maskRelease _ m => m < 8
  | .gaugeTrigger _ n => n < 4
  | .gaugeDelayEnd _ n => n < 4
  | .conversionEnd _ n _ => n < 4
  | .gaugeSelfCalEnd _ n _ gain => n < 4 && gain < 65536
  | .supplyLoopRun _ n => n < 8
  | .supplyLoopMiss _ n => n < 8
  | .faultEvent _ _ => true
  | .faultWindowClose _ i => i < 47
  | .chipReset _ _ => true
  | .aliveToggle _ => true
  | .eventArrival _ => true
  | .turnMark _ => true
  | .rateRefill _ => true
  | .logMem _ bank kind _ => bank < 32 && kind < 3
  | .parseEnd _ => true
  | .swapValidationEnd _ => true
  | .flashStart _ => true
  | .selfTestEnd _ failed _ => (match failed with | some t => decide (t < 5) | none => true)
  | .tokenVerdict _ => true
  | .consentCounterStep _ => true
  | .provVerdict _ => true
  | .otpRowCommit _ => true
  | .respondVerdict _ => true
  | .challengeExpiry _ => true
  | .sessionExpiry _ => true
  | .wideUpperRead _ off _ => 4 ≤ off && isWideLow (off / 4 * 4 - 4)
  | .planEcc _ kind word _ => kind < 4 && word < 98304
  | .flashReadEnd _ _ => true
  | .captureRecordingEnd _ engine _ _ => engine < nCapOf v
  | .captureShareOverrun _ engine _ _ => engine < nCapOf v
  | .deadTimeEnd _ o => o < 16
  | .minIntervalReached _ o => o < 16
  | .tamperEnd _ => true

end Sys2Proof
end

