-- ==== Sys2Proof/Certificates/Slice0/Obligations.lean ====
section
/-! DEFINITION. What is claimed of the block, one definition per obligation. -/
open Sys2Proof Sys2Proof.Machine

/-! ### The block as a whole -/

/-- A step takes the command at the front of the queue and runs it with the rest of the queue. -/
def Obligations.StepRunsTheFrontCommand : Prop :=
  ∀ (s : State) (c : Instr) (rest : List Instr), s.pending = c :: rest → step s = exec c { s with pending := rest }

/-- With an empty queue the block idles: nothing changes. The model's own rule (log entry 6). -/
def Obligations.EmptyQueueIdles : Prop := ∀ s : State, s.pending = [] → step s = .next s

/-- The invariant holds right after reset. -/
def Obligations.ResetMeetsTheInvariant : Prop := State.Inv State.reset

/-- Every step keeps the invariant, from every state that meets it. -/
def Obligations.EveryStepKeepsTheInvariant : Prop := ∀ s t : State, s.Inv → step s = .next t → t.Inv

/-- No command undoes what is burned into the one-time-programmable memory: serial number and root hash never change, the consent counter never
falls, rows are only added (R331, R340). -/
def Obligations.TheOtpOnlyGrows : Prop :=
  ∀ s t : State, s.Inv → step s = .next t → s.sec.otp.grows t.sec.otp

/-- The Active Plan, the Turn count and the epoch change at a Turn boundary or in a reset of the module, and by no other command. -/
def Obligations.OnlyABoundaryOrAResetChangesPlanAndTurn : Prop :=
  ∀ (c : Instr) (s t : State), marksTime c = false → exec c s = .next t →
    t.active = s.active ∧ t.turn = s.turn ∧ t.epoch = s.epoch

/-- Every byte of the image buffer stays as it was under every command but those that transfer into it, clear it or reset it (R178, R190, R222,
R226); which bytes a transfer writes, `TransfersQueueAndMoveTheirBytes` says. -/
def Obligations.OnlyTransfersFlashAndResetsWriteTheImageBuffer : Prop :=
  ∀ (c : Instr) (s t : State), movesImage c = false → exec c s = .next t → ∀ a, imageByte t.plan.image a = imageByte s.plan.image a

/-- A command runs to a next state exactly where it names parts the variant has, in the ranges of its row; else it is no happening on this
hardware and stops as ill formed. No command is refused. -/
def Obligations.EveryWellFormedCommandRuns : Prop :=
  ∀ (c : Instr) (s : State),
    (wellFormed s.variant c = true → ∃ t, exec c s = .next t ∧ t.pending = s.pending ∧ t.variant = s.variant) ∧
    (wellFormed s.variant c = false → exec c s = .fault .illFormed)

/-! ### The Host Interface -/

/-- PAUSE writes its bit alone (R201). TRAP_CLEAR clears PENDING and releases HOST_TRAP_N (R230), unless a trap was set in the same fc (R11).
ORPHAN_DISCARD deletes the held completions of disabled rings and no other (R223). PERST_N_RELEASE lets the Host Interface out of reset. The
link going down loses its unit, its doorbell reads and the transfers that have begun, and is signalled as HIF_LINK_DOWN, live while it lasts
(R194, R222); coming up it shows its speed and width (R192). A block reset of the Host Interface, and PERST_N, leave no descriptor in
flight, every ring disabled and every table entry invalid (R225, R226). A command whose time has not come, or whose condition does not hold,
changes nothing: the model's convention (log entry 7). -/
def Obligations.HostControlsLinkAndResets : Prop :=
  (∀ (s : State) (fc : Nat),
     (∀ on, ∃ t, exec (.pause fc on) s = .next t ∧ s.wrote fc [F.HIF_CTRL_PAUSE] t ∧ t.flag F.HIF_CTRL_PAUSE = on) ∧
     ((s.at fc).freshBits F.HIF_TRAP_PENDING ≠ 0 → exec (.trapClear fc) s = .next (s.at fc)) ∧
     ((s.at fc).freshBits F.HIF_TRAP_PENDING = 0 → ∃ t, exec (.trapClear fc) s = .next t ∧
       s.wrote fc [F.HIF_TRAP_PENDING, F.HIF_TRAP_PIN] t ∧
       t.flag F.HIF_TRAP_PENDING = false ∧ t.flag F.HIF_TRAP_PIN = false) ∧
     exec (.orphanDiscard fc) s = .next { s.at fc with hif := { s.hif with
                                                       held := s.hif.held.filter (fun c => s.flag (F.HIF_CQ_CFG_EN c.cq)) } } ∧
     exec (.perstNRelease fc) s = .next { s.at fc with hif := { s.hif with perst := false } }) ∧
  (∀ (s : State) (fc : Nat),
     (s.linkUp = true → ∃ t, exec (.hifLinkDown fc) s = .next t ∧ t.linkUp = false ∧ t.hif.cur = none ∧ t.hif.dbReads = 0 ∧
       (∀ x ∈ t.hif.xfers, x.begun = false) ∧ 31 ∈ t.flt.raised ∧ t.isLive 31 = true) ∧
     (∀ speed width, 1 ≤ speed → speed ≤ 5 → width ∈ [1, 2, 4] → s.hif.perst = false → s.pwr.off = false →
       ∃ t, exec (.linkUp fc speed width) s = .next t ∧ t.linkUp = true ∧ t.get F.HIF_STATUS_SPEED = speed ∧
         t.get F.HIF_STATUS_WIDTH = width ∧ t.isLive 31 = false) ∧
     (∀ unit, ∃ t, exec (.hifBlockReset fc unit) s = .next t ∧ t.hif.inflight = [] ∧ t.hif.xfers = [] ∧ t.hif.cur = none ∧ t.hif.hwt = [] ∧
       ∀ n < 8, t.flag (F.HIF_SQ_CFG_EN n) = false ∧ t.flag (F.HIF_CQ_CFG_EN n) = false) ∧
     (∀ unit, s.pwr.off = false → ∃ t, exec (.perstNAssert fc unit) s = .next t ∧ t.linkUp = false ∧ t.hif.perst = true ∧ t.hif.inflight = [] ∧ t.hif.hwt = [] ∧
       ∀ n < 8, t.flag (F.HIF_SQ_CFG_EN n) = false ∧ t.flag (F.HIF_CQ_CFG_EN n) = false))

/-- A doorbell write asks for a read of the doorbell area while the link is up; the read brings every ring its tail or head (R197, R198). A tail
of S or more is ignored, counted and signalled, and the ring keeps its previous tail. A fetch takes the descriptor at the ring's head, and
the head advances modulo S. Well formed, it is in flight, accepted in this Turn (R202); malformed, it completes FAILED with cause MALFORMED
and the offset of its first offending field, or 0xFFFF_FFFF for a failure of parity (R203). A command whose time has not come, or whose
condition does not hold, changes nothing: the model's convention (log entry 7). -/
def Obligations.DoorbellsAndFetches : Prop :=
  ((∀ (s : State) (fc : Nat), s.linkUp = true → s.blockHeld .hif = false →
     exec (.doorbell fc) s = .next { s.at fc with hif := { s.hif with dbReads := s.hif.dbReads + 1 } }) ∧
   (∀ (s : State) (fc : Nat), s.linkUp = false ∨ s.blockHeld .hif = true → exec (.doorbell fc) s = .next (s.at fc)) ∧
   (∀ (s : State) (fc : Nat) (area : List Byte), s.linkUp = true → s.hif.dbReads ≠ 0 →
     ∃ t, exec (.doorbellRead fc area) s = .next t ∧
       (∀ n < 8,
         t.get (F.HIF_SQ_TAIL_SEEN_TAIL n) =
           (if leAt area (4 * n) 2 < 2 ^ s.get (F.HIF_SQ_CFG_SIZE n) then leAt area (4 * n) 2 else s.get (F.HIF_SQ_TAIL_SEEN_TAIL n)) ∧
         t.get (F.HIF_CQ_HEAD_SEEN_HEAD n) = leAt area (32 + 4 * n) 2) ∧
       (30 ∈ t.flt.raised ∨ ∀ n < 8, leAt area (4 * n) 2 < 2 ^ s.get (F.HIF_SQ_CFG_SIZE n)) ∧
       s.sameRegsBut (F.HIF_LINK_TAIL_ERRORS ::
         (List.range 8).flatMap (fun n => [F.HIF_SQ_TAIL_SEEN_TAIL n, F.HIF_CQ_HEAD_SEEN_HEAD n])) t ∧
       t = { s.at fc with regs := t.regs, fresh := t.fresh, hif := { s.hif with dbReads := s.hif.dbReads - 1 },
                          flt := { s.flt with raised := t.flt.raised } })) ∧
  (∀ (s : State) (n fc : Nat) (bytes : List Byte) (parityOk : Bool), s.nextFetch = some n → s.flag F.FLT_INJECT_ARMED = false →
     (parityOk = true → descBad s.variant (padTo 64 bytes) = none →
       ∃ t, exec (.descriptorFetch fc bytes parityOk) s = .next t ∧
         t.hif.inflight = s.hif.inflight ++ [s.fetched n fc bytes] ∧
         t.get (F.HIF_SQ_STATUS_HEAD n) = (s.get (F.HIF_SQ_STATUS_HEAD n) + 1) % 2 ^ s.get (F.HIF_SQ_CFG_SIZE n) % 2 ^ 16 ∧
         s.sameRegsBut [F.HIF_SQ_STATUS_HEAD n] t ∧
         t = { s.at fc with regs := t.regs, fresh := t.fresh,
                            hif := { s.hif with inflight := t.hif.inflight, nextOrder := s.hif.nextOrder + 1,
                                                served := s.hif.served.set (s.get (F.HIF_SQ_CFG_PRIO n)) n } }) ∧
     (∀ off, (if parityOk then descBad s.variant (padTo 64 bytes) else some 0xFFFFFFFF) = some off → s.takesCpl (s.cqOf n) →
       s.findDesc (n, s.hif.nextOrder) = none →
       ∃ t, exec (.descriptorFetch fc bytes parityOk) s = .next t ∧ s.completed fc (s.fetched n fc bytes) 3 1 0 off t ∧
         s.sameRegsBut ([F.HIF_SQ_STATUS_HEAD n, F.HIF_ERR_COUNT_MALFORMED] ++ reportFields) t))

/-- NOP completes DONE on acceptance. FENCE completes DONE once every earlier descriptor of its ring, or of all rings with ALL, has completed;
until then it waits, and nothing else happens. COUNTER_READ and GAUGE_READ are carried out at the first boundary after acceptance (R208,
R209). The Recorder's requests take effect at the boundary of R205, from a descriptor; from LOG_CTRL at the next boundary (R320, R321). -/
def Obligations.SimpleDescriptorsCompleteOrWait : Prop :=
  (∀ (s : State) (fc : Nat) (d : Desc), s.takesCpl d.cq →
     (s.offers Op.nop d → ∃ t, exec (.nop fc d.sq d.idx) s = .next t ∧ s.completed fc d 1 0 0 0 t ∧
       (s.started fc d.key).told [] t) ∧
     (s.offers Op.fence d → (∀ e ∈ s.hif.inflight, e.opcode = Op.fence → e.started = false ∨ fenceClear s.hif.inflight e = false) →
       (fenceClear s.hif.inflight d = true → ∃ t, exec (.fence fc d.sq d.idx) s = .next t ∧
         s.completed fc d 1 0 0 0 t ∧ (s.started fc d.key).told [] t) ∧
       (fenceClear s.hif.inflight d = false → exec (.fence fc d.sq d.idx) s = .next (s.started fc d.key)))) ∧
  ((∀ (s : State) (fc : Nat) (d : Desc),
     let k : DescKey := d.key
     let u := s.started fc k
     let due := if fc % 3072 < 2816 then s.turn + 1 else s.turn + 2
     (s.offers Op.counterRead d → exec (.counterRead fc d.sq d.idx) s =
       .next { u with staged := s.staged ++ [⟨k, s.turn + 1, .counterRead (dFirst d.body) (dCount d.body) (dAddr d.body)⟩] }) ∧
     (s.offers Op.gaugeRead d → exec (.gaugeRead fc d.sq d.idx) s =
       .next { u with staged := s.staged ++ [⟨k, s.turn + 1, .gaugeRead (dEntries d.body) (dAddr d.body)⟩] }) ∧
     (s.offers Op.logClear d → exec (.logClear fc (some (d.sq, d.idx))) s = .next { u with staged := s.staged ++ [⟨k, due, .logClear⟩] }) ∧
     (s.offers Op.logFreeze d → exec (.logFreeze fc (some (d.sq, d.idx))) s = .next { u with staged := s.staged ++ [⟨k, due, .logFreeze⟩] }) ∧
     (s.offers Op.logThaw d → exec (.logThaw fc (some (d.sq, d.idx))) s = .next { u with staged := s.staged ++ [⟨k, due, .logThaw⟩] })) ∧
   (∀ (s : State) (fc : Nat),
     exec (.logClear fc none) s = .next { s.at fc with log := { s.log with clearReq := true } } ∧
     exec (.logFreeze fc none) s = .next { s.at fc with log := { s.log with freezeReq := true } } ∧
     exec (.logThaw fc none) s = .next { s.at fc with log := { s.log with thawReq := true } }))

/-- A completion that finds the held list full is lost (R224): counted in HIF_ORPHAN.LOST, signalled as HIF_ORPHAN_OVERFLOW (source 32) and
recorded as an event, code 0x51, that carries its ring and TAG; nothing is written to the host for it. -/
def Obligations.AFullHeldListLosesACompletion : Prop :=
  ∀ (s : State) (fc : Nat) (d : Desc), s.offers Op.nop d → ¬ s.takesCpl d.cq → (∀ e ∈ s.hif.inflight, e.opcode = Op.fence → e.started = false) →
    ∃ t, exec (.nop fc d.sq d.idx) s = .next t ∧ t.get F.HIF_ORPHAN_LOST = satAdd 65535 (s.get F.HIF_ORPHAN_LOST) 1 ∧
      t.flt.raised = s.flt.raised ++ [32] ∧ t.evOut = s.evOut ++ [⟨0x51, 3, 1, leBytes d.sq 1 ++ leBytes d.tag 2⟩] ∧
      t.linkOut = s.linkOut ∧ t.hif.held = s.hif.held ∧ t.findDesc d.key = none ∧ s.sameRegsBut [F.HIF_ORPHAN_LOST] t

/-- TOKEN_SUBMIT reads its 256-byte record, RESPOND its 192 bytes, LOG_READ writes records from the first held, and PLAN_LOAD fills the image
buffer from OFFSET, clearing it first where OFFSET is 0 (R178, R209, R212, R344). While a unit is on the link their transfers wait behind it
(R219): nothing else happens, where no LOG_READ has run out of records. The bytes of a PLAN_LOAD unit go into the image buffer at OFFSET
plus what was moved before, and no other byte of it changes; while the Shadow Plan is locked none changes (R179, R185). The bytes of a unit
that writes host memory go out at its bus address. -/
def Obligations.TransfersQueueAndMoveTheirBytes : Prop :=
  (∀ (s : State) (fc : Nat) (d : Desc) (u : UnitNow), s.hif.cur = some u → s.noSpentLog →
     let k : DescKey := d.key
     let queued (t : State) (kind : XferKind) (va len : Nat) : State :=
       { t with hif := { t.hif with xfers := t.hif.xfers ++ [d.readyXfer kind va len] } }
     (s.offers Op.tokenSubmit d → exec (.tokenSubmit fc d.sq d.idx) s = .next (queued (s.started fc k) .token (dAddr d.body) 256)) ∧
     (s.offers Op.debugUnlock d → dStep d.body = 1 →
       exec (.respond fc d.sq d.idx) s = .next (queued (s.started fc k) .respond (dUnlockAddr d.body) 192)) ∧
     (s.offers Op.logRead d → (nextHeld (dFromSeq d.body) s.log.recs).isSome → dAddr d.body % 32 = 0 → 32 ≤ dLen d.body →
       exec (.logRead fc d.sq d.idx) s =
         .next (queued (s.started fc k) (.log (dFromSeq d.body) 0) (dAddr d.body) (dLen d.body))) ∧
     (s.offers Op.planLoad d → s.shadowLocked = false → dOffset d.body % 4 = 0 → dOffset d.body + dLen d.body ≤ 393216 →
       exec (.planLoad fc d.sq d.idx) s =
         .next (queued (if dOffset d.body = 0 then
             { s.started fc k with plan := { s.plan with image := [], imageBad := [] } } else s.started fc k)
           (.planLoad (dOffset d.body) (dLast d.body)) (dAddr d.body) (dLen d.body)))) ∧
  (∀ (s : State) (fc : Nat) (host : List Byte) (u : UnitNow) (x : Xfer), s.hif.cur = some u → s.findXfer (u.sq, u.order) = some x →
     (∀ off last, x.kind = .planLoad off last →
       ∃ t, exec (.transferUnit fc host) s = .next t ∧ ∀ a, imageByte t.plan.image a =
         if s.shadowLocked = false ∧ off + x.pos ≤ a ∧ a < off + x.pos + u.len then (padTo u.len host).getD (a - (off + x.pos)) 0
         else imageByte s.plan.image a) ∧
     (x.kind.reads = false → ∃ t, exec (.transferUnit fc host) s = .next t ∧ LinkMsg.data u.pa u.bytes ∈ t.linkOut ∧
       ∀ a, imageByte t.plan.image a = imageByte s.plan.image a))

/-- SQ_CFG_WRITE (R195): an enable whose completion ring is disabled is refused with ERR; a successful one starts the ring empty and clears ERR;
SIZE outside 4 to 12 is not taken; an enabled ring takes EN and PRIO alone. CQ_CFG_WRITE (R195): a completion ring that an enabled
submission ring, a descriptor in flight or a held completion still needs stays as it is when it would be disabled; an enable starts it empty
with PHASE 1. A command whose time has not come, or whose condition does not hold, changes nothing: the model's convention (log entry 7). -/
def Obligations.RingRegisters : Prop :=
  (∀ (s : State) (fc n v : Nat), n < 8 →
     let size := if 4 ≤ bits v 1 4 ∧ bits v 1 4 ≤ 12 then bits v 1 4 else s.get (F.HIF_SQ_CFG_SIZE n)
     (s.flag (F.HIF_SQ_CFG_EN n) = true → ∃ t, exec (.sqCfgWrite fc n v) s = .next t ∧
       s.wrote fc [F.HIF_SQ_CFG_PRIO n, F.HIF_SQ_CFG_EN n] t ∧ t.get (F.HIF_SQ_CFG_PRIO n) = bits v 5 2 ∧
       t.flag (F.HIF_SQ_CFG_EN n) = bit v 0) ∧
     (s.flag (F.HIF_SQ_CFG_EN n) = false → bit v 0 = true → s.flag (F.HIF_CQ_CFG_EN (bits v 7 3)) = false →
       ∃ t, exec (.sqCfgWrite fc n v) s = .next t ∧ s.wrote fc [F.HIF_SQ_STATUS_ERR n] t ∧ t.flag (F.HIF_SQ_STATUS_ERR n) = true) ∧
     (s.flag (F.HIF_SQ_CFG_EN n) = false → bit v 0 = true → s.flag (F.HIF_CQ_CFG_EN (bits v 7 3)) = true →
       ∃ t, exec (.sqCfgWrite fc n v) s = .next t ∧
         s.wrote fc [F.HIF_SQ_CFG_EN n, F.HIF_SQ_CFG_SIZE n, F.HIF_SQ_CFG_PRIO n, F.HIF_SQ_CFG_CQ n, F.HIF_SQ_STATUS_HEAD n,
           F.HIF_SQ_STATUS_ERR n] t ∧
         t.flag (F.HIF_SQ_CFG_EN n) = true ∧ t.get (F.HIF_SQ_CFG_SIZE n) = size ∧ t.get (F.HIF_SQ_CFG_PRIO n) = bits v 5 2 ∧
         t.get (F.HIF_SQ_CFG_CQ n) = bits v 7 3 ∧ t.get (F.HIF_SQ_STATUS_HEAD n) = 0 ∧ t.flag (F.HIF_SQ_STATUS_ERR n) = false) ∧
     (s.flag (F.HIF_SQ_CFG_EN n) = false → bit v 0 = false →
       ∃ t, exec (.sqCfgWrite fc n v) s = .next t ∧ s.wrote fc [F.HIF_SQ_CFG_SIZE n, F.HIF_SQ_CFG_PRIO n, F.HIF_SQ_CFG_CQ n] t ∧
         t.get (F.HIF_SQ_CFG_SIZE n) = size ∧
         t.get (F.HIF_SQ_CFG_PRIO n) = bits v 5 2 ∧ t.get (F.HIF_SQ_CFG_CQ n) = bits v 7 3)) ∧
  (∀ (s : State) (fc n v : Nat), n < 8 →
     (s.flag (F.HIF_CQ_CFG_EN n) = true → bit v 0 = false →
       ((∃ q < 8, s.flag (F.HIF_SQ_CFG_EN q) = true ∧ s.cqOf q = n) ∨ (∃ d ∈ s.hif.inflight, d.cq = n) ∨ (∃ c ∈ s.hif.held, c.cq = n)) →
       exec (.cqCfgWrite fc n v) s = .next (s.at fc)) ∧
     (s.flag (F.HIF_CQ_CFG_EN n) = true → bit v 0 = true →
       ∃ t, exec (.cqCfgWrite fc n v) s = .next t ∧ t.flag (F.HIF_CQ_CFG_EN n) = true ∧
         s.wrote fc [F.HIF_CQ_CFG_EN n, F.HIF_CQ_CFG_VEC n, F.HIF_CQ_CFG_FAIL_IRQ n, F.HIF_CQ_CFG_COAL_COUNT n,
           F.HIF_CQ_CFG_COAL_TURNS n] t ∧
         t.get (F.HIF_CQ_CFG_VEC n) = bits v 5 6 ∧ t.get (F.HIF_CQ_CFG_COAL_COUNT n) = bits v 12 8 ∧
         t.get (F.HIF_CQ_CFG_COAL_TURNS n) = bits v 20 8) ∧
     (s.flag (F.HIF_CQ_CFG_EN n) = false → bit v 0 = true →
       ∃ t, exec (.cqCfgWrite fc n v) s = .next t ∧ t.flag (F.HIF_CQ_CFG_EN n) = true ∧ t.get (F.HIF_CQ_STATUS_TAIL n) = 0 ∧
         t.get (F.HIF_CQ_STATUS_PHASE n) = 1 ∧ t.get (F.HIF_CQ_CFG_VEC n) = bits v 5 6 ∧
         s.sameRegsBut [F.HIF_CQ_CFG_EN n, F.HIF_CQ_CFG_SIZE n, F.HIF_CQ_CFG_VEC n, F.HIF_CQ_CFG_FAIL_IRQ n, F.HIF_CQ_CFG_COAL_COUNT n,
           F.HIF_CQ_CFG_COAL_TURNS n, F.HIF_CQ_STATUS_TAIL n, F.HIF_CQ_STATUS_PHASE n] t ∧
         t = { s.at fc with regs := t.regs, fresh := t.fresh, hif := { s.hif with coal := s.hif.coal.set n (0, none) } }))

/-- A held completion is written with ORPHAN = 1 in the first ring that can take one (R223): into the entry at TAIL with the present PHASE, TAIL
advancing and PHASE inverting at the wrap (R200). A ring's coalescing limit in Turns raises its vector, or sets its pending bit while it is
masked (R228). A command whose time has not come, or whose condition does not hold, changes nothing: the model's convention (log entry 7). -/
def Obligations.HeldCompletionsAndVectorsGoOut : Prop :=
  (∀ (s : State) (fc : Nat) (c : Cpl), s.hif.held.find? (fun c => s.cqReady c.cq) = some c →
    let cq : Nat := c.cq
    let tail := s.get (F.HIF_CQ_STATUS_TAIL cq)
    let phase := s.get (F.HIF_CQ_STATUS_PHASE cq)
    let wraps := tail + 1 = 2 ^ s.get (F.HIF_CQ_CFG_SIZE cq)
    let base := 2 ^ 12 * s.get (F.HIF_CQ_BASE_LO_BASE cq) + 2 ^ 32 * s.get (F.HIF_CQ_BASE_HI_BASE cq)
    ∃ t, exec (.heldCompletionDelivery fc) s = .next t ∧
      LinkMsg.cpl cq tail (base + 32 * tail) (cplBytes { c with flags := c.flags ||| 1 } (s.get (F.HIF_SQ_STATUS_HEAD c.sq)) phase) ∈ t.linkOut ∧
      t.hif.held = s.hif.held.erase c ∧ t.hif.inflight = s.hif.inflight ∧
      t.get (F.HIF_CQ_STATUS_TAIL cq) = (if wraps then 0 else tail + 1) % 2 ^ 16 ∧
      t.get (F.HIF_CQ_STATUS_PHASE cq) = if wraps then (1 - phase) % 2 else phase) ∧
  (∀ (s : State) (fc cq c : Nat) (t0 : TurnNo), cq < 8 → s.hif.coal.getD cq (0, none) = (c, some t0) →
    let n := s.get (F.HIF_CQ_CFG_COAL_TURNS cq)
    let v := s.get (F.HIF_CQ_CFG_VEC cq)
    let u : State := { s.at fc with hif := { s.hif with coal := s.hif.coal.set cq (0, none) } }
    (n = 0 ∨ turnsSince s.turn t0 < n → exec (.coalesceTimeout fc cq) s = .next (s.at fc)) ∧
    (n ≠ 0 → n ≤ turnsSince s.turn t0 → s.linkUp = true → v ≠ 0 →
      (s.flag (F.HIF_MSIX_CTRL_MASK v) = false →
        exec (.coalesceTimeout fc cq) s = .next { u with linkOut := s.linkOut ++ [.msix v] }) ∧
      (s.flag (F.HIF_MSIX_CTRL_MASK v) = true → ∃ t, exec (.coalesceTimeout fc cq) s = .next t ∧
        t.getBit (F.HIF_MSIX_PBA_PENDING (v / 32)) (v % 32) = true ∧ t = { u with regs := t.regs, fresh := t.fresh } ∧
        s.sameRegsBut [F.HIF_MSIX_PBA_PENDING (v / 32)] t)))

/-- The Host Window Table (R216 to R218): a write installs the entry the registers describe, or is refused for its alignment, for overlap with
another entry, or while BUSY, and then changes no entry; a read copies an entry into the registers; an invalidation clears V, with BUSY
while the unit on the link was translated through the entry, and BUSY ends when that unit has. -/
def Obligations.HostWindowTableCommands : Prop :=
  ∀ (s : State) (fc i : Nat), i < 1024 →
    (s.flag F.HIF_HWT_CMD_BUSY = true →
      (∀ c ∈ [Instr.hwtWrite fc i, .hwtRead fc i, .hwtInvalidate fc i], ∃ t, exec c s = .next t ∧ t.get F.HIF_HWT_CMD_ERR = 3 ∧
        s.wrote fc [F.HIF_HWT_CMD_INDEX, F.HIF_HWT_CMD_ERR] t) ∧
      (∀ j, s.hif.draining = some j → (∀ u, s.hif.cur = some u → u.entry ≠ j) →
        ∃ t, exec (.hwtInvalidateDrained fc) s = .next t ∧ t.flag F.HIF_HWT_CMD_BUSY = false ∧ s.sameRegsBut [F.HIF_HWT_CMD_BUSY] t ∧
          t = { s.at fc with regs := t.regs, fresh := t.fresh, hif := { s.hif with draining := none } })) ∧
    (s.flag F.HIF_HWT_CMD_BUSY = false →
      (s.hwtRegs.misaligned = true → ∃ t, exec (.hwtWrite fc i) s = .next t ∧ t.get F.HIF_HWT_CMD_ERR = 2 ∧
        s.wrote fc [F.HIF_HWT_CMD_INDEX, F.HIF_HWT_CMD_ERR] t) ∧
      (s.hwtRegs.misaligned = false → (∃ o ∈ s.hif.hwt, o.1 ≠ i ∧ s.hwtRegs.overlaps o.2 = true) →
        ∃ t, exec (.hwtWrite fc i) s = .next t ∧ t.get F.HIF_HWT_CMD_ERR = 1 ∧ s.wrote fc [F.HIF_HWT_CMD_INDEX, F.HIF_HWT_CMD_ERR] t) ∧
      (s.hwtRegs.misaligned = false → (∀ o ∈ s.hif.hwt, o.1 ≠ i → s.hwtRegs.overlaps o.2 = false) →
        ∃ t, exec (.hwtWrite fc i) s = .next t ∧ t.get F.HIF_HWT_CMD_ERR = 0 ∧ t.hwtAt i = s.hwtRegs ∧
          (∀ j, j ≠ i → t.hwtAt j = s.hwtAt j) ∧ s.sameRegsBut [F.HIF_HWT_CMD_INDEX, F.HIF_HWT_CMD_ERR] t) ∧
      (∃ t, exec (.hwtRead fc i) s = .next t ∧ t.get F.HIF_HWT_CMD_ERR = 0 ∧ t.get F.HIF_HWT_VA_VA = (s.hwtAt i).va % 2 ^ 32 ∧
        t.get F.HIF_HWT_PA_LO_PA = (s.hwtAt i).pa % 2 ^ 32 ∧ t.flag F.HIF_HWT_PA_HI_V = (s.hwtAt i).v ∧
        t.flag F.HIF_HWT_PA_HI_SIZE = (s.hwtAt i).big ∧ t.flag F.HIF_HWT_PA_HI_RD = (s.hwtAt i).rd ∧ t.flag F.HIF_HWT_PA_HI_WR = (s.hwtAt i).wr ∧
        t.hif = s.hif) ∧
      (∃ t, exec (.hwtInvalidate fc i) s = .next t ∧ t.get F.HIF_HWT_CMD_ERR = 0 ∧ (t.hwtAt i).v = false ∧
        (∀ j, j ≠ i → t.hwtAt j = s.hwtAt j) ∧
        ((∃ u, s.hif.cur = some u ∧ u.entry = i) → t.flag F.HIF_HWT_CMD_BUSY = true ∧ t.hif.draining = some i) ∧
        ((∀ u, s.hif.cur = some u → u.entry ≠ i) → t.flag F.HIF_HWT_CMD_BUSY = false)))

/-! ### The Event Recorder and the Fault Collector -/

/-- An event that reaches the recorder (R316, R318, R320): without a token its record is not written and SUPPRESSED counts one; while the log is
frozen it waits in the holding queue; else it becomes the newest record, with the next number and the count suppressed before it. A command
whose time has not come, or whose condition does not hold, changes nothing: the model's convention (log entry 7). -/
def Obligations.AnEventIsSuppressedQueuedOrRecorded : Prop :=
  ∀ (s : State) (fc : Nat) (e : Evt) (rest : List Evt), s.evOut = e :: rest →
    let c := e.code % 512
    let free := exempt e || s.get (F.LOG_RATE_CAP c) == 0
    let after : State := { s.at fc with evOut := rest }
    (s.pwr.starting = true ∨ s.pwr.off = true → exec (.eventArrival fc) s = .next (s.at fc)) ∧
    (s.pwr.starting = false → s.pwr.off = false →
      (free = false → s.tokensOf c = 0 → ∃ t, exec (.eventArrival fc) s = .next t ∧
        t.get (F.LOG_RATE_SUPPRESSED c) = satAdd 65535 (s.get (F.LOG_RATE_SUPPRESSED c)) 1 ∧
        s.sameRegsBut [F.LOG_RATE_SUPPRESSED c] t ∧ t = { after with regs := t.regs, fresh := t.fresh }) ∧
      (free = true ∨ 0 < s.tokensOf c → s.frozen = true → s.log.queue.length < 64 →
        ∃ t, exec (.eventArrival fc) s = .next t ∧ t.log.queue = s.log.queue ++ [(e, s.get (F.LOG_RATE_SUPPRESSED c))] ∧
          t.log.recs = s.log.recs ∧ t.get (F.LOG_RATE_SUPPRESSED c) = 0 ∧ s.sameRegsBut [F.LOG_RATE_SUPPRESSED c] t ∧
          t = { after with regs := t.regs, fresh := t.fresh, log := t.log }) ∧
      (free = true ∨ 0 < s.tokensOf c → s.frozen = false → s.banksOk ≠ [] → s.logHasRoom = true →
        s.get F.LOG_NEXT_SEQ_NEXT_SEQ ≠ 0xFFFFFFFF →
        ∃ t, exec (.eventArrival fc) s = .next t ∧
          (∃ b, t.log.recs = s.log.recs ++ [⟨s.get F.LOG_NEXT_SEQ_NEXT_SEQ, e, false, false, s.get (F.LOG_RATE_SUPPRESSED c), b⟩]) ∧
          t.get F.LOG_NEXT_SEQ_NEXT_SEQ = s.get F.LOG_NEXT_SEQ_NEXT_SEQ + 1 ∧ t.get (F.LOG_RATE_SUPPRESSED c) = 0 ∧
          (s.flag F.LOG_IRQ_EN = true → s.get F.LOG_IRQ_MIN_SEV ≤ e.sev → t.flag F.LOG_IRQ_FLAG = true ∧
            (s.flag F.LOG_IRQ_FLAG = false → s.linkUp = true → s.get (F.HIF_IRQ_MAP_EN0 1) ≠ 0 → s.get (F.HIF_IRQ_MAP_VEC0 1) ≠ 0 →
              (s.flag (F.HIF_MSIX_CTRL_MASK (s.get (F.HIF_IRQ_MAP_VEC0 1))) = false →
                t.linkOut = s.linkOut ++ [.msix (s.get (F.HIF_IRQ_MAP_VEC0 1))]) ∧
              (s.flag (F.HIF_MSIX_CTRL_MASK (s.get (F.HIF_IRQ_MAP_VEC0 1))) = true → t.linkOut = s.linkOut ∧
                t.getBit (F.HIF_MSIX_PBA_PENDING (s.get (F.HIF_IRQ_MAP_VEC0 1) / 32)) (s.get (F.HIF_IRQ_MAP_VEC0 1) % 32) = true))) ∧
          (s.flag F.LOG_IRQ_EN = false ∨ e.sev < s.get F.LOG_IRQ_MIN_SEV ∨ s.flag F.LOG_IRQ_FLAG = true →
            t.linkOut = s.linkOut ∧ (s.flag F.LOG_IRQ_FLAG = false → t.flag F.LOG_IRQ_FLAG = false)) ∧
          s.sameRegsBut ([F.LOG_RATE_SUPPRESSED c, F.LOG_NEXT_SEQ_NEXT_SEQ, F.LOG_IRQ_FLAG] ++ reportFields) t ∧
          t = { after with regs := t.regs, fresh := t.fresh, linkOut := t.linkOut, free := s.free + 1,
                           log := { s.log with recs := t.log.recs, spent := t.log.spent } }))

/-- TURN_MARK falls due every 65,536 Turns, but for the start-up that a mark of its own ends, and is sent as an event with the Turn count and
the epoch (R29, R312); a rate bucket gains REFILL tokens, up to CAP, every 1,024 Turns (R318); each once in its Turn. LOG_RD_SEQ shows the
record that R323 selects, word by word, with its number, or zeros where none is held. LOG_MEM (R324): a single-bit error is corrected and
counted; any other, and any failure of the self-test, retires the bank, with LOG_MEM signalled and the bank's records lost. A command whose
time has not come, or whose condition does not hold, changes nothing: the model's convention (log entry 7). -/
def Obligations.TheLogKeepsTimeAndIsRead : Prop :=
  (∀ (s : State) (fc : Nat),
     (s.turn.toNat % 65536 = 0 → s.log.thawTurn ≠ some s.turn → s.pwr.starting = false → s.pwr.off = false → (3, 4) ∉ s.worked →
       exec (.turnMark fc) s = .next { s.at fc with
         worked := s.worked ++ [(3, 4)], evOut := s.evOut ++ [⟨1, 2, 13, leBytes s.turn.toNat 6 ++ leBytes s.epoch.toNat 2⟩] }) ∧
     (s.turn.toNat % 65536 ≠ 0 ∨ s.log.thawTurn = some s.turn ∨ s.pwr.starting = true ∨ s.pwr.off = true ∨ (3, 4) ∈ s.worked →
       exec (.turnMark fc) s = .next (s.at fc)) ∧
     (s.turn.toNat % 1024 = 0 → (3, 3) ∉ s.worked → s.pwr.off = false → ∃ t, exec (.rateRefill fc) s = .next t ∧
       (∀ c, sparseGet 0 s.log.spent c ≤ s.get (F.LOG_RATE_CAP c) →
         t.tokensOf c = min (s.get (F.LOG_RATE_CAP c)) (s.tokensOf c + s.get (F.LOG_RATE_REFILL c))) ∧
       t = { s.at fc with worked := s.worked ++ [(3, 3)], log := { s.log with spent := t.log.spent } }) ∧
     (s.turn.toNat % 1024 ≠ 0 ∨ (3, 3) ∈ s.worked ∨ s.pwr.off = true → exec (.rateRefill fc) s = .next (s.at fc))) ∧
  (∀ (s : State) (fc v : Nat), ∃ t, exec (.logRdSeq fc v) s = .next t ∧
     s.wrote fc (F.LOG_RD_SEQ_SEQ :: (List.range 8).map F.LOG_RD_DATA_DATA) t ∧
     (∀ r, nextHeld (v % 2 ^ 32) s.log.recs = some r → t.get F.LOG_RD_SEQ_SEQ = r.seq % 2 ^ 32 ∧
       ∀ w < 8, t.get (F.LOG_RD_DATA_DATA w) = leAt (recBytes r) (4 * w) 4) ∧
     (nextHeld (v % 2 ^ 32) s.log.recs = none → t.get F.LOG_RD_SEQ_SEQ = 0 ∧ ∀ w < 8, t.get (F.LOG_RD_DATA_DATA w) = 0)) ∧
  (∀ (s : State) (fc bank kind : Nat), bank < 32 → kind < 3 → s.bankRetired bank = false → s.pwr.off = false →
     (kind ≠ 0 → ∃ t, exec (.logMem fc bank kind true) s = .next t ∧
       t.get F.LOG_ECC_COUNT_CORRECTED = satAdd 65535 (s.get F.LOG_ECC_COUNT_CORRECTED) 1 ∧ s.wrote fc [F.LOG_ECC_COUNT_CORRECTED] t) ∧
     (∀ single, single = false ∨ kind = 0 → ∃ t, exec (.logMem fc bank kind single) s = .next t ∧ t.bankRetired bank = true ∧
       t.get F.LOG_ECC_COUNT_UNCORRECTED = satAdd 65535 (s.get F.LOG_ECC_COUNT_UNCORRECTED) 1 ∧ 33 ∈ t.flt.raised ∧
       (s.frozen = true → t.log.recs = s.log.recs.filter (fun r => r.bank != bank))))

/-- One event of one source at the collector (R294 to R298): it latches the status bit, captures its first and last time, counts, opens or
counts in its window, is severe from the N-th event on, and is recorded. The events of a block held in reset are ignored (R295). -/
def Obligations.AnEventIsLatchedCapturedAndClassified : Prop :=
  ∀ (s : State) (fc i : Nat), i < 47 → i ∈ s.flt.raised →
    (s.srcHeld i = true → exec (.faultEvent fc [i]) s =
      .next { s.at fc with flt := { s.flt with raised := s.flt.raised.filter (· != i) } }) ∧
    (s.srcHeld i = false →
      let count := if s.windowOver i = true then 1 else satAdd 255 (s.get (F.FLT_SRC_COUNT_WINDOW i)) 1
      let severe := s.act (F.FLT_SRC_CLASS_N i) ≤ count
      ∃ t, exec (.faultEvent fc [i]) s = .next t ∧ t.fltStatus i = true ∧
        t.capturedAt (F.FLT_SRC_LAST_LO_TURN i) (F.FLT_SRC_LAST_HI_TURN i) (F.FLT_SRC_LAST_HI_FC i) s.turn (fc % 3072) ∧
        (s.fltStatus i = false →
          t.capturedAt (F.FLT_SRC_FIRST_LO_TURN i) (F.FLT_SRC_FIRST_HI_TURN i) (F.FLT_SRC_FIRST_HI_FC i) s.turn (fc % 3072)) ∧
        (s.fltStatus i = true → ∀ f ∈ [F.FLT_SRC_FIRST_LO_TURN i, F.FLT_SRC_FIRST_HI_TURN i, F.FLT_SRC_FIRST_HI_FC i], t.get f = s.get f) ∧
        t.get (F.FLT_SRC_COUNT_COUNT i) = satAdd 65535 (s.get (F.FLT_SRC_COUNT_COUNT i)) 1 ∧
        t.flag (F.FLT_SRC_COUNT_OPEN i) = true ∧ t.get (F.FLT_SRC_COUNT_WINDOW i) = count ∧
        (severe → t.pairBit F.FLT_SEVERE_LO_SEVERE F.FLT_SEVERE_HI_SEVERE i = true) ∧
        (i ≠ 33 → i ≠ 34 → ∃ p, t.evOut = s.evOut ++ [⟨0x10 + i, if severe then 5 else 4, srcUnit i, p⟩]))

/-- The reaction set of an event's class is carried out (R300, Table 12.2): IRQ and ERROR_PIN set the source's bit, ERROR_PIN stopping ALIVE;
TRAP sets PENDING and pulls HOST_TRAP_N low; BLOCK_RESET holds the source's block from the next boundary; CHIP_RESET begins unless one has
begun or three lie within 8,388,608 Turns (R305). -/
def Obligations.ReactionsFollowTheSet : Prop :=
  ∀ (s : State) (fc i : Nat), i < 47 → i ∈ s.flt.raised → s.srcHeld i = false →
    let count := if s.windowOver i = true then 1 else satAdd 255 (s.get (F.FLT_SRC_COUNT_WINDOW i)) 1
    let set := s.act (if s.act (F.FLT_SRC_CLASS_N i) ≤ count then F.FLT_SRC_REACT_SEVERE i else F.FLT_SRC_REACT_MINOR i)
    ∃ t, exec (.faultEvent fc [i]) s = .next t ∧
      t.pairBit F.FLT_IRQ_LO_IRQ F.FLT_IRQ_HI_IRQ i = (s.pairBit F.FLT_IRQ_LO_IRQ F.FLT_IRQ_HI_IRQ i || bit set 0) ∧
      t.pairBit F.FLT_PIN_LO_PIN F.FLT_PIN_HI_PIN i = (s.pairBit F.FLT_PIN_LO_PIN F.FLT_PIN_HI_PIN i || bit set 4) ∧
      (bit set 4 = true → s.fltPinAny = false → t.flag F.FLT_ALIVE_STOPPED = true) ∧
      t.flag F.HIF_TRAP_PENDING = (s.flag F.HIF_TRAP_PENDING || bit set 1) ∧ t.flag F.HIF_TRAP_PIN = (s.flag F.HIF_TRAP_PIN || bit set 1) ∧
      t.flt.chipReset = (if bit set 3 = true ∧ s.flt.chipReset = none ∧ s.recentResets.length < 3 then some i else s.flt.chipReset) ∧
      (bit set 2 = true → bit set 3 = false → ∀ b, srcBlock i = some b → b ∈ t.flt.held ∨ b ∈ t.flt.holdNext)

/-- A window that has reached its end closes with its count at 0 (R298). A write of 1 to a status bit clears it with its SEVERE, PIN and capture
values, unless its source is live: then it stays and CLEAR_REFUSED counts (R299), or was latched in the same fc: then it stays as it is
(R11). ALIVE toggles at its boundaries while no ERROR_PIN bit is set (R306). An injection is armed only where R309 admits it, and else
counted as refused; the armed checker's next error ends it and counts it as injected (R310). A command whose time has not come, or whose
condition does not hold, changes nothing: the model's convention (log entry 7). -/
def Obligations.WindowsClearsAliveAndInjection : Prop :=
  (∀ (s : State) (fc i : Nat), i < 47 →
     (s.windowOver i = true → ∃ t, exec (.faultWindowClose fc i) s = .next t ∧ t.flag (F.FLT_SRC_COUNT_OPEN i) = false ∧
       t.get (F.FLT_SRC_COUNT_WINDOW i) = 0 ∧ s.sameRegsBut [F.FLT_SRC_COUNT_OPEN i, F.FLT_SRC_COUNT_WINDOW i] t ∧
       t = { s.at fc with regs := t.regs, fresh := t.fresh, flt := { s.flt with winStart := t.flt.winStart } }) ∧
     (s.windowOver i = false → exec (.faultWindowClose fc i) s = .next (s.at fc))) ∧
  ((∀ (s : State) (fc i : Nat), i < 47 →
     let c := Instr.fltStatusClear fc (32 ≤ i) (2 ^ (i % 32))
     let st := if i < 32 then [F.FLT_STATUS_LO_STATUS, F.FLT_SEVERE_LO_SEVERE, F.FLT_PIN_LO_PIN]
       else [F.FLT_STATUS_HI_STATUS, F.FLT_SEVERE_HI_SEVERE, F.FLT_PIN_HI_PIN]
     let cap := [F.FLT_SRC_FIRST_LO_TURN i, F.FLT_SRC_FIRST_HI_TURN i, F.FLT_SRC_FIRST_HI_FC i, F.FLT_SRC_LAST_LO_TURN i,
       F.FLT_SRC_LAST_HI_TURN i, F.FLT_SRC_LAST_HI_FC i, F.FLT_SRC_COUNT_COUNT i]
     ((s.at fc).freshSrc i = true → exec c s = .next (s.at fc)) ∧
     ((s.at fc).freshSrc i = false → s.isLive i = true → s.srcHeld i = false → ∃ t, exec c s = .next t ∧
       t.get F.FLT_CLEAR_REFUSED_CLEAR_REFUSED = satAdd 65535 (s.get F.FLT_CLEAR_REFUSED_CLEAR_REFUSED) 1 ∧
       s.wrote fc [F.FLT_CLEAR_REFUSED_CLEAR_REFUSED] t) ∧
     ((s.at fc).freshSrc i = false → s.isLive i = false ∨ s.srcHeld i = true → ∃ t, exec c s = .next t ∧ s.wrote fc (st ++ cap) t ∧
       (∀ f ∈ st, ∀ j, t.getBit f j = (s.getBit f j && j != i % 32)) ∧ (∀ f ∈ cap, t.get f = 0))) ∧
   (∀ (s : State) (fc : Nat),
     (s.turn.toNat % 16 = 0 → s.fltPinAny = false → s.pwr.starting = false → s.pwr.off = false → s.pwr.clkLost = false →
       (3, 2) ∉ s.worked → ∃ t, exec (.aliveToggle fc) s = .next t ∧ t.flag F.FLT_ALIVE_LEVEL = !s.flag F.FLT_ALIVE_LEVEL ∧
         t.flag F.FLT_ALIVE_STOPPED = false ∧ ({ s with worked := s.worked ++ [(3, 2)] } : State).wrote fc [F.FLT_ALIVE_LEVEL, F.FLT_ALIVE_STOPPED] t) ∧
     (s.turn.toNat % 16 ≠ 0 ∨ s.fltPinAny = true ∨ s.pwr.starting = true ∨ s.pwr.off = true ∨ s.pwr.clkLost = true ∨
         (3, 2) ∈ s.worked → exec (.aliveToggle fc) s = .next (s.at fc)))) ∧
  (∀ (s : State) (fc checker : Nat) (two : Bool) (index : Nat), checker < 8 → index < 256 →
     let ok := s.armState && !s.flag F.FLT_INJECT_ARMED && decide (checker < 6) && s.injectIndexOk checker index
     (ok = false → ∃ t, exec (.fltInjectArm fc checker two index) s = .next t ∧
       t.get F.FLT_INJ_COUNT_REFUSED = satAdd 65535 (s.get F.FLT_INJ_COUNT_REFUSED) 1 ∧ s.wrote fc [F.FLT_INJ_COUNT_REFUSED] t) ∧
     (ok = true → ∃ t, exec (.fltInjectArm fc checker two index) s = .next t ∧ t.flag F.FLT_INJECT_ARMED = true ∧
       t.get F.FLT_INJECT_CHECKER = checker ∧ t.flag F.FLT_INJECT_BITS = two ∧ t.get F.FLT_INJECT_INDEX = index ∧
       s.wrote fc [F.FLT_INJECT_CHECKER, F.FLT_INJECT_BITS, F.FLT_INJECT_INDEX, F.FLT_INJECT_ARMED] t) ∧
     (∀ bank < 32, ∀ port < nFportOf s.variant,
       (s.flag F.FLT_INJECT_ARMED = false → exec (.injectedError fc ⟨bank, port⟩) s = .next (s.at fc)) ∧
       (s.flag F.FLT_INJECT_ARMED = true → s.get F.FLT_INJECT_CHECKER ∈ [0, 3, 4] → s.pwr.off = false → ∃ t, exec (.injectedError fc ⟨bank, port⟩) s = .next t ∧
         t.flag F.FLT_INJECT_ARMED = false ∧ t.get F.FLT_INJ_COUNT_INJECTED = satAdd 65535 (s.get F.FLT_INJ_COUNT_INJECTED) 1 ∧
         (s.get F.FLT_INJECT_CHECKER = 4 → s.flag F.FLT_INJECT_BITS = false → s.bankRetired bank = false →
           t.get F.LOG_ECC_COUNT_CORRECTED = satAdd 65535 (s.get F.LOG_ECC_COUNT_CORRECTED) 1))))

/-! ### The Chuck -/

/-- TOKEN_VERDICT on a record submitted by the host or from the flash (R336, R337, R340): the first check that fails gives the reason, and
nothing is stored; an accepted consent is stored under the lowest free index with the present Turn; a withdrawal goes on to burn. Each step
of a withdrawal burns one bit of C (R340); at V every token of a lower VERSION is erased, and CHZ withdrawal is signalled. TOKEN_RELEASE
erases the token of the index, unless the Active or Shadow Plan lists its digest: then it is refused and counted (R337). -/
def Obligations.TokensAreCheckedStoredAndWithdrawn : Prop :=
  (∀ (s : State) (fc : Nat) (b : List Byte) (d : Option DescKey) (rest : List SecOp),
     s.sec.ops = .token b d none :: rest → s.sec.burning = none →
     (s.tokenReason b ≠ 0 → ∃ t, exec (.tokenVerdict fc) s = .next t ∧ t.get F.SEC_LAST_VERDICT_REASON = s.tokenReason b ∧
       t.get F.SEC_LAST_VERDICT_OPERATION = 0 ∧ t.get F.SEC_TOKENS_REJECTS = satAdd 255 (s.get F.SEC_TOKENS_REJECTS) 1 ∧
       t.flag F.SEC_IRQ_VERDICT = true ∧ t.sec = { s.sec with ops := rest, gone := t.sec.gone } ∧
       s.sameRegsBut (F.SEC_TOKENS_REJECTS :: verdictFields ++ reportFields) t) ∧
     (s.tokenReason b = 0 → byteAt b 5 ≠ 2 → (∀ u ∈ s.sec.tokens, u.digest ≠ tokenDigest b) →
       ∃ t, exec (.tokenVerdict fc) s = .next t ∧ t.get F.SEC_LAST_VERDICT_REASON = 0 ∧ t.get F.SEC_LAST_VERDICT_OPERATION = 0 ∧
         t.get F.SEC_TOKENS_ACCEPTS = satAdd 255 (s.get F.SEC_TOKENS_ACCEPTS) 1 ∧
         t.sec = { s.sec with ops := rest,
                              tokens := s.sec.tokens ++ [tokenOf b (freeIndex s.sec.tokens) (if d.isSome then s.turn else 0)] } ∧
         s.sameRegsBut (F.SEC_TOKENS_ACCEPTS :: verdictFields ++ reportFields) t) ∧
     (s.tokenReason b = 0 → byteAt b 5 = 2 → exec (.tokenVerdict fc) s =
       .next { s.at fc with sec := { s.sec with burning := some (leAt b 12 2) } })) ∧
  (∀ (s : State) (fc v : Nat) (b : List Byte) (d : Option DescKey) (rest : List SecOp),
     s.sec.ops = .token b d none :: rest → s.sec.burning = some v →
     let c := min 1024 (s.sec.otp.counter + 1)
     (c < v → exec (.consentCounterStep fc) s =
       .next { s.at fc with sec := { s.sec with otp := { s.sec.otp with counter := c } } }) ∧
     (v ≤ c → ∃ t, exec (.consentCounterStep fc) s = .next t ∧ t.sec.otp = { s.sec.otp with counter := c } ∧
       t.sec.tokens = s.sec.tokens.filter (fun t => !(t.version < v)) ∧ t.sec.burning = none ∧ t.sec.ops = rest ∧
       35 ∈ t.flt.raised ∧ t.get F.SEC_LAST_VERDICT_REASON = 0 ∧ t.flag F.SEC_IRQ_WITHDRAW = true ∧
       t.get F.SEC_TOKENS_ACCEPTS = satAdd 255 (s.get F.SEC_TOKENS_ACCEPTS) 1 ∧
       s.sameRegsBut (F.SEC_TOKENS_ACCEPTS :: F.SEC_IRQ_WITHDRAW :: verdictFields ++ reportFields) t)) ∧
  (∀ (s : State) (fc index : Nat) (k : Token), index < 64 → s.sec.tokens.find? (fun t => t.index == index) = some k →
     let listed := s.active.consent.contains k.digest || s.shadow.consent.contains k.digest
     (listed = true → ∃ t, exec (.tokenRelease fc index) s = .next t ∧ t.get F.SEC_TOKEN_SEL_INDEX = index ∧
       t.get F.SEC_TOKENS_REJECTS = satAdd 255 (s.get F.SEC_TOKENS_REJECTS) 1 ∧ s.wrote fc [F.SEC_TOKEN_SEL_INDEX, F.SEC_TOKENS_REJECTS] t) ∧
     (listed = false → ∃ t, exec (.tokenRelease fc index) s = .next t ∧ t.get F.SEC_TOKEN_SEL_INDEX = index ∧
       s.sameRegsBut [F.SEC_TOKEN_SEL_INDEX] t ∧
       t = { s.at fc with regs := t.regs, fresh := t.fresh, sec := { s.sec with tokens := s.sec.tokens.filter (fun u => u.index != index) } }))

/-- Provisioning (R331 to R333): GO takes the record in SEC_PROV_DATA unless one is being checked; the verdict refuses it with its reason, or
its commit begins; the commit adds one row with its marker, and the key slot of a revocation loses its tokens. A command whose time has not
come, or whose condition does not hold, changes nothing: the model's convention (log entry 7). -/
def Obligations.ProvisioningAddsARow : Prop :=
  ∀ (s : State) (fc : Nat),
    (s.provBusy = true → exec (.provGo fc) s = .next (s.at fc)) ∧
    (s.provBusy = false → exec (.provGo fc) s = .next { s.at fc with sec := { s.sec with ops := s.sec.ops ++ [.prov s.provData] } }) ∧
    (∀ (b : List Byte) (rest : List SecOp), s.sec.ops = .prov b :: rest →
      (s.sec.committing = false → s.provReason b = 0 →
        exec (.provVerdict fc) s = .next { s.at fc with sec := { s.sec with committing := true } }) ∧
      (s.sec.committing = false → s.provReason b ≠ 0 → ∃ t, exec (.provVerdict fc) s = .next t ∧
        t.get F.SEC_PROV_CTRL_RESULT = s.provReason b ∧ t.get F.SEC_LAST_VERDICT_REASON = s.provReason b ∧
        t.get F.SEC_LAST_VERDICT_OPERATION = 1 ∧ t.sec = { s.sec with ops := rest } ∧
        s.sameRegsBut (F.SEC_PROV_CTRL_RESULT :: verdictFields ++ reportFields) t) ∧
      (s.sec.committing = true → ∃ t, exec (.otpRowCommit fc) s = .next t ∧
        t.sec.otp = { s.sec.otp with rows := s.sec.otp.rows ++ [⟨true, byteAt b 5, byteAt b 6, (b.drop 32).take 32⟩] } ∧
        t.sec.committing = false ∧ t.sec.ops = rest ∧ t.get F.SEC_PROV_CTRL_RESULT = 0 ∧ t.get F.SEC_LAST_VERDICT_REASON = 0 ∧
        (byteAt b 5 = 3 → t.sec.tokens = s.sec.tokens.filter (fun t => t.keySlot != byteAt b 6)) ∧
        (byteAt b 5 = 5 → t.sec.tokens = [] ∧ t.sec.challenge = none ∧ t.sec.session = none)))

/-- Debug unlock (R343, R344, R348): GET_CHALLENGE gives a fresh challenge, or fails with its reason; a response ends the challenge, and opens a
session or counts a failure, the fourth in a row blocking unlocking; END_SESSION ends both. A challenge lives 16,777,216 Turns, a session
DURATION units of 65,536 Turns (R343, R348); a JTAG instruction outside the cells that allow it runs as BYPASS and is recorded (R346). A
command whose time has not come, or whose condition does not hold, changes nothing: the model's convention (log entry 7). -/
def Obligations.DebugUnlockAndSessions : Prop :=
  ((∀ (s : State) (fc : Nat) (d : Desc), s.offers Op.debugUnlock d → s.takesCpl d.cq →
     (dStep d.body = 0 → s.challengeReason ≠ 0 → ∃ t, exec (.getChallenge fc d.sq d.idx) s = .next t ∧
       s.completed fc d 3 0x14 0 s.challengeReason t ∧ (s.started fc d.key).told [] t) ∧
     (dStep d.body = 0 → s.challengeReason = 0 → ∀ u, s.hif.cur = some u → s.noSpentLog → ∃ t, exec (.getChallenge fc d.sq d.idx) s = .next t ∧
       t.sec = { s.sec with challenge := some ⟨Config.nonce s.sec.nonces, s.turn⟩, nonces := s.sec.nonces + 1 } ∧
       t.regs = s.regs ∧ t.hif.xfers = s.hif.xfers ++
         [d.readyXfer (.bytes (s.challengeBytes ⟨Config.nonce s.sec.nonces, s.turn⟩)) (dUnlockAddr d.body) 64]) ∧
     (dStep d.body = 2 → s.hif.cur.isSome = true ∨ s.sec.session = none → ∃ t, exec (.endSession fc d.sq d.idx) s = .next t ∧
       t.sec.challenge = none ∧ t.sec.session = none ∧ t.sec.tokens = s.sec.tokens ∧ s.completed fc d 1 0 0 0 t)) ∧
   (∀ (s : State) (fc : Nat) (b : List Byte) (d : Option DescKey) (rest : List SecOp), s.sec.ops = .respond b d :: rest →
     (s.respondReason b = 0 → ∃ t, exec (.respondVerdict fc) s = .next t ∧ t.get F.SEC_DEBUG_AUTH_FAILS = 0 ∧
       t.get F.SEC_LAST_VERDICT_REASON = 0 ∧ t.get F.SEC_LAST_VERDICT_OPERATION = 2 ∧
       t.sec = { s.sec with ops := rest, challenge := none, session := some (leAt b 6 2, s.turn, leAt b 48 2) } ∧
       s.sameRegsBut (F.SEC_DEBUG_AUTH_FAILS :: verdictFields ++ reportFields) t) ∧
     (s.respondReason b ≠ 0 → ∃ t, exec (.respondVerdict fc) s = .next t ∧
       t.get F.SEC_DEBUG_AUTH_FAILS = min 4 (s.get F.SEC_DEBUG_AUTH_FAILS + 1) ∧ t.get F.SEC_LAST_VERDICT_REASON = s.respondReason b ∧
       t.get F.SEC_LAST_VERDICT_OPERATION = 2 ∧
       (3 ≤ s.get F.SEC_DEBUG_AUTH_FAILS → t.flag F.SEC_STATUS_UNLOCK_BLOCKED = true) ∧
       t.sec = { s.sec with ops := rest, challenge := none } ∧
       s.sameRegsBut (F.SEC_DEBUG_AUTH_FAILS :: F.SEC_STATUS_UNLOCK_BLOCKED :: verdictFields ++ reportFields) t))) ∧
  (∀ (s : State) (fc : Nat),
     (∀ c, s.sec.challenge = some c →
       (16777216 ≤ turnsSince s.turn c.turn → exec (.challengeExpiry fc) s =
         .next { s.at fc with sec := { s.sec with challenge := none } }) ∧
       (turnsSince s.turn c.turn < 16777216 → exec (.challengeExpiry fc) s = .next (s.at fc))) ∧
     (∀ g t0 n, s.sec.session = some (g, t0, n) →
       (65536 * n ≤ turnsSince s.turn t0 → ∃ t, exec (.sessionExpiry fc) s = .next t ∧ t.sec.session = none ∧ t.sec.challenge = none ∧
         t.sec.tokens = s.sec.tokens ∧ t.flag F.SEC_IRQ_SESSION_END = true ∧ t.flag F.CTL_STATUS_HALTED = false) ∧
       (turnsSince s.turn t0 < 65536 * n → exec (.sessionExpiry fc) s = .next (s.at fc))) ∧
     (∀ k code,
       (s.jtagAllowed k = true → s.pwr.off = false → exec (.jtagInstruction fc k code) s = .next { s.at fc with sec := { s.sec with jtag := k } }) ∧
       (s.jtagAllowed k = false → s.pwr.off = false → exec (.jtagInstruction fc k code) s =
         .next { s.at fc with sec := { s.sec with jtag := .bypass },
                              evOut := s.evOut ++ [⟨0xC3, 2, 0, leBytes code 1⟩] })))

/-- Tamper (R350): an enabled sensor latches it, erases every token, ends challenge and session, signals SEC_TAMPER, live while it lasts, and is
a cause of SAFE; a sensor that is not enabled changes nothing. The self-test ends the start-up: it passed or failed, and the module is in
STANDBY (R312, R329, R349, R360); a calibration set authenticated with it is kept. A command whose time has not come, or whose condition
does not hold, changes nothing: the model's convention (log entry 7). -/
def Obligations.TamperAndSelfTest : Prop :=
  (∀ (s : State) (fc : Nat) (mesh rail osc : Bool),
     let me := mesh && s.flag F.SEC_CFG_MESH_EN
     let ra := rail && s.flag F.SEC_CFG_GLITCH_EN
     let os := osc && s.flag F.SEC_CFG_GLITCH_EN
     ((me || ra || os) = false → exec (.secTamper fc mesh rail osc) s = .next (s.at fc)) ∧
     ((me || ra || os) = true → s.pwr.off = false → ∃ t, exec (.secTamper fc mesh rail osc) s = .next t ∧ t.flag F.SEC_TAMPER_MESH = me ∧
       t.flag F.SEC_TAMPER_RAIL = ra ∧ t.flag F.SEC_TAMPER_OSC = os ∧ t.get F.SEC_TAMPER_COUNT = satAdd 65535 (s.get F.SEC_TAMPER_COUNT) 1 ∧
       t.sec.tokens = [] ∧ t.sec.challenge = none ∧ t.sec.session = none ∧ t.flag F.SEC_STATUS_TAMPER_LATCHED = true ∧
       36 ∈ t.flt.raised ∧ t.isLive 36 = true ∧ bit t.pwr.safeDue 3 = true) ∧
     (∃ t, exec (.tamperEnd fc) s = .next t ∧ t.isLive 36 = false ∧ t.flag F.SEC_TAMPER_MESH = false ∧ t.flag F.SEC_TAMPER_RAIL = false ∧
       t.flag F.SEC_TAMPER_OSC = false ∧
       s.wrote fc [F.SEC_TAMPER_MESH, F.SEC_TAMPER_RAIL, F.SEC_TAMPER_OSC, F.FLT_LIVE_HI_LIVE] t)) ∧
  (∀ (s : State) (fc : Nat) (failed : Option Nat) (set : Option Factors), (∀ n, failed = some n → n < 5) →
     (s.pwr.starting = false → exec (.selfTestEnd fc failed set) s = .next (s.at fc)) ∧
     (s.pwr.starting = true → ∃ t, exec (.selfTestEnd fc failed set) s = .next t ∧ t.pwr.starting = false ∧ t.pstate = 1 ∧
       t.get F.SEC_STATUS_SELF_TEST = (if failed = none then 1 else 2) ∧ t.sec.torn = [] ∧
       (failed = none → ∀ f, set = some f → t.cva.sealedSet = some f ∧ t.get F.SEC_STATUS_SEALED_CAL = 1)))

/-! ### Converters, captures and the sample fabric -/

/-- CAL_RUN and SLOT_GAIN (R46, R51, R207): refused with the cause the spec names, or staged for their boundary. A set-point within the Plan's
limits for a loop in use waits for its boundary; outside them, or for a loop not in use, the descriptor fails with its cause (R211, R205).
STATE_REQUEST (R210, R355): refused WRONG_STATE from OFF, for SAFE from STANDBY, and where STANDBY may not be left; done at once in the
state asked for; else it waits for its boundary, and leaving STANDBY starts both synthesisers. -/
def Obligations.StagedDescriptorsAndStateRequests : Prop :=
  (∀ (s : State) (fc : Nat) (d : Desc),
     let k : DescKey := d.key
     let u := s.started fc k
     let due := if fc % 3072 < 2816 then s.turn + 1 else s.turn + 2
     let waits := s.staged.any (fun e => match e.eff with | .calRun _ _ _ _ => true | _ => false)
     (s.offers Op.calRun d →
       (s.running = true → s.cva.cal = none → waits = false → exec (.calRun fc d.sq d.idx) s =
         .next { u with staged := s.staged ++ [⟨k, due, .calRun (dCode d.body) (dAdcMask d.body) (dDacMask d.body) (dSynthMask d.body)⟩] }) ∧
       (s.takesCpl d.cq → s.running = false → ∃ t, exec (.calRun fc d.sq d.idx) s = .next t ∧ s.completed fc d 3 3 0 s.pstate t ∧ u.told [] t) ∧
       (s.takesCpl d.cq → s.running = true → s.cva.cal.isSome = true ∨ waits = true →
         ∃ t, exec (.calRun fc d.sq d.idx) s = .next t ∧ s.completed fc d 3 8 0 0 t ∧ u.told [] t)) ∧
     (s.offers Op.slotGain d →
       (s.slotOn (dSlot d.body) = true → s.actB (F.CTL_LVL_CFG_LVL_EN (dSlot d.body)) = false → exec (.slotGain fc d.sq d.idx) s =
         .next { u with fab := { s.fab with gains := s.fab.gains ++ [⟨k, dSlot d.body, dGain d.body, due⟩] } }) ∧
       (s.takesCpl d.cq → s.slotOn (dSlot d.body) = false → ∃ t, exec (.slotGain fc d.sq d.idx) s = .next t ∧
         s.completed fc d 3 3 0 s.pstate t ∧ u.told [] t) ∧
       (s.takesCpl d.cq → s.slotOn (dSlot d.body) = true → s.actB (F.CTL_LVL_CFG_LVL_EN (dSlot d.body)) = true →
         ∃ t, exec (.slotGain fc d.sq d.idx) s = .next t ∧ s.completed fc d 3 4 0 0 t ∧ u.told [] t))) ∧
  (∀ (s : State) (fc : Nat) (d : Desc), s.offers Op.supplySetpoint d →
     let n := dLoop d.body
     let v := dSetpoint d.body
     let u := s.started fc d.key
     let inside := s.act (F.CTL_LOOP_SP_LIM_SP_MIN n) ≤ v ∧ v ≤ s.act (F.CTL_LOOP_SP_LIM_SP_MAX n)
     (s.loopOn n = true → inside → exec (.supplySetpoint fc d.sq d.idx) s = .next { u with
       staged := s.staged ++ [⟨d.key, if fc % 3072 < 2816 then s.turn + 1 else s.turn + 2, .setpoint n v⟩] }) ∧
     (s.takesCpl d.cq → s.loopOn n = false ∨ ¬ inside → ∃ t, exec (.supplySetpoint fc d.sq d.idx) s = .next t ∧
       s.completed fc d 3 (if s.loopOn n then 0x15 else 0x16) 0 0 t ∧ u.told [] t)) ∧
  (∀ (s : State) (fc : Nat) (d : Desc), s.offers Op.stateRequest d → s.autoStart = false → s.pwr.req = none →
     let k : DescKey := d.key
     let u := s.started fc k
     let goal := dState d.body
     (s.takesCpl d.cq → s.pstate = 0 ∨ s.pwr.off = true ∨ (s.pstate = 1 ∧ goal = 4) ∨
         (s.pstate = 1 ∧ (goal = 2 ∨ goal = 3) ∧ s.mayLeave = false) →
       ∃ t, exec (.stateRequest fc d.sq d.idx) s = .next t ∧ s.completed fc d 3 3 0 s.pstate t ∧ u.told [] t) ∧
     (s.takesCpl d.cq → s.pwr.off = false → s.pstate ≠ 0 → goal = s.pstate → s.pwr.leaving = false →
       ∃ t, exec (.stateRequest fc d.sq d.idx) s = .next t ∧ s.completed fc d 1 0 s.pstate 0 t ∧ u.told [] t) ∧
     (s.pwr.off = false → 2 ≤ s.pstate → goal ≠ s.pstate → s.cva.cal = none ∨ goal ≠ 1 →
       exec (.stateRequest fc d.sq d.idx) s = .next { u with pwr := { s.pwr with req := some ⟨goal, some k⟩ } }) ∧
     (s.pwr.off = false → s.pstate = 1 → goal = 2 ∨ goal = 3 → s.mayLeave = true → s.pwr.leaving = false →
       ∃ t, exec (.stateRequest fc d.sq d.idx) s = .next t ∧ t.pwr = { s.pwr with req := some ⟨goal, some k⟩, leaving := true } ∧
         ∀ w < 2, s.dieDown w = false → t.synth w = 1))

/-- CAPTURE (R77 to R80): raw converter records where Table 14.9 does not allow them fail NOT_ALLOWED; too little room fails with the room
needed; busy engines fail BUSY; else the lowest free engine is armed and its records become a transfer. A capture engine (R79): IMMEDIATE
triggers at the first boundary after it is armed, TURN at the boundary of its Turn, or at the first one with LATE when that is past; its
recording ends with all its records, or truncated where its share of the link overruns; with no trigger by its timeout it fails NO_TRIGGER
and is free. A command whose time has not come, or whose condition does not hold, changes nothing: the model's convention (log entry 7). -/
def Obligations.CapturesArmTriggerAndEnd : Prop :=
  (∀ (s : State) (fc : Nat) (d : Desc), s.offers Op.capture d →
     let p := dPoint d.body
     let raw := p / 4096 = 0 ∧ bits p 0 8 < nAdcOf s.variant ∧ s.rawOk = false
     let need := 64 + dRecords d.body * (if p / 4096 = 0 then 48 else 128)
     let u := s.started fc d.key
     (s.takesCpl d.cq → raw → ∃ t, exec (.capture fc d.sq d.idx) s = .next t ∧ s.completed fc d 3 0x11 0 0 t ∧ u.told [] t) ∧
     (s.takesCpl d.cq → ¬raw → dLen d.body < need →
       ∃ t, exec (.capture fc d.sq d.idx) s = .next t ∧ s.completed fc d 3 0x12 0 need t ∧ u.told [] t) ∧
     (s.takesCpl d.cq → ¬raw → need ≤ dLen d.body → s.hif.captures ≠ [] → p / 4096 = 0 →
       ∃ t, exec (.capture fc d.sq d.idx) s = .next t ∧ s.completed fc d 3 0x0E 0 0 t ∧ u.told [] t) ∧
     (¬raw → need ≤ dLen d.body → s.hif.captures = [] → s.hif.cur.isSome = true → s.noSpentLog →
       exec (.capture fc d.sq d.idx) s = .next { u with hif := { u.hif with
         captures := [{ engine := 0, sq := d.sq, order := d.order, addr := dAddr d.body, point := p, kind := dTrigger d.body,
                        trigTurn := dTrigTurn d.body, want := dRecords d.body, pre := dPre d.body, timeout := dTimeout d.body,
                        armed := s.turn, from_ := none, trig := none, recs := [], before := 0, part := [], upto := 0,
                        ended := false, truncated := false, late := false }],
         xfers := s.hif.xfers ++ [d.readyXfer (.capture 0) (dAddr d.body) need] } })) ∧
  (∀ (s : State) (fc e : Nat) (st : Stream) (c : Capture), e < nCapOf s.variant → s.findCapture e = some c →
     let first := fc % 3072 = 0 ∧ c.from_ = some (3072 * s.ticks)
     let past := laterThan c.trigTurn c.armed = false
     let met := (c.kind = 0 ∧ first) ∨ (c.kind = 1 ∧ past ∧ first) ∨ (c.kind = 1 ∧ ¬past ∧ fc % 3072 = 0 ∧ s.turn = c.trigTurn)
     let now := (s.at fc).recordTo st (fc % 3072 + 1) c
     (c.kind ≤ 1 → c.trig = none → c.ended = false → c.from_.isSome = true → met →
       ∃ t c', exec (.captureTrigger fc ⟨e, st⟩) s = .next t ∧ t.findCapture e = some c' ∧ c'.trig = some (s.turn, 0) ∧
         (c'.late = true ↔ c.kind = 1 ∧ past) ∧ c'.before = c'.recs.length ∧
         t = { s.at fc with hif := { s.hif with captures := t.hif.captures } }) ∧
     (c.kind ≤ 1 → c.trig.isSome = true ∨ c.ended = true ∨ c.from_ = none ∨ ¬met →
       exec (.captureTrigger fc ⟨e, st⟩) s = .next (s.at fc)) ∧
     (c.trig.isSome = true → c.ended = false → s.hif.cur.isSome = true → s.noSpentLog →
       (now.recs.length < c.want → exec (.captureRecordingEnd fc e ⟨st.adcs, st.tiles⟩ st.slots) s = .next (s.at fc)) ∧
       (c.want ≤ now.recs.length → ∃ t, exec (.captureRecordingEnd fc e ⟨st.adcs, st.tiles⟩ st.slots) s = .next t ∧
         t.findCapture e = some { now with ended := true } ∧ t = { s.at fc with hif := { s.hif with captures := t.hif.captures } }) ∧
       (c.full = true ∨ s.undrained now ≤ shareBlocks → exec (.captureShareOverrun fc e ⟨st.adcs, st.tiles⟩ st.slots) s = .next (s.at fc)) ∧
       (c.full = false → shareBlocks < s.undrained now → ∃ t, exec (.captureShareOverrun fc e ⟨st.adcs, st.tiles⟩ st.slots) s = .next t ∧
         t.findCapture e = some { now with recs := now.recs.take (now.recs.length + shareBlocks - s.undrained now),
                                           ended := true, truncated := true } ∧
         t = { s.at fc with hif := { s.hif with captures := t.hif.captures } })) ∧
     (c.trig = none → turnsSince s.turn c.armed < c.timeout → exec (.noTrigger fc e) s = .next (s.at fc)) ∧
     (c.trig = none → c.timeout ≤ turnsSince s.turn c.armed → ∀ d, s.findDesc (c.sq, c.order) = some d → s.takesCpl d.cq →
       ∃ t, exec (.noTrigger fc e) s = .next t ∧ t.findCapture e = none ∧ s.completed fc d 3 0x0F 0 0 t))

/-- A synthesiser that acquires locks, unless its die is down or the reference is lost (R43); while STANDBY is left, LISTEN follows at the next
boundary once both are LOCKED (R355). A lock lost is counted and signalled, and the synthesiser acquires again (R44). 150 μs without lock
end an attempt (R43): a calibration of the VCO follows the first two, the third leaves the synthesiser UNLOCKED and the state change that
waited for it fails. A command whose time has not come, or whose condition does not hold, changes nothing: the model's convention (log entry
7). -/
def Obligations.SynthesisersLockLoseAndTimeOut : Prop :=
  (∀ (s : State) (fc w : Nat), w < 2 →
     (s.synth w = 1 → s.dieDown w = false → s.pwr.clkLost = false → s.pwr.leaving = false →
       ∃ t, exec (.synthLocked fc w) s = .next t ∧ t.synth w = 2 ∧ t.flag (F.CVA_SYNTH_STATUS_LOCKED w) = true ∧ t.isLive (1 + w) = false ∧
         t.pwr.next = s.pwr.next) ∧
     (s.synth w = 1 → s.dieDown w = false → s.pwr.clkLost = false → s.pwr.leaving = true → s.pstate = 1 → s.synth (1 - w) = 2 →
       fc % 3072 ≠ 0 → ∃ t, exec (.synthLocked fc w) s = .next t ∧ t.synth w = 2 ∧ t.pwr.next = some (2, 0xFF)) ∧
     (s.synth w ≠ 1 ∨ s.dieDown w = true ∨ s.pwr.clkLost = true → exec (.synthLocked fc w) s = .next (s.at fc)) ∧
     (s.synth w = 2 → s.cva.cal = none → ∃ t, exec (.synthLockLoss fc w) s = .next t ∧ t.synth w = 1 ∧
       t.flag (F.CVA_SYNTH_STATUS_LOCKED w) = false ∧ 1 + w ∈ t.flt.raised ∧ t.isLive (1 + w) = true ∧
       t.get (F.CVA_SYNTH_STATUS_LOCK_LOSS_COUNT w) = satAdd 255 (s.get (F.CVA_SYNTH_STATUS_LOCK_LOSS_COUNT w)) 1) ∧
     (s.synth w ≠ 2 → exec (.synthLockLoss fc w) s = .next (s.at fc))) ∧
  (∀ (s : State) (fc w : Nat), w < 2 →
     let early := turnsSince s.turn (s.synthX w).lockedAt < 75
     let n := s.get (F.CVA_SYNTH_STATUS_ATTEMPT w)
     (s.synth w ≠ 1 ∨ early → exec (.synthLockTimeout fc w) s = .next (s.at fc)) ∧
     (s.synth w = 1 → ¬early → s.dieDown w = false → s.pwr.clkLost = false →
       (n < 2 → ∃ t, exec (.synthLockTimeout fc w) s = .next t ∧ t.synth w = 4 ∧ t.get (F.CVA_SYNTH_STATUS_ATTEMPT w) = n + 1 ∧
         s.sameRegsBut [F.CVA_SYNTH_STATUS_ATTEMPT w, synthField w, F.CVA_SYNTH_STATUS_LOCKED w, F.FLT_LIVE_LO_LIVE, F.FAB_STATUS_SLIP_LIVE] t ∧
         t = { s.at fc with regs := t.regs, fresh := t.fresh, cva := { s.cva with zeros := t.cva.zeros, badAt := t.cva.badAt } }) ∧
       (n = 2 → s.pwr.leaving = true → (s.synthX w).lost = false →
         ∃ t, exec (.synthLockTimeout fc w) s = .next t ∧ t.synth w = 3 ∧ t.synth (1 - w) = 0 ∧ 1 + w ∈ t.flt.raised ∧
           t.pwr.leaving = false ∧ t.pwr.req = none)))

/-- CAL_END (R47, R50): every ADC in scope passes or is marked failed with its kind, those of a die for whose synthesiser OSC found no band with
that kind; the outcome is recorded; the new factors wait for the boundary; any failure signals CVA_CAL_FAIL. Background tracking commits an
ADC's factors at a boundary, at most once every 256 Turns, while the ADC is in service and its words are clean, and moves each by no more
than 1/16 of its calibrated value (R52); converters settle 16 Turns after a swap enabled them (R187), and at a boundary a DAC is muted
exactly where a cause is present (R42). A command whose time has not come, or whose condition does not hold, changes nothing: the model's
convention (log entry 7). -/
def Obligations.CalibrationEndsTrackingAndSettling : Prop :=
  (∀ (s : State) (fc : Nat) (new : Factors) (found : CalFails),
     (s.cva.cal = none → exec (.calEnd fc new found) s = .next (s.at fc)) ∧
     (∀ c, s.cva.cal = some c → c.ended = none →
       let fails : CalFails := { found with osc := s.oscFails c found }
       ∃ t, exec (.calEnd fc new found) s = .next t ∧
         t.cva.cal = some { c with ended := some (new, fails) } ∧ t.cva.store = s.cva.store ∧
         t.get F.CVA_CAL_LAST_LAST_KIND = c.code % 16 ∧ t.get F.CVA_CAL_LAST_LAST_OUTCOME = (if s.calFails fails c then 2 else 1) ∧
         (s.calFails fails c = true → 3 ∈ t.flt.raised) ∧
         (∀ n < nAdcOf s.variant, ∀ k, failKind fails c s.variant n = some k →
           t.getBit F.CVA_ADC_FAIL_ADC_FAIL n = true ∧ t.get (F.CVA_ADC_STATUS_FAIL_KIND n) = k % 16) ∧
         (∀ n < nAdcOf s.variant, c.hasAdc s.variant n = false →
           t.getBit F.CVA_ADC_FAIL_ADC_FAIL n = s.getBit F.CVA_ADC_FAIL_ADC_FAIL n))) ∧
  (∀ (s : State) (fc : Nat),
     (∀ adc img il, adc < nAdcOf s.variant → img < 256 →
       let recent := ∃ e, s.cva.tracked.find? (fun e => e.1 == adc) = some e ∧ turnsSince s.turn (BitVec.ofNat 48 e.2) < 256
       let dirty := (s.at fc).adcDirty adc (s.at fc).now
       (fc % 3072 = 0 → s.flag F.CVA_CAL_CTRL_TRACK_EN = true → s.adcInService adc = true → dirty = false → ¬recent →
         ∃ t, exec (.trackUpdate fc adc ⟨img, il⟩) s = .next t ∧
           t.get (F.CVA_ADC_CAL_IMG_DBC adc) = img ∧ s.sameRegsBut [F.CVA_ADC_CAL_IMG_DBC adc] t ∧
           (∀ f, s.cva.store = some f → ∃ g, t.cva.store = some { f with img := f.img.set adc img, il := g } ∧
             (∀ n, n ≠ adc → g.getD n [] = f.il.getD n []) ∧
             ∀ i, ((g.getD adc []).getD i 0 - (f.il.getD adc []).getD i 0).natAbs ≤ ((s.cva.ilCal.getD adc []).getD i 0).natAbs / 16) ∧
           (s.cva.store = none → t.cva.store = none) ∧
           t = { s.at fc with regs := t.regs, fresh := t.fresh, cva := { s.cva with store := t.cva.store, tracked := t.cva.tracked } }) ∧
       (fc % 3072 ≠ 0 ∨ s.flag F.CVA_CAL_CTRL_TRACK_EN = false ∨ s.adcInService adc = false ∨ dirty = true ∨ recent →
         exec (.trackUpdate fc adc ⟨img, il⟩) s = .next (s.at fc))) ∧
     (fc % 3072 ≠ 0 → exec (.converterEnableSettle fc) s = .next (s.at fc)) ∧
     (fc % 3072 = 0 → s.pwr.off = false → ∃ t, exec (.converterEnableSettle fc) s = .next t ∧
       t.cva = { s.cva with settle := s.cva.settle.filter (fun e => turnsSince s.turn (BitVec.ofNat 48 e.2) < 16), muteAt := t.cva.muteAt } ∧
       (∀ n < nDacOf s.variant, t.dacMuted n = (t.dacCauses n).any id) ∧
       t = { s.at fc with regs := t.regs, fresh := t.fresh, cva := t.cva }))

/-- A dovetail whose fill leaves its span of 4 fc slips, and words whose stamps differ where they meet are a merge difference: each is shown,
counted, signalled once until it is over, and makes the words it concerns dirty (R61, R62). Errors of the fabric (R25, R63, R74, R75): a
single-bit error is corrected and counted; an uncorrectable one is counted and signalled, and makes its word zeros and dirty; a sideband
whose parity fails makes its word dirty; the second uncorrectable error of a tile within 256 Turns fails it. A coefficient's parity mutes
its slot, with cause REPAIR, and a failing tile is retired and its slot muted at once. A migration (R75, Table 3.5): the lowest free spare
is chosen at the boundary after the failure, and carries the slot's output from the sixth on. A filter that has run its length is full
(R73). A command whose time has not come, or whose condition does not hold, changes nothing: the model's convention (log entry 7). -/
def Obligations.FabricErrorsMuteRetireAndMigrate : Prop :=
  (∀ (s : State) (fc : Nat),
     (∀ d < 4, ∀ offset : Int,
       (d ∈ s.fab.slipped ∨ offset.natAbs ≤ 4 → exec (.dovetailSlip fc ⟨d, offset⟩) s = .next (s.at fc)) ∧
       (d ∉ s.fab.slipped → 4 < offset.natAbs → s.pwr.off = false → ∃ t, exec (.dovetailSlip fc ⟨d, offset⟩) s = .next t ∧ t.getBit F.FAB_SLIP_SLIPPED d = true ∧
         t.getBit F.FAB_STATUS_SLIP_LIVE d = true ∧ t.isLive 7 = true ∧
         t.get F.FAB_SLIP_SLIP_COUNT = satAdd 65535 (s.get F.FAB_SLIP_SLIP_COUNT) 1 ∧ (d < 2 → ∃ e ∈ t.cva.badAt, e.1 = d) ∧
         s.sameRegsBut [F.FAB_SLIP_SLIPPED, F.FAB_SLIP_SLIP_COUNT, F.FAB_STATUS_SLIP_LIVE, F.FLT_LIVE_LO_LIVE] t ∧
         t = { s.at fc with regs := t.regs, fresh := t.fresh, flt := { s.flt with raised := s.flt.raised ++ [7] },
                            fab := { s.fab with slipped := s.fab.slipped ++ [d] }, cva := { s.cva with badAt := t.cva.badAt } })) ∧
     (∀ p sides, wellFormed s.variant (.mergeMismatch fc ⟨p, sides⟩) = true →
       (p ∈ s.fab.mergeNow ∨ stampsEqual sides = true → exec (.mergeMismatch fc ⟨p, sides⟩) s = .next (s.at fc)) ∧
       (p ∉ s.fab.mergeNow → stampsEqual sides = false → s.pwr.off = false → ∃ t, exec (.mergeMismatch fc ⟨p, sides⟩) s = .next t ∧
         t.flag F.FAB_SLIP_MERGE = true ∧ t.isLive 7 = true ∧
         t.get F.FAB_SLIP_SLIP_COUNT = satAdd 65535 (s.get F.FAB_SLIP_SLIP_COUNT) 1 ∧
         s.sameRegsBut [F.FAB_SLIP_MERGE, F.FAB_SLIP_SLIP_COUNT, F.FAB_STATUS_SLIP_LIVE, F.FLT_LIVE_LO_LIVE] t ∧
         t = { s.at fc with regs := t.regs, fresh := t.fresh, flt := { s.flt with raised := s.flt.raised ++ [7] },
                            fab := { s.fab with mergeNow := s.fab.mergeNow ++ [p], mergeAt := s.fab.mergeAt ++ [(p, (s.at fc).now)],
                                                marks := if p < 128 then s.fab.marks ++ [(p, 16 * (s.at fc).now, 16 * 3072 * (s.ticks + 1), false)]
                                                  else s.fab.marks } }))) ∧
  (∀ (s : State) (fc : Nat), s.pwr.off = false →
     let now := (s.at fc).now
     let signalled (i : Nat) (t : State) : State := { t with flt := { s.flt with raised := s.flt.raised ++ [i] } }
     (∀ e, fabErrOk s.variant e = true → (∀ p side, e ≠ .sideband p side) →
       (∃ t, exec (.fabEcc fc e true) s = .next t ∧ t.get F.FAB_ECC_COUNT_CORRECTED = satAdd 65535 (s.get F.FAB_ECC_COUNT_CORRECTED) 1 ∧
         s.sameRegsBut [F.FAB_ECC_COUNT_CORRECTED] t ∧ t = signalled 5 { s.at fc with regs := t.regs, fresh := t.fresh }) ∧
       (∃ t, exec (.fabEcc fc e false) s = .next t ∧
         t.get F.FAB_ECC_COUNT_UNCORRECTED = satAdd 65535 (s.get F.FAB_ECC_COUNT_UNCORRECTED) 1 ∧ 5 ∈ t.flt.raised ∧
         (∀ p, e = .lane p → t.fab = { s.fab with badWords := s.fab.badWords ++ [(p, now, true)], marks := t.fab.marks } ∧
           (∀ sl ∈ s.slotsFrom p, (sl, 16 * now, 16 * now + 16 + s.spanLen sl, false) ∈ t.fab.marks) ∧
           s.sameRegsBut [F.FAB_ECC_COUNT_UNCORRECTED] t) ∧
         (∀ k, e = .tile k → (t.tileRetired k = true ↔ s.tileRetired k = true ∨
           s.fab.ecc.any (fun e => e.1 == k && turnsSince s.turn (BitVec.ofNat 48 e.2) < 256) = true)))) ∧
     (∀ p side single, fabErrOk s.variant (.sideband p side) = true →
       (sideGood side = true → exec (.fabEcc fc (.sideband p side) single) s = .next (s.at fc)) ∧
       (sideGood side = false → ∃ t, exec (.fabEcc fc (.sideband p side) single) s = .next t ∧ t.regs = s.regs ∧
         t = signalled 5 { s.at fc with fab := { s.fab with badWords := s.fab.badWords ++ [(p, now, false)], marks := t.fab.marks } })) ∧
     (∀ sl, slotIn s.variant sl = true →
       (s.coefTile sl = none → exec (.chzCoefParity fc sl) s = .next (signalled 8 (s.at fc))) ∧
       (s.coefTile sl ≠ none → s.slotOn sl = true → ∃ t,
         exec (.chzCoefParity fc sl) s = .next t ∧ t.flag (F.CHZ_SLOT_STATUS_M_REPAIR sl) = true ∧ t.flag (F.CHZ_SLOT_STATUS_MUTED sl) = true ∧
         t.isLive 8 = true ∧ s.sameRegsBut [F.CHZ_SLOT_STATUS_M_REPAIR sl, F.CHZ_SLOT_STATUS_MUTED sl, F.FLT_LIVE_LO_LIVE] t ∧
         t = signalled 8 { s.at fc with regs := t.regs, fresh := t.fresh,
                                        fab := { s.fab with coef := sparseInsert s.fab.coef sl 0, muteAt := t.fab.muteAt } })) ∧
     (∀ tile, tile < nTileOf s.variant →
       (s.tileRetired tile = true → exec (.fabTileFail fc tile) s = .next (s.at fc)) ∧
       (s.tileRetired tile = false → ∃ t, exec (.fabTileFail fc tile) s = .next t ∧ t.tileRetired tile = true ∧ 6 ∈ t.flt.raised ∧
         (∀ sl, s.slotOfTile tile = some sl → s.slotOn sl = true → t.flag (F.CHZ_SLOT_STATUS_M_REPAIR sl) = true ∧
           t.flag (F.CHZ_SLOT_STATUS_MUTED sl) = true) ∧
         t = signalled 6 { s.at fc with regs := t.regs, fresh := t.fresh, fab := t.fab }))) ∧
  ((∀ (s : State) (fc : Nat) (m : TileMig), slotIn s.variant m.slot = true → s.fab.migs = [m] →
     let age := turnsSince s.turn m.fail
     (m.spare = none → age ≠ 0 → ∀ sp rest, s.freeTiles = sp :: rest →
       ∃ t, exec (.spareMigrationStep fc []) s = .next t ∧ t.fab = { s.fab with migs := [{ m with spare := some sp }] }) ∧
     (∀ sp, m.spare = some sp → age < 5 → ∃ t, exec (.spareMigrationStep fc []) s = .next t ∧ t.fab = s.fab) ∧
     (∀ sp, m.spare = some sp → 6 ≤ age → m.bad = false → m.restart = false → ∃ t, exec (.spareMigrationStep fc []) s = .next t ∧
       t.tileOf m.slot = sp ∧ t.fab.migs = [] ∧ t.flag (F.CHZ_SLOT_STATUS_MIGRATED m.slot) = true)) ∧
   (∀ (s : State) (fc sl : Nat) (t0 : Nat), slotIn s.variant sl = true → s.fab.fill.find? (fun e => e.1 == sl) = some (sl, t0) →
     let passed := 3072 * turnsSince s.turn (BitVec.ofNat 48 t0) + fc % 3072
     (s.fillFc sl ≤ passed → ∃ t, exec (.fillEnd fc sl) s = .next t ∧ t.flag (F.CHZ_SLOT_STATUS_FILLING sl) = false ∧
       s.sameRegsBut [F.CHZ_SLOT_STATUS_FILLING sl] t ∧
       t = { s.at fc with regs := t.regs, fresh := t.fresh, fab := { s.fab with fill := sparseErase s.fab.fill sl } }) ∧
     (passed < s.fillFc sl → exec (.fillEnd fc sl) s = .next (s.at fc))))

/-! ### The Gouge and the Network Guard -/

/-- One adaptation step of a slot (R18, R23, R93 to R101): none after fc 2,047 or after an overrun, twice in a Turn, or while frozen; else every
tap moves by mu × g / (Pbar + delta), with g and Pbar summed over the valid samples of the Turn just ended, clamped to its 20 bits, is
staged for the boundary, and the taps in force stay; in TRACK C_REP rises by at most 0.5 dB and never above C_EST, C_EDGE and CANCEL_CAP; a
divergence takes C_REP to 0, drops the new taps, and is counted and signalled (R97, R104). A command whose time has not come, or whose
condition does not hold, changes nothing: the model's convention (log entry 7). -/
def Obligations.AnAdaptationStepStagesItsTaps : Prop :=
  ∀ (s : State) (fc sl : Nat), slotIn s.variant sl = true →
    let x := s.gg sl
    let n := s.nTaps sl
    let vs := s.validSamples sl
    let late := s.running = false ∨ s.blockHeld .gouge = true ∨ 2047 < fc % 3072 ∨ bit s.overran 1 = true ∨ s.worked.contains (1, sl) = true
    let moves := s.hasLane sl && !s.laneMoving sl && !s.spareless sl && !x.frozen && !s.gouge.hostFreeze.contains sl
    (late → exec (.gougeAdaptationStep fc [sl]) s = .next (s.at fc)) ∧
    (¬late → moves = false → exec (.gougeAdaptationStep fc [sl]) s = .next { s.at fc with worked := s.worked ++ [(1, sl)] }) ∧
    (¬late → moves = true → s.phase sl = 2 → vs ≠ [] → x.taps.length = n →
      let mu := s.act (F.GOUGE_SLOT_ADAPT_MU_PROBE sl)
      let power := vs.foldl (fun a v => a + powSum v.2) 0
      let g := addAll n (vs.map (fun v => v.2.map (fun r => cMul v.1.resid (cConj r))))
      let step (k : Nat) (v w : Int) : Int := tapStep mu n vs.length power (Config.roundUp (s.free + k + 1)) v w
      ∃ t h, exec (.gougeAdaptationStep fc [sl]) s = .next t ∧ (t.gg sl).staged = some h ∧ h.length = n ∧
        (∀ j < n, h.getD j (0, 0) = (step (2 * j) (x.taps.getD j (0, 0)).1 (g.getD j (0, 0)).1,
                                     step (2 * j + 1) (x.taps.getD j (0, 0)).2 (g.getD j (0, 0)).2)) ∧
        (t.gg sl).taps = x.taps ∧ t.phase sl = 2 ∧ t.get (F.GOUGE_SLOT_REPORT_C_REP sl) = 0 ∧
        t.get (F.GOUGE_SLOT_ESTIMATE_C_EDGE sl) = estimate (tapEnergy h) (edgeEnergy h) ∧ s.laneOnly fc sl t) ∧
    (¬late → moves = true → s.phase sl = 3 → vs ≠ [] →
      ∃ t, exec (.gougeAdaptationStep fc [sl]) s = .next t ∧ (t.gg sl).taps = x.taps ∧
        t.get (F.GOUGE_SLOT_REPORT_C_REP sl) ≤ s.get (F.GOUGE_SLOT_REPORT_C_REP sl) + 5 ∧
        t.get (F.GOUGE_SLOT_REPORT_C_REP sl) ≤ t.get (F.GOUGE_SLOT_ESTIMATE_C_EST sl) ∧
        t.get (F.GOUGE_SLOT_REPORT_C_REP sl) ≤ t.get (F.GOUGE_SLOT_ESTIMATE_C_EDGE sl) ∧
        t.get (F.GOUGE_SLOT_REPORT_C_REP sl) ≤ s.act (F.GOUGE_SLOT_LIMITS_CANCEL_CAP sl) ∧
        (x.diverged = false → (t.gg sl).diverged = true →
          t.get (F.GOUGE_SLOT_REPORT_C_REP sl) = 0 ∧ (t.gg sl).staged = none ∧ (t.gg sl).restore = true ∧ 9 ∈ t.flt.raised ∧
          t.get (F.GOUGE_SLOT_CKPT_DIV_COUNT sl) = satAdd 255 (s.get (F.GOUGE_SLOT_CKPT_DIV_COUNT sl)) 1 ∧
          t.get (F.GOUGE_SLOT_ESTIMATE_C_EST sl) = s.get (F.GOUGE_SLOT_ESTIMATE_C_EST sl)) ∧
        s.laneOnly fc sl t)

/-- A lane's phases (R89, R91, R92, R101, R103): a search peak of 12 dB gives the delay and goes on to PROBE, a probe phase of PROBE_MIN to
TRACK, and a phase that fails is counted; a due checkpoint copies the taps and the delay, unless an indicator has fired or C_EST has fallen
by more than 3 dB since the last. The host's controls of a lane (R2, R110): FREEZE is its bit; REPROBE waits for the boundary, and is
ignored for a slot with no allocation or in REPAIR; both are ignored for a slot the variant lacks. A command whose time has not come, or
whose condition does not hold, changes nothing: the model's convention (log entry 7). -/
def Obligations.LanesSearchProbeCheckpointAndObeyTheHost : Prop :=
  (∀ (s : State) (fc sl : Nat), slotIn s.variant sl = true →
     let x := s.gg sl
     (∀ lag peak iso, lag < 8192 →
       (s.phase sl ≠ 1 ∨ x.validTurns < 64 → exec (.delaySearchEnd fc sl lag peak iso) s = .next (s.at fc)) ∧
       (s.phase sl = 1 → 64 ≤ x.validTurns → 120 ≤ peak → ∃ t, exec (.delaySearchEnd fc sl lag peak iso) s = .next t ∧ t.phase sl = 2 ∧
         t.flag (F.GOUGE_SLOT_STATUS_VALID sl) = true ∧ s.laneOnly fc sl t ∧
         t.gg sl = { x with delay := lag - 32 * s.act (F.GOUGE_SLOT_ALLOC_PRE_TAPS sl), searchIso := some (min 1500 iso), wasValid := true })) ∧
     (let ends := s.phase sl = 2 ∧ s.act (F.GOUGE_SLOT_PROBE_PROBE_TURNS sl) ≤ x.validTurns
      let good := 10 * s.act F.GOUGE_CFG_PROBE_MIN ≤ s.get (F.GOUGE_SLOT_ESTIMATE_C_EST sl)
      (¬ends → exec (.probePhaseEnd fc sl) s = .next (s.at fc)) ∧
      (ends → good → ∃ t, exec (.probePhaseEnd fc sl) s = .next t ∧ t.phase sl = 3 ∧ t.flag (F.GOUGE_SLOT_STATUS_VALID sl) = true ∧
        t.flag (F.GRD_SLOT_STATUS_OSC_CAP sl) = false ∧ (t.gg sl).taps = x.taps ∧ s.laneOnly fc sl t) ∧
      (ends → ¬good → ∃ t, exec (.probePhaseEnd fc sl) s = .next t ∧ s.laneOnly fc sl t ∧
        t.get (F.GOUGE_SLOT_STATUS_PROBE_FAILS sl) = min 3 (s.get (F.GOUGE_SLOT_STATUS_PROBE_FAILS sl) + 1) ∧
        (s.get (F.GOUGE_SLOT_STATUS_PROBE_FAILS sl) < 2 → (t.gg sl).taps = zeroTaps (s.nTaps sl) ∧ (t.gg sl).searchIso = none) ∧
        (2 ≤ s.get (F.GOUGE_SLOT_STATUS_PROBE_FAILS sl) → t.phase sl = 3 ∧ t.flag (F.GOUGE_SLOT_STATUS_PROBE_FAILED sl) = true))) ∧
     (let copying := s.gouge.copyAt = some s.turn ∨ ∃ q, s.gouge.snap = some q ∧ laterThan s.turn q.2.2.2 = true
      let age := x.validTurns - x.ckptDue
      let due := s.phase sl = 3 ∧ s.ckptTurns ≤ age ∧ ¬copying ∧ 2048 ≤ fc % 3072
      let worse := s.flag (F.GOUGE_SLOT_CKPT_CKPT_VALID sl) = true ∧
        s.get (F.GOUGE_SLOT_ESTIMATE_C_EST sl) + 30 < s.get (F.GOUGE_SLOT_CKPT_CKPT_C sl)
      (¬due → exec (.checkpoint fc sl) s = .next (s.at fc)) ∧
      (due → x.indicator = true ∨ worse → ∃ t, exec (.checkpoint fc sl) s = .next t ∧ t.regs = s.regs ∧ s.laneOnly fc sl t ∧
        t.gg sl = { x with ckptDue := x.validTurns - age % s.ckptTurns }) ∧
      (due → x.indicator = false → ¬worse → ∃ t, exec (.checkpoint fc sl) s = .next t ∧
        t.gg sl = { x with ckptDue := x.validTurns - age % s.ckptTurns, ckptTaps := x.taps, ckptDelay := x.delay } ∧ s.laneOnly fc sl t ∧
        t.flag (F.GOUGE_SLOT_CKPT_CKPT_VALID sl) = true ∧
        t.get (F.GOUGE_SLOT_CKPT_CKPT_C sl) = s.get (F.GOUGE_SLOT_ESTIMATE_C_EST sl)))) ∧
  ((∀ (s : State) (fc sl : Nat), sl < 128 → slotIn s.variant sl = false →
     (∀ on, exec (.freeze fc sl on) s = .next (s.at fc)) ∧ (∀ zero, exec (.reprobe fc sl zero) s = .next (s.at fc))) ∧
   ∀ (s : State) (fc sl : Nat), slotIn s.variant sl = true →
     (∀ on, ∃ t, exec (.freeze fc sl on) s = .next t ∧ t.flag (F.GOUGE_SLOT_CTRL_FREEZE sl) = on ∧ s.wrote fc [F.GOUGE_SLOT_CTRL_FREEZE sl] t) ∧
     (∀ zero, (s.hasLane sl = false ∨ s.laneMoving sl = true → exec (.reprobe fc sl zero) s = .next (s.at fc)) ∧
       (s.hasLane sl = true → s.laneMoving sl = false → ∃ t, exec (.reprobe fc sl zero) s = .next t ∧
         t.gg sl = { s.gg sl with reprobe := some (zero, false) } ∧ t.regs = s.regs ∧ s.laneOnly fc sl t)))

/-- GOUGE_SNAPSHOT (R111, R112, R209): one at a time, refused where its buffer is too short; the taps in force are copied from fc 2048 of the
first Turn after acceptance, and become a transfer. A command whose time has not come, or whose condition does not hold, changes nothing:
the model's convention (log entry 7). -/
def Obligations.ASnapshotIsTakenAndCopied : Prop :=
  (∀ (s : State) (fc : Nat) (d : Desc), s.offers Op.snapshot d →
    let u := s.started fc d.key
    let l := maskSlots s.variant (dSlots d.body)
    (u.snapBusy = false → s.snapLen l ≤ dLen d.body → exec (.gougeSnapshot fc d.sq d.idx) s =
      .next { u with gouge := { s.gouge with snap := some (d.key, l, dAddr d.body, s.turn) } }) ∧
    (s.takesCpl d.cq → u.snapBusy = true → ∃ t, exec (.gougeSnapshot fc d.sq d.idx) s = .next t ∧ s.completed fc d 3 0x10 0 0 t ∧ u.told [] t) ∧
    (s.takesCpl d.cq → u.snapBusy = false → dLen d.body < s.snapLen l → ∃ t, exec (.gougeSnapshot fc d.sq d.idx) s = .next t ∧
      s.completed fc d 3 0x12 0 (s.snapLen l) t ∧ u.told [] t)) ∧
  (∀ (s : State) (fc : Nat) (k : DescKey) (l : List Nat) (va : Nat) (acc : TurnNo), s.gouge.snap = some (k, l, va, acc) →
    (laterThan s.turn acc = false ∨ fc % 3072 < 2048 → exec (.snapshotCopy fc) s = .next (s.at fc)) ∧
    (laterThan s.turn acc = true → 2048 ≤ fc % 3072 → ∀ d u, s.findDesc k = some d → s.snapLen l ≤ dLen d.body → s.hif.cur = some u → s.noSpentLog →
      ∃ t b, exec (.snapshotCopy fc) s = .next t ∧ t.hif.xfers = s.hif.xfers ++ [d.readyXfer (.bytes b) va (s.snapLen l)] ∧
        b.drop 32 = l.flatMap s.snapRecord ∧
        t = { s.at fc with gouge := { s.gouge with snap := none, copyAt := some s.turn },
                           hif := { s.hif with xfers := t.hif.xfers } }))

/-- Errors of the Gouge's memories and lanes (R106 to R108): corrected ones are counted; an uncorrectable one of the taps takes C_REP to 0 at
once and restores; one of the checkpoint makes it invalid; one of a word of the reference history makes its four samples count as dirty; one
of the accumulators freezes the Turn, its record staged unchanged; a failing lane is retired and its slot muted, and its record keeps the
C_REP of the Turn before; a migration attaches the lowest free spare and ends after four Turns. A command whose time has not come, or whose
condition does not hold, changes nothing: the model's convention (log entry 7). -/
def Obligations.GougeErrorsRestoreMuteAndMigrate : Prop :=
  ∀ (s : State) (fc : Nat), s.pwr.off = false →
    (∀ kind i word, (kind < 3 ∧ slotIn s.variant i = true) ∨ (kind = 3 ∧ i < nTileOf s.variant) →
      ∃ t, exec (.gougeTapEcc fc kind ⟨i, word⟩ true) s = .next t ∧
        t.get F.GOUGE_ECC_COUNT_CORRECTED = satAdd 65535 (s.get F.GOUGE_ECC_COUNT_CORRECTED) 1 ∧
        s.sameRegsBut [F.GOUGE_ECC_COUNT_CORRECTED] t ∧
        t = { s.at fc with regs := t.regs, fresh := t.fresh, flt := { s.flt with raised := s.flt.raised ++ [10] } }) ∧
    (∀ sl word, slotIn s.variant sl = true →
      (s.hasLane sl = true → ∃ t, exec (.gougeTapEcc fc 0 ⟨sl, word⟩ false) s = .next t ∧ t.get (F.GOUGE_SLOT_REPORT_C_REP sl) = 0 ∧
        t.gg sl = { s.gg sl with restore := true, zeroRep := true } ∧ 10 ∈ t.flt.raised ∧
        s.sameRegsBut [F.GOUGE_ECC_COUNT_UNCORRECTED, F.GOUGE_SLOT_REPORT_C_REP sl] t) ∧
      (∃ t, exec (.gougeTapEcc fc 1 ⟨sl, word⟩ false) s = .next t ∧ t.flag (F.GOUGE_SLOT_CKPT_CKPT_VALID sl) = false ∧ 10 ∈ t.flt.raised ∧
        s.sameRegsBut [F.GOUGE_ECC_COUNT_UNCORRECTED, F.GOUGE_SLOT_CKPT_CKPT_VALID sl] t) ∧
      (∃ t, exec (.gougeTapEcc fc 2 ⟨sl, word⟩ false) s = .next t ∧ 10 ∈ t.flt.raised ∧ s.sameRegsBut [F.GOUGE_ECC_COUNT_UNCORRECTED] t ∧
        (t.path sl).hist = (s.path sl).hist.zipIdx.map (fun e => if e.2 / 4 = word then { e.1 with refBad := true } else e.1) ∧
        t.gouge = s.gouge)) ∧
    (∀ lane sl word, lane < nTileOf s.variant → s.gouge.ecc.any (fun e => e.1 == lane) = false →
      (slotsOf s.variant).find? (fun sl => s.laneOf sl == lane && s.hasLane sl) = some sl →
      ∃ t, exec (.gougeTapEcc fc 3 ⟨lane, word⟩ false) s = .next t ∧ (t.gg sl).frozen = true ∧ (t.gg sl).staged = none ∧ 10 ∈ t.flt.raised ∧
        t.get (F.GOUGE_SLOT_REPORT_C_REP sl) = (s.gg sl).snap.2.1 % 65536) ∧
    (∀ lane, lane < nTileOf s.variant →
      (s.laneRetired lane = true → exec (.laneFail fc lane) s = .next (s.at fc)) ∧
      (s.laneRetired lane = false → ∃ t, exec (.laneFail fc lane) s = .next t ∧ t.laneRetired lane = true ∧ 10 ∈ t.flt.raised ∧
        (∀ sl, s.gouge.migs = [] → (slotsOf s.variant).find? (fun sl => s.laneOf sl == lane) = some sl → s.slotOn sl = true →
          t.flag (F.CHZ_SLOT_STATUS_MUTED sl) = true ∧ t.flag (F.CHZ_SLOT_STATUS_M_REPAIR sl) = true ∧ (t.gg sl).staged = none))) ∧
    (∀ m : LaneMig, slotIn s.variant m.slot = true → s.gouge.migs = [m] →
      let age := turnsSince s.turn m.fail
      (m.spare = none → age ≠ 0 → ∀ sp rest, s.freeLanes = sp :: rest → ∃ t, exec (.laneMigrationStep fc []) s = .next t ∧
        t.gouge = { s.gouge with migs := [{ m with spare := some sp }] }) ∧
      (∀ sp, m.spare = some sp → age < 4 → ∃ t, exec (.laneMigrationStep fc []) s = .next t ∧ t.gouge = s.gouge) ∧
      (∀ sp, m.spare = some sp → 4 ≤ age → ∃ t, exec (.laneMigrationStep fc []) s = .next t ∧ t.laneOf m.slot = sp ∧
        t.gouge.migs = [] ∧ t.flag (F.GOUGE_SLOT_STATUS_MIGRATED m.slot) = true))

/-- An evaluation of an enabled slot, completed in time (R18, R23, R116 to R120): its limit becomes ISO + C_REP − MARGIN − BACKOFF of the next
Turn; a verdict of oscillation notes the gain as G_OSC, counts, is signalled and stages a mute; GATED shows that no sample was gated in. An
emission channel in use shows whether its mask is violated and counts the Turn (R125). After fc 767 or an overrun, outside the running
states, and while the fabric is without power, nothing is evaluated. A command whose time has not come, or whose condition does not hold,
changes nothing: the model's convention (log entry 7). -/
def Obligations.AnEvaluationLimitsTheGain : Prop :=
  ∀ (s : State) (fc : Nat) (em : List EmMeas), em.all (fun m => decide (m.channel < nEmOf s.variant)) = true →
    let late := s.running = false ∨ s.railDown 0 = true ∨ 767 < fc % 3072 ∨ bit s.overran 0 = true
    (∀ l : List Nat, l.all (slotIn s.variant) = true →
      (late → exec (.guardEvaluation fc l em) s = .next (s.at fc)) ∧
      (¬late → ∃ t, exec (.guardEvaluation fc l em) s = .next t ∧ t.gouge = s.gouge ∧ t.sec = s.sec ∧ t.fab = s.fab ∧ t.turn = s.turn ∧
        (∀ c < nEmOf s.variant, (∀ m ∈ em, m.channel ≠ c) →
          t.flag (F.GRD_EM_STATUS_VIOLATION c) = s.flag (F.GRD_EM_STATUS_VIOLATION c)))) ∧
    (∀ sl, slotIn s.variant sl = true → s.slotOn sl = true → s.worked.contains (0, sl) = false → ¬late →
      ∃ t, exec (.guardEvaluation fc [sl] em) s = .next t ∧
        t.geti (F.GRD_SLOT_LIMIT_G_LIM sl) = clampInt (-32767) 32767 (t.gLim sl (nextBackoff (t.gd sl))) ∧
        t.flag (F.GRD_SLOT_STATUS_GATED sl) = (s.gatedIn sl).isEmpty ∧
        (em = [] → (∀ o, o ≠ sl → t.gd o = s.gd o) ∧
          (s.oscillates sl ((s.gatedIn sl).filter Samp.speaks) = true → (s.gd sl).oscMute = false →
            t.get (F.GRD_SLOT_OSC_G_OSC sl) = s.get (F.CHZ_SLOT_GAIN_GAIN_NOW sl) ∧ t.flag (F.GRD_SLOT_STATUS_OSC_CAP sl) = true ∧
            t.get (F.GRD_SLOT_COUNT_OSC_EVENTS sl) = satAdd 255 (s.get (F.GRD_SLOT_COUNT_OSC_EVENTS sl)) 1 ∧ 11 ∈ t.flt.raised ∧
            (t.gd sl).stageMute = some true))) ∧
    (∀ m, em = [m] → ¬late →
      let c := m.channel
      let slots := s.combSlots (s.act (F.GRD_EM_CFG_COMB c))
      let heard := slots.filter (fun sl => (s.lastSamples sl).any Samp.speaks)
      let p := (emPorts s.variant c).1
      let q := (emPorts s.variant c).2.1
      let viol (l : Spectrum) : Bool := (worst (s.excesses c slots heard l)).any Excess.over
      s.actB (F.GRD_EM_CFG_EN c) = true → heard ≠ [] → s.worked.contains (0, 256 + c) = false →
      s.actB (F.FAB_ROUTE_ZERO p) = false → s.actB (F.FAB_ROUTE_ZERO q) = true →
      ∃ t, exec (.guardEvaluation fc [] em) s = .next t ∧ t.flag (F.GRD_EM_STATUS_VIOLATION c) = viol m.primary ∧
        t.get (F.GRD_EM_COUNT_VIOL_TURNS c) = (if viol m.primary then satAdd 65535 (s.get (F.GRD_EM_COUNT_VIOL_TURNS c)) 1
          else s.get (F.GRD_EM_COUNT_VIOL_TURNS c)))

/-- At fc 768, once in a Turn, every staged mute begins and mutes its slot at once (R20, R129); GUARD_HOLD_EXPIRY ends the holds that are over,
and a released slot returns under a fresh back-off of 6.0 dB (R130). A latch clear is asked for only while the latch is in force, and
decided at the boundary (R133). A command whose time has not come, or whose condition does not hold, changes nothing: the model's convention
(log entry 7). -/
def Obligations.GuardMutesBeginEndAndLatchesClear : Prop :=
  ((∀ s : State, (3, 1) ∈ s.worked ∨ s.pwr.off = true → exec .guardMuteEffect s = .next (s.at 768)) ∧
   (∀ (s : State) (sl : Nat), slotIn s.variant sl = true → (s.gd sl).stageMute.isSome = true → (3, 1) ∉ s.worked → s.pwr.off = false →
     ∃ t, exec .guardMuteEffect s = .next t ∧ t.fc = 768 ∧ (t.gd sl).muteEnd = some (s.turn + s.slotHold) ∧ (t.gd sl).stageMute = none ∧
       2 ≤ t.get (F.GRD_SLOT_STATUS_ACTION sl) ∧
       t.get (F.GRD_SLOT_COUNT_MUTES sl) = satAdd 255 (s.get (F.GRD_SLOT_COUNT_MUTES sl)) 1 ∧
       (s.slotOn sl = true → t.flag (F.CHZ_SLOT_STATUS_M_GUARD sl) = true ∧ t.flag (F.CHZ_SLOT_STATUS_MUTED sl) = true) ∧
       t.gouge = s.gouge ∧ t.sec = s.sec ∧ t.fab = { s.fab with muteAt := t.fab.muteAt }) ∧
   (∀ (s : State) (fc sl : Nat) (e : TurnNo), slotIn s.variant sl = true → (s.gd sl).muteEnd = some e → s.grd.dirEnd = [] →
     s.grd.allEnd = none → s.latchOn = false → s.grd.cleared = false →
     (s.reached e = true → ∃ t, exec (.guardHoldExpiry fc) s = .next t ∧ (t.gd sl).muteEnd = none ∧ (t.gd sl).backoff = 60 ∧
       (t.gd sl).oscMute = false ∧ t.get (F.GRD_SLOT_STATUS_ACTION sl) = 1 ∧
       t.get (F.GRD_SLOT_COUNT_BACKOFFS sl) = satAdd 255 (s.get (F.GRD_SLOT_COUNT_BACKOFFS sl)) 1 ∧ t.sec = s.sec ∧ t.fab = s.fab) ∧
     (s.reached e = false → ∃ t, exec (.guardHoldExpiry fc) s = .next t ∧ (t.gd sl).muteEnd = some e ∧ t.sec = s.sec ∧ t.fab = s.fab))) ∧
  (∀ (s : State) (fc : Nat),
     (s.latchOn = true → exec (.grdLatchClear fc) s = .next { s.at fc with grd := { s.grd with clearReq := true } }) ∧
     (s.latchOn = false → exec (.grdLatchClear fc) s = .next (s.at fc)))

/-! ### The Radio Sequencer -/

/-- A pattern boundary takes a TDD group to the state of its pattern, or to HOLD or rest where R142 does not let it transmit (R145, Table 6.2);
where no entry starts or ends nothing happens. An FE pin takes the level of the last edge that has fallen due (R155); a pin held SAFE, or
one that follows no group, heeds none (R156). Frames and their loss (R145, R148): a frame starts PERIOD after the last one, with the move of
the last good reference; a group in HOLDOVER that has seen no good reference for LOSS_FRAMES frames is LOST. References (R145 to R148): a
correlation peak of SYNC_THR or more predicts a frame start, the age of its residual and the slot's added delay taken off and SYNC_OFS
added; an edge of SYNC_IN predicts one for every group that uses the pin, unless it comes within 2 fc of the last accepted one. A command
whose time has not come, or whose condition does not hold, changes nothing: the model's convention (log entry 7). -/
def Obligations.GroupsFollowPatternsAndReferences : Prop :=
  (∀ (s : State) (fc g : Nat), g < 8 →
     let u : State := s.at fc
     let works := s.running && s.groupOn g && s.isTdd g && !s.blockHeld .sequencer && u.isEdge g u.now
     (works = false → exec (.patternBoundary fc g) s = .next u) ∧
     (works = true → ∃ t, exec (.patternBoundary fc g) s = .next t ∧ t.half g 0 = u.schedTo g (s.half g 0) u.now ∧
       (∀ o, o < 8 → o ≠ g → ∀ h < 2, t.half o h = s.half o h) ∧ (∀ o, o ≠ g → t.sg o = s.sg o) ∧
       t.gouge = s.gouge ∧ t.sec = s.sec ∧ t.fab = s.fab ∧ t.grd = s.grd ∧ t.log = s.log)) ∧
  (∀ (s : State) (fc p : Nat), p < 32 →
     let u : State := s.at fc
     (s.pinsForced = true ∨ s.pinFollows p = false → exec (.fePinEdge fc p) s = .next u) ∧
     (s.pinsForced = false → s.pinFollows p = true → ∀ e, (s.seq.edges.filter (fun e => e.1 == p && e.2.2 ≤ u.now)).getLast? = some e →
       ∃ t, exec (.fePinEdge fc p) s = .next t ∧ t.flag (F.SEQ_FE_STATUS_LEVEL p) = e.2.1 ∧
         t.get (F.SEQ_FE_STATUS_EDGES p) = (if s.flag (F.SEQ_FE_STATUS_LEVEL p) = e.2.1 then s.get (F.SEQ_FE_STATUS_EDGES p)
           else satAdd 65535 (s.get (F.SEQ_FE_STATUS_EDGES p)) 1) ∧
         s.sameRegsBut [F.SEQ_FE_STATUS_LEVEL p, F.SEQ_FE_STATUS_EDGES p] t ∧
         t = { u with regs := t.regs, fresh := t.fresh, seq := { s.seq with edges := s.seq.edges.filter (fun d => d.1 != p || u.now < d.2.2) } })) ∧
  (∀ (s : State) (fc g : Nat), g < 8 → s.running = true → s.groupOn g = true → s.blockHeld .sequencer = false → (s.sg g).running = true →
     let u : State := s.at fc
     let next := (s.sg g).frameAt + s.period g + (s.sg g).shift
     let n := satAdd 65535 (s.get (F.SEQ_DG_SYNC_ERR_FRAMES_SINCE g)) 1
     ((u.now : Int) < next → exec (.frameStart fc g) s = .next u) ∧
     (next ≤ (u.now : Int) → ∃ t, exec (.frameStart fc g) s = .next t ∧ (t.sg g).shift = 0 ∧
       ((s.sg g).anchor = none → (t.sg g).frameAt = next) ∧
       (s.syncState g ≠ 0 → t.get (F.SEQ_DG_SYNC_ERR_FRAMES_SINCE g) = n) ∧
       (s.syncState g = 3 → s.act (F.SEQ_DG_LOSS_LOSS_FRAMES g) ≤ n → t.syncState g = 4 ∧
         t.get (F.SEQ_DG_COUNT_SYNC_LOSSES g) = satAdd 255 (s.get (F.SEQ_DG_COUNT_SYNC_LOSSES g)) 1 ∧ (s.isTdd g = true → 17 ∈ t.flt.raised)) ∧
       (s.syncState g = 3 → n < s.act (F.SEQ_DG_LOSS_LOSS_FRAMES g) → t.syncState g = 3))) ∧
  ((∀ (s : State) (fc g age peak mean : Nat), g < 8 →
     let u : State := s.at fc
     let p := (u.now : Int) - age - s.addedDelay (s.act (F.SEQ_DG_CFG_SYNC_SLOT g)) + s.actI (F.SEQ_DG_SYNC_OFS_SYNC_OFS g)
     let heard := s.syncRuns g 1 && burstFound peak mean (s.act (F.SEQ_DG_SYNC_SYNC_THR g))
     (heard = false → exec (.syncBurst fc g ⟨age, peak, mean⟩ []) s = .next u) ∧
     (heard = true → ∃ t, exec (.syncBurst fc g ⟨age, peak, mean⟩ []) s = .next t ∧ s.referred t g p)) ∧
   (∀ (s : State) (fc : Nat),
     let u : State := s.at fc
     (∀ t0, s.seq.syncEdge = some t0 → u.now ≤ t0 + 2 → exec (.syncInEdge fc) s = .next u) ∧
     ((∀ t0, s.seq.syncEdge = some t0 → t0 + 2 < u.now) → s.pwr.off = false → ∃ t, exec (.syncInEdge fc) s = .next t ∧ t.seq.syncEdge = some u.now ∧
       (∀ g < 8, s.syncRuns g 2 = true → (s.sg g).anchor = none → s.referred t g (u.now + s.actI (F.SEQ_DG_SYNC_OFS_SYNC_OFS g))) ∧
       (∀ g < 8, s.syncRuns g 2 = false → t.syncState g = s.syncState g ∧
         t.get (F.SEQ_DG_SYNC_ERR_FRAMES_SINCE g) = s.get (F.SEQ_DG_SYNC_ERR_FRAMES_SINCE g)) ∧
       t.gouge = s.gouge ∧ t.grd = s.grd ∧ t.sec = s.sec)))

/-- A stay of TX_MAX_TURNS in DL or UL ends in the rest state, is counted and signalled, and the group rests a Turn (R151); a HOLD of
TX_HOLD_LIMIT Turns expires, with its cause (R153). A command whose time has not come, or whose condition does not hold, changes nothing:
the model's convention (log entry 7). -/
def Obligations.TransmitTimeoutsAndHoldsExpire : Prop :=
  ∀ (s : State) (fc g : Nat), g < 8 →
    let u : State := s.at fc
    let ends := u.isEdge g u.now && u.schedTo g (s.half g 0) u.now != s.half g 0
    (u.stayOver g = false ∨ ends = true → exec (.seqTxTimeout fc g) s = .next u) ∧
    (u.stayOver g = true → ends = false → ∃ t, exec (.seqTxTimeout fc g) s = .next t ∧ t.half g 0 = s.restOf g ∧
      t.flag (F.SEQ_DG_STATUS_TIMED_OUT g) = true ∧ t.get (F.SEQ_DG_COUNT_TIMEOUTS g) = satAdd 255 (s.get (F.SEQ_DG_COUNT_TIMEOUTS g)) 1 ∧
      16 ∈ t.flt.raised ∧ (t.sg g).resumeAt = some (u.now + 3072)) ∧
    (s.holdOver g = false → exec (.seqHoldExpired fc g) s = .next u) ∧
    (s.holdOver g = true → ∃ t, exec (.seqHoldExpired fc g) s = .next t ∧ (∀ h ∈ s.halves g, t.half g h = s.restOf g) ∧
      t.flag (F.SEQ_DG_STATUS_HOLD_EXPIRED g) = true ∧ t.get (F.SEQ_DG_STATUS_FAIL_CAUSE g) = 1 ∧
      t.get (F.SEQ_DG_COUNT_HOLD_EXPIRIES g) = satAdd 255 (s.get (F.SEQ_DG_COUNT_HOLD_EXPIRIES g)) 1 ∧ 18 ∈ t.flt.raised)

/-- A mismatch channel (R163 to R165): its dwell over, it goes to the next of its ports; a search whose step has reached its goal ends with that
code, one whose write has failed goes to the next code; one that lasts SEARCH_MAX Turns fails, and its port is muted at the next boundary
(R166). RETRY is heeded for the ports muted for mismatch whose channel is not searching, at the next boundary, and for no other (R166). A
command whose time has not come, or whose condition does not hold, changes nothing: the model's convention (log entry 7). -/
def Obligations.MismatchChannelsDwellSearchAndRetry : Prop :=
  (∀ (s : State) (fc m : Nat), m < nObsOf s.variant →
     let u : State := s.at fc
     let x := s.mmX m
     (s.mmRuns m = false → exec (.mismatchDwell fc m) s = .next u ∧ exec (.tunerSearchStep fc m) s = .next u ∧
       exec (.searchTimeout fc m) s = .next u) ∧
     (s.mmRuns m = true →
       (x.search = none → x.dwell + s.act (F.SEQ_MM_CFG_DWELL m) ≤ s.ticks →
         ∀ k, (s.mmPorts m).find? (fun p => s.get (F.SEQ_MM_STATUS_PORT m) < p) = some k → ∃ t, exec (.mismatchDwell fc m) s = .next t ∧
           t.get (F.SEQ_MM_STATUS_PORT m) = k ∧ t.mmX m = { x with dwell := s.ticks, low := 0 }) ∧
       (∀ q, x.search = some q →
         exec (.mismatchDwell fc m) s = .next u ∧
         (q.failed = false → q.written = false ∨ q.count < s.act (F.SEQ_MM_SEARCH_SETTLE m) + s.act (F.SEQ_MM_SEARCH_MEAS m) →
           exec (.tunerSearchStep fc m) s = .next u) ∧
         (q.failed = true → ∀ c l, q.left = c :: l → ∃ t, exec (.tunerSearchStep fc m) s = .next t ∧
           (t.mmX m).search = some { q with left := l, cand := c, written := false, failed := false, count := 0, sum := 0 }) ∧
         (q.failed = false → q.written = true → s.act (F.SEQ_MM_SEARCH_SETTLE m) + s.act (F.SEQ_MM_SEARCH_MEAS m) ≤ q.count →
           10 * ((s.act (F.SEQ_MM_THR_RL_MIN m) : Int) + s.act (F.SEQ_MM_THR_RL_HYST m)) * s.act (F.SEQ_MM_SEARCH_MEAS m) ≤ q.sum →
           ∃ t, exec (.tunerSearchStep fc m) s = .next t ∧ (t.mmX m).search = none ∧ t.seq.muteNext = s.seq.muteNext) ∧
         (s.ticks < q.start + s.act (F.SEQ_TUN_STEP_SEARCH_MAX q.port) → exec (.searchTimeout fc m) s = .next u) ∧
         (q.start + s.act (F.SEQ_TUN_STEP_SEARCH_MAX q.port) ≤ s.ticks → ∃ t, exec (.searchTimeout fc m) s = .next t ∧
           (t.mmX m).search = none ∧ q.port ∈ t.seq.muteNext ∧ 19 ∈ t.flt.raised)))) ∧
  (∀ (s : State) (fc v : Nat), ∃ t, exec (.retry fc v) s = .next t ∧
     (∀ k < nPortOf s.variant, k ∈ t.seq.retryNext ↔ k ∈ s.seq.retryNext ∨
       (bit v k = true ∧ s.portMuted k = true ∧ ∀ m, s.mmOfPort k = some m → (s.mmX m).search = none)) ∧
     t = { s.at fc with seq := { s.seq with retryNext := t.seq.retryNext } })

/-- The RFFE masters (R157 to R160): a host command is taken while BUSY is 0, and a free bus with nothing due before it starts it for the time
that RATE, HALF_RD and VERIFY give; a scheduled command that falls due goes out in LISTEN and RELAY and is dropped elsewhere; a command ends
when its time is over and frees its bus; wrong parity, or a read-back that differs from what was written, is a failure: counted, signalled,
and ERR of the host's command; a tuner write that has not failed shows its code. A command whose time has not come, or whose condition does
not hold, changes nothing: the model's convention (log entry 7). -/
def Obligations.RffeCommandsStartAndEnd : Prop :=
  ∀ (s : State) (fc : Nat),
    let u : State := s.at fc
    (∀ v, bit v 0 = true → s.flag F.SEQ_RFFE_HCMD_BUSY = false → bits v 2 3 ≤ 4 → s.blockHeld .sequencer = false →
      (s.bus (bits v 1 1)).cur = none → (s.bus (bits v 1 1)).waiting = [] → u.rffeAhead (bits v 1 1) .host = false →
      let kind := bits v 2 3
      let c : RffeCmd := ⟨.host, kind, bits v 5 4, if kind = 0 then 0 else bits v 9 8, if kind = 0 then bits v 17 7 else bits v 17 8⟩
      ∃ t, exec (.hostRffeCommand fc v) s = .next t ∧ t.flag F.SEQ_RFFE_HCMD_BUSY = true ∧ t.flag (rffeBusy (bits v 1 1)) = true ∧
        t.get F.SEQ_RFFE_HCMD_ADDR = bits v 9 8 ∧ t.get F.SEQ_RFFE_HCMD_WDATA = bits v 17 8 ∧
        (t.bus (bits v 1 1)).cur = some (c, s.rffeChecks (bits v 1 1) c, u.now + s.rffeLen (bits v 1 1) c) ∧
        s.sameRegsBut [F.SEQ_RFFE_HCMD_BUS, F.SEQ_RFFE_HCMD_KIND, F.SEQ_RFFE_HCMD_USID, F.SEQ_RFFE_HCMD_ADDR, F.SEQ_RFFE_HCMD_WDATA,
          F.SEQ_RFFE_HCMD_BUSY, rffeBusy (bits v 1 1)] t ∧ t = { u with regs := t.regs, fresh := t.fresh, seq := t.seq }) ∧
    (∀ v, bit v 0 = false ∨ s.flag F.SEQ_RFFE_HCMD_BUSY = true ∨ 4 < bits v 2 3 ∨ s.blockHeld .sequencer = true →
      ∃ t, exec (.hostRffeCommand fc v) s = .next t ∧ t = { u with regs := t.regs, fresh := t.fresh } ∧ s.sameRegsBut [F.SEQ_RFFE_HCMD_BUS,
        F.SEQ_RFFE_HCMD_KIND, F.SEQ_RFFE_HCMD_USID, F.SEQ_RFFE_HCMD_ADDR, F.SEQ_RFFE_HCMD_WDATA] t) ∧
    (∀ b < 2, ∀ i < 64, ∀ d, (s.bus b).due.find? (fun d => d.1 == i && d.2 ≤ u.now) = some d → (s.bus b).waiting = [] →
      let w := u.setBus b { s.bus b with due := (s.bus b).due.erase d }
      let c := s.schedCmd b i d.2
      (s.schedRuns = false → exec (.rffeScheduledCommand fc b i) s = .next w) ∧
      (s.schedRuns = true → (s.bus b).cur = none → w.rffeAhead b c.src = false → ∃ t, exec (.rffeScheduledCommand fc b i) s = .next t ∧
        (t.bus b).cur = some (c, s.rffeChecks b c, u.now + s.rffeLen b c) ∧ (t.bus b).due = (s.bus b).due.erase d ∧
        t.flag (rffeBusy b) = true ∧
        t.get (rffeLate b) = (if d.2 + 64 < u.now then satAdd 255 (s.get (rffeLate b)) 1 else s.get (rffeLate b)) ∧
        s.sameRegsBut [rffeBusy b, rffeLate b] t)) ∧
    (∀ b < 2, ∀ parity, ∀ rdata < 256,
      ((s.bus b).cur = none → exec (.rffeCommandEnd fc b parity rdata) s = .next u) ∧
      (∀ c checks until_, (s.bus b).cur = some (c, checks, until_) →
        let got := if c.kind = 0 then rdata % 128 else rdata
        let bad := (checks || rffeIsRead c.kind) && (!parity || (checks && got != c.data))
        (u.now < until_ → exec (.rffeCommandEnd fc b parity rdata) s = .next u) ∧
        (until_ ≤ u.now → (s.bus b).waiting = [] → ∃ t, exec (.rffeCommandEnd fc b parity rdata) s = .next t ∧
          (t.bus b).cur = none ∧ t.flag (rffeBusy b) = false ∧
          t.get (rffeNack b) = (if bad then satAdd 255 (s.get (rffeNack b)) 1 else s.get (rffeNack b)) ∧ (bad = true → 20 ∈ t.flt.raised) ∧
          (c.src = .host → t.flag F.SEQ_RFFE_HCMD_BUSY = false ∧ t.flag F.SEQ_RFFE_HCMD_ERR = bad ∧
            (rffeIsRead c.kind = true → t.get F.SEQ_RFFE_HDATA_RDATA = rdata) ∧
            s.sameRegsBut [rffeBusy b, rffeNack b, F.SEQ_RFFE_HCMD_BUSY, F.SEQ_RFFE_HCMD_ERR, F.SEQ_RFFE_HDATA_RDATA] t) ∧
          (∀ k code, c.src = .tuner k code → bad = false → code < 256 → t.get (F.SEQ_TUN_STATUS_CODE k) = code))))

/-! ### The Drive PWM, the Gauge and the Control Engine -/

/-- The carrier (R248, R254, R255, R257, R259): at a zero what is armed loads together, as it stood before any write of the zero's own fc, no
compare above PERIOD, and the pairs take their configuration; the next zero lies 4 × PERIOD fc on, the top halfway; a carrier that is to
stop stops there. Before its time, stopped or frozen, nothing happens. A compare match takes the first match of its pair that has fallen due
(R249, R269): P rises at CMPA and falls at CMPB, unless the pulse is left out (R252) or the match carries an event alone. A write of
PWM_LOAD arms what it names (R254), except the pairs that a supply loop owns, whose bits are ignored and counted (R258); what a carrier zero
of this very fc loads is what stood before the write (R255). A command whose time has not come, or whose condition does not hold, changes
nothing: the model's convention (log entry 7). -/
def Obligations.TheCarrierLoadsAndMovesItsPairs : Prop :=
  (∀ (s : State) (fc : Nat),
     let u : State := s.at fc
     let q := s.pwm.sampled.getD (s.sampleNow s.active)
     let m := q.1
     let p := if bit m 8 then q.2.1.headD 0 % 4096 else s.get F.PWM_PERIOD_STG_PERIOD_NOW
     (s.pwmRunning = false ∨ s.pwmFrozen = true ∨ u.now < s.pwm.nextZero → exec (.carrierZero fc) s = .next u) ∧
     (s.pwmRunning = true → s.pwmFrozen = false → s.pwm.nextZero ≤ u.now → ∃ t, exec (.carrierZero fc) s = .next t ∧
       t.get F.PWM_PERIOD_STG_PERIOD_NOW = p ∧
       t.get F.PWM_LOAD_PENDING_PENDING = (if s.pwm.sampled.isSome then s.pwm.armed % 512 else 0) ∧ t.pwm.sampled = none ∧
       (m ≠ 0 → ∀ n < 8, t.get (F.PWM_PAIR_CMP_NOW_CMPA_NOW n) =
         min (if bit m n then q.2.1.getD (1 + 6 * n) 0 % 4096 else s.get (F.PWM_PAIR_CMP_NOW_CMPA_NOW n)) p) ∧
       t.pwm.trips = s.pwm.trips.filter (fun k => s.getBit F.PWM_TRIP_STATUS_LIVE k || s.getBit F.PWM_TRIP_STATUS_LATCHED k) ∧
       (s.pwm.stopping = true → t.pwmRunning = false) ∧
       (s.pwm.stopping = false → t.pwmRunning = true ∧ t.pwm.nextZero = u.now + 4 * p ∧ t.pwm.nextTop = some (u.now + 2 * p) ∧
         ∀ n < 8, (t.pair n).en = (q.2.2.getD n pairNone).en ∧ t.owned n = (q.2.2.getD n pairNone).owner)) ∧
     (s.pwmRunning = false ∨ s.pwmFrozen = true ∨ s.pwm.nextTop = none ∨ (∀ at_, s.pwm.nextTop = some at_ → u.now < at_) →
       exec (.carrierTop fc) s = .next u) ∧
     (s.pwmRunning = true → s.pwmFrozen = false → ∀ at_, s.pwm.nextTop = some at_ → at_ ≤ u.now → ∃ t, exec (.carrierTop fc) s = .next t ∧
       t.pwm.nextTop = none ∧ t.pwm.outs = s.pwm.outs ∧ t.pwm.pairs = s.pwm.pairs ∧ t.pwm.nextZero = s.pwm.nextZero ∧ t.pwm.trips = s.pwm.trips)) ∧
  (∀ (s : State) (fc n : Nat) (isB : Bool), n < 8 →
     let u : State := s.at fc
     let due := s.pwm.matches_.find? (fun m => m.pair == n && m.isB == isB && decide (m.at_ ≤ u.now))
     (due = none ∨ s.pwmRunning = false ∨ s.pwmFrozen = true → exec (.compareMatch fc n isB) s = .next u) ∧
     (∀ m, due = some m → s.pwmRunning = true → s.pwmFrozen = false → ∃ t, exec (.compareMatch fc n isB) s = .next t ∧
       t.pwm.matches_ = s.pwm.matches_.filter (fun e => e != m) ∧
       (m.event = false → t.regs = s.regs) ∧
       (m.edge = false ∨ (s.pair n).mode = 1 ∨ (s.pair n).mode = 2 → t.pwm.outs = u.settleFalls.pwm.outs ∧ t.pwm.pairs = s.pwm.pairs) ∧
       (m.edge = true → (s.pair n).mode ≠ 1 → (s.pair n).mode ≠ 2 →
         t.pair n = { s.pair n with p := !isB, fell := if isB then u.now + s.fineB n else (s.pair n).fell } ∧
         (∀ o, o ≠ n → t.pair o = s.pair o) ∧ (∀ o, o / 2 ≠ n → t.out o = u.settleFalls.out o)))) ∧
  (∀ (s : State) (fc m : Nat), ∃ t, exec (.loadAll fc m) s = .next t ∧
     (∀ n < 9, t.getBit F.PWM_LOAD_PENDING_PENDING n =
       (s.getBit F.PWM_LOAD_PENDING_PENDING n || (bit m n && !(decide (n < 8) && s.owned n)))) ∧
     (∀ n < 8, t.get (F.PWM_PAIR_COUNT_OWNED_DROPS n) =
       if bit m n && s.owned n then satAdd 255 (s.get (F.PWM_PAIR_COUNT_OWNED_DROPS n)) 1 else s.get (F.PWM_PAIR_COUNT_OWNED_DROPS n)) ∧
     (s.pwmRunning = true → s.pwmFrozen = false → s.pwm.nextZero ≤ (s.at fc).now → s.pwm.sampled = none →
       t.pwm.sampled = some (s.sampleNow s.active)) ∧
     s.sameRegsBut (F.PWM_LOAD_PENDING_PENDING :: (List.range 8).map F.PWM_PAIR_COUNT_OWNED_DROPS) t ∧
     t = { s.at fc with regs := t.regs, fresh := t.fresh, pwm := { s.pwm with sampled := t.pwm.sampled, armed := t.pwm.armed } })

/-- A mask is asserted and released when its action falls due (R260), and changes nothing before; a frozen PWM takes no mask. A fall put off by
a fine delay is made, and a rise that waited for its dead time, never beside a high partner (R250, R251); an output that waited for its
least pulse enters its masked state (R253, R261). A command whose time has not come, or whose condition does not hold, changes nothing: the
model's convention (log entry 7). -/
def Obligations.MasksDeadTimesAndMinima : Prop :=
  (∀ (s : State) (fc m : Nat) (on : Bool), m < 8 →
     let u : State := s.at fc
     let c : Instr := if on then .maskAssert fc m else .maskRelease fc m
     let due := u.pwm.due.any (fun d => d.1 == m && d.2.1 == on && d.2.2 ≤ u.now) || u.earlyMask m on
     (due = false → exec c s = .next u) ∧
     (due = true → ∃ t, exec c s = .next t ∧
       t.getBit F.PWM_STATUS_MASKED m = (if s.pwmFrozen then s.getBit F.PWM_STATUS_MASKED m else on) ∧
       (∀ n < 8, n ≠ m → t.getBit F.PWM_STATUS_MASKED n = s.getBit F.PWM_STATUS_MASKED n) ∧ s.sameRegsBut [F.PWM_STATUS_MASKED] t ∧
       (∀ o < 16, bit (s.act (F.PWM_MASK_OUT_OUTPUTS m)) o = false → bit (s.act (F.PWM_MASK_OUT_OUTPUTS m)) (partner o) = false → t.out o = s.out o) ∧
       t = { u with regs := t.regs, fresh := t.fresh, pwm := { s.pwm with outs := t.pwm.outs, due := t.pwm.due } })) ∧
  (∀ (s : State) (fc o : Nat), o < 16 →
     let u : State := s.at fc
     let v := (u.settleFall o).settleFall (partner o)
     let x := v.out o
     (x.rise = none ∨ s.pwmFrozen = true ∨ (∀ at_, x.rise = some at_ → u.now < at_) → exec (.deadTimeEnd fc o) s = .next v) ∧
     (s.pwmFrozen = false → ∀ at_, x.rise = some at_ → at_ ≤ u.now →
       ((v.out (partner o)).level = true → exec (.deadTimeEnd fc o) s = .next (v.setOut o { x with rise := none })) ∧
       ((v.out (partner o)).level = false → x.level = false →
         exec (.deadTimeEnd fc o) s = .next (v.setOut o { x with level := true, since := u.now, rise := none, fall := none }))) ∧
     (s.pwmFrozen = false → ∀ at_, (s.out o).fall = some at_ → at_ ≤ u.now → (s.out o).rise = none →
       ∃ t, exec (.deadTimeEnd fc o) s = .next t ∧ (t.out o).level = false ∧ (t.out o).since = at_ ∧ (t.out o).fall = none) ∧
     ((s.out o).enter = none ∨ s.pwmFrozen = true → exec (.minIntervalReached fc o) s = .next (u.settleRise o)) ∧
     (∀ at_, (s.out o).enter = some at_ → s.pwmFrozen = false →
       (u.now < s.maskFrom o → (s.out o).rise = none → exec (.minIntervalReached fc o) s =
         .next ((u.setOut o { s.out o with enter := some (s.maskFrom o) }).settleFall (partner o))) ∧
       (s.maskFrom o ≤ u.now → ∃ t, exec (.minIntervalReached fc o) s = .next t ∧ (t.out o).inMask = true ∧ (t.out o).enter = none ∧
         t = { u with pwm := { s.pwm with outs := t.pwm.outs } })))

/-- Trips (R263, R264): an enabled input that becomes active is shown, counted, latched with LATCH, signalled, and every output of its group is
at its TSTATE at once; the trip outlasts the input, and a latch clears only while its input is inactive. A command whose time has not come,
or whose condition does not hold, changes nothing: the model's convention (log entry 7). -/
def Obligations.TripsActAtOnceAndLatch : Prop :=
  (∀ (s : State) (fc k : Nat), k < 4 →
    let u : State := s.at fc
    let taken := s.actB (F.PWM_TRIP_CFG_EN k) && !s.pwr.off && !s.getBit F.PWM_TRIP_STATUS_LIVE k
    (taken = false → exec (.tripActive fc k) s = .next u) ∧
    (taken = true → ∃ t, exec (.tripActive fc k) s = .next t ∧
      t.getBit F.PWM_TRIP_STATUS_LIVE k = true ∧ t.getBit F.PWM_FLAGS_TRIP k = true ∧
      bits (t.get F.PWM_TRIP_COUNT_ACTIVATIONS) (6 * k) 6 = min 63 (bits (s.get F.PWM_TRIP_COUNT_ACTIVATIONS) (6 * k) 6 + 1) ∧
      t.getBit F.PWM_TRIP_STATUS_LATCHED k = (s.getBit F.PWM_TRIP_STATUS_LATCHED k || s.actB (F.PWM_TRIP_CFG_LATCH k)) ∧
      t.flt.raised = s.flt.raised ++ [25] ∧ k ∈ t.pwm.trips ∧
      (∀ o < 16, bit (s.act (F.PWM_TRIP_CFG_GROUP k)) o = true → (t.out o).level = s.tstate o) ∧
      s.sameRegsBut [F.PWM_TRIP_STATUS_LIVE, F.PWM_FLAGS_TRIP, F.PWM_TRIP_COUNT_ACTIVATIONS, F.PWM_TRIP_STATUS_LATCHED, F.PWM_STATUS_TRIPPED,
        F.FLT_LIVE_LO_LIVE] t ∧ t = { u with regs := t.regs, fresh := t.fresh, pwm := t.pwm, flt := t.flt })) ∧
  (∀ (s : State) (fc k : Nat), k < 4 → ∃ t, exec (.tripInactive fc k) s = .next t ∧ t.getBit F.PWM_TRIP_STATUS_LIVE k = false ∧
    t.pwm.trips = s.pwm.trips ∧ s.sameRegsBut [F.PWM_TRIP_STATUS_LIVE, F.PWM_STATUS_TRIPPED, F.FLT_LIVE_LO_LIVE] t) ∧
  (∀ (s : State) (fc m : Nat), ∃ t, exec (.tripClear fc m) s = .next t ∧
    (∀ k < 4, t.getBit F.PWM_TRIP_STATUS_LATCHED k =
      (s.getBit F.PWM_TRIP_STATUS_LATCHED k && !(bit m k && !s.getBit F.PWM_TRIP_STATUS_LIVE k))) ∧
    t.get F.PWM_TRIP_COUNT_REFUSED =
      satAdd 255 (s.get F.PWM_TRIP_COUNT_REFUSED) ((List.range 4).filter (fun k => bit m k && s.getBit F.PWM_TRIP_STATUS_LIVE k)).length ∧
    s.sameRegsBut [F.PWM_TRIP_STATUS_LATCHED, F.PWM_TRIP_COUNT_REFUSED, F.PWM_STATUS_TRIPPED, F.FLT_LIVE_LO_LIVE] t)

/-- A trigger line whose DELAY has expired is free again and, while the counter and its pair run, triggers every converter bound to it (R236,
R270). A trigger starts its DELAY, or is missed while the sequence is busy, or lost to a calibration (R236, R244); at the end of the DELAY
the sequence begins with entry 0, or waits for an injected conversion and is LATE. A command whose time has not come, or whose condition
does not hold, changes nothing: the model's convention (log entry 7). -/
def Obligations.TriggersStartTheirSequences : Prop :=
  (∀ (s : State) (fc l : Nat), l < 16 →
     let u : State := s.at fc
     let line := sparseGet (0, none) s.pwm.lines l
     (line.2 = none ∨ s.pwmFrozen = true ∨ (∀ at_, line.2 = some at_ → u.now < at_) → exec (.pwmTriggerLine fc l) s = .next u) ∧
     (s.pwmFrozen = false → ∀ at_, line.2 = some at_ → at_ ≤ u.now → ∃ t, exec (.pwmTriggerLine fc l) s = .next t ∧
       sparseGet (0, none) t.pwm.lines l = (line.1, none) ∧
       (s.pwmRunning = true → (s.pair (s.act (F.PWM_TRG_CFG_PAIR l))).en = true → bit t.pwm.raised l = true ∧ ∀ n < 4, t.gauX n =
         if s.actB (F.GAU_SEQ_EN n) && s.act (F.GAU_SEQ_TRIG_SRC n) == 2 && s.act (F.GAU_SEQ_PWM_LINE n) == l then { s.gauX n with trig := true }
         else s.gauX n) ∧
       t = { u with pwm := { s.pwm with lines := t.pwm.lines, raised := t.pwm.raised }, gau := t.gau })) ∧
  (∀ (s : State) (fc n : Nat), n < 4 →
     let u : State := s.at fc
     let x := s.gauX n
     let due := s.gauRuns && s.actB (F.GAU_SEQ_EN n) && (match s.act (F.GAU_SEQ_TRIG_SRC n) with
       | 1 => u.fc == 0 && s.turn.toNat % s.act (F.GAU_PERIOD_PERIOD n) == 0 && x.turnTrig != some s.ticks
       | 2 => x.trig
       | _ => false)
     (due = false → exec (.gaugeTrigger fc n) s = .next u) ∧
     (due = true → ∃ t, exec (.gaugeTrigger fc n) s = .next t ∧ (t.gauX n).trig = false ∧
       t.gauX n = { x with trig := false, turnTrig := (t.gauX n).turnTrig, seq := (if x.cal = none ∧ x.seq = GauSeq.idle
         then GauSeq.delay (u.now + 96 * s.act (F.GAU_SEQ_DELAY n)) else x.seq) } ∧
       (∀ o, o ≠ n → t.gauX o = s.gauX o) ∧
       t.get (F.GAU_COUNT_TRIG_MISS n) = (if x.cal = none ∧ x.seq ≠ .idle then satAdd 255 (s.get (F.GAU_COUNT_TRIG_MISS n)) 1
         else s.get (F.GAU_COUNT_TRIG_MISS n)) ∧
       s.sameRegsBut [F.GAU_COUNT_TRIG_MISS n, F.GAU_STATE_STATE n, F.GAU_STATUS_SEQ_BUSY, F.GAU_STATUS_CAL_BUSY] t ∧
       t = { u with regs := t.regs, fresh := t.fresh, gau := t.gau }) ∧
     ((∀ at_, x.seq = .delay at_ → s.gauRuns = false ∨ u.now < at_) → exec (.gaugeDelayEnd fc n) s = .next u) ∧
     (∀ at_, x.seq = .delay at_ → s.gauRuns = true → at_ ≤ u.now → ∃ t, exec (.gaugeDelayEnd fc n) s = .next t ∧
       (x.inj.isSome = true → t.gauX n = { x with seq := .late } ∧
         t.get (F.GAU_COUNT_LATE n) = satAdd 255 (s.get (F.GAU_COUNT_LATE n)) 1) ∧
       (x.inj = none → x.tail = true → t = u.setGau n { x with seq := .late }) ∧
       (x.inj = none → x.tail = false → (t.gauX n).seq = .run 0 ∧ (t.gauX n).fresh = false ∧ t.get (F.GAU_STATE_ENTRY n) = 0)))

/-- A conversion that has ended goes into its entry's tracker and accumulator (R239, R240), as Table 9.1 scales its input (R232), out of range
with its OVR (R233, R238); the sequence goes on with the next entry or ends (R235). Before its end nothing happens. A read clears the
tracker. A command whose time has not come, or whose condition does not hold, changes nothing: the model's convention (log entry 7). -/
def Obligations.AConversionEntersItsEntry : Prop :=
  ∀ (s : State) (fc n : Nat) (v : Int), n < 4 →
    let u : State := s.at fc
    let x := s.gauX n
    let works := s.gauRuns && x.converting && decide (x.endAt ≤ u.now)
    let code (e : Nat) := gauCode (s.act (F.GAU_ENT_CFG_GAIN n e)) (gauInput (s.act (F.GAU_ENT_CFG_INPUT n e)) v)
    (works = false → exec (.conversionEnd fc n v) s = .next u) ∧
    (works = true → x.discard = false → ∀ e < 16, s.act (F.GAU_ENT_CFG_ACC_N n e) ≤ 10 →
      (x.inj = some e ∧ x.seq ≠ .late) ∨ (x.inj = none ∧ x.tail = false ∧ x.seq = .run e) →
      ∃ t, exec (.conversionEnd fc n v) s = .next t ∧
        t.get (F.GAU_ENT_TRACK_MIN n e) = min (code e).1 (s.get (F.GAU_ENT_TRACK_MIN n e)) ∧
        t.get (F.GAU_ENT_TRACK_MAX n e) = max (code e).1 (s.get (F.GAU_ENT_TRACK_MAX n e)) ∧
        t.flag (F.GAU_ENT_STATE_LAST_OVR n e) = (code e).2 ∧ t.flag (F.GAU_ENT_STATE_LAST_SETTLING n e) = x.settling ∧
        (s.get (F.GAU_ENT_STATE_PARTIAL n e) + 1 < 2 ^ s.act (F.GAU_ENT_CFG_ACC_N n e) →
          t.get (F.GAU_ENT_STATE_PARTIAL n e) = s.get (F.GAU_ENT_STATE_PARTIAL n e) + 1 ∧
          t.get (F.GAU_ENT_ACC_SUM n e) = s.get (F.GAU_ENT_ACC_SUM n e)) ∧
        (2 ^ s.act (F.GAU_ENT_CFG_ACC_N n e) ≤ s.get (F.GAU_ENT_STATE_PARTIAL n e) + 1 →
          t.get (F.GAU_ENT_STATE_PARTIAL n e) = 0 ∧ t.flag (F.GAU_ENT_ACC_NEW n e) = true ∧
          t.get (F.GAU_ENT_ACC_N n e) = s.act (F.GAU_ENT_CFG_ACC_N n e) ∧
          t.get (F.GAU_ENT_ACC_SUM n e) = ((sparseGet (0, false, false) x.sums e).1 + (code e).1) % 2 ^ 22) ∧
        (let a := (F.GAU_ENT_TRACK_MIN n e).off
         s.latches.find? (fun l => l.1 == a) = none → ∀ later, later % 3072 ≠ fc % 3072 ∨
            (∀ f ∈ t.fresh, f.1 ≠ (F.GAU_ENT_TRACK_MIN n e).key ∧ f.1 ≠ (F.GAU_ENT_TRACK_MAX n e).key) → ∃ r,
              exec (.clearOnRead later a 4) t = .next r ∧
            r.get (F.GAU_ENT_TRACK_MIN n e) = 0xFFF ∧ r.get (F.GAU_ENT_TRACK_MAX n e) = 0 ∧
            r.linkOut = t.linkOut ++ [.read a (t.get (F.GAU_ENT_TRACK_MIN n e) + 65536 * t.get (F.GAU_ENT_TRACK_MAX n e))]) ∧
        (x.inj = some e → (t.gauX n).inj = none ∧ (t.gauX n).seq = x.seq) ∧
        (x.inj = none → (t.gauX n).seq = if e + 1 < s.act (F.GAU_SEQ_LEN n) then .run (e + 1) else .idle))

/-- An injected conversion starts on an idle converter and is dropped, counted and signalled on a busy one and during a calibration, that of
start-up too (R242, R244); a self-calibration abandons what the converter does (R243). A self-calibration ends after 24,000 Gauge clocks
(R243): factors within their limits are taken, others leave the old ones in use and signal. A command whose time has not come, or whose
condition does not hold, changes nothing: the model's convention (log entry 7). -/
def Obligations.InjectionsAndSelfCalibrations : Prop :=
  (∀ (s : State) (fc n : Nat), n < 4 →
     let u : State := s.at fc
     let x := s.gauX n
     (∀ e < 16,
       (s.gauRuns = false → x.cal = none → exec (.injGo fc n e) s = .next (u.put (F.GAU_CTRL_INJ_ENTRY n) e)) ∧
       (s.gauRuns = true ∨ x.cal.isSome = true → ∃ t, exec (.injGo fc n e) s = .next t ∧ t.get (F.GAU_CTRL_INJ_ENTRY n) = e ∧
         (x.cal.isSome = true ∨ x.converting = true → t.gau = s.gau ∧
           t.get (F.GAU_COUNT_INJ_DROP n) = satAdd 65535 (s.get (F.GAU_COUNT_INJ_DROP n)) 1 ∧
           t.flt.raised = s.flt.raised ++ [27]) ∧
         (x.cal = none → x.converting = false → (t.gauX n).inj = some e ∧ (t.gauX n).seq = x.seq ∧ u.now < (t.gauX n).endAt ∧
           t.get (F.GAU_STATE_ENTRY n) = e ∧ t.get (F.GAU_STATE_STATE n) = 2 ∧ t.get (F.GAU_COUNT_INJ_DROP n) = s.get (F.GAU_COUNT_INJ_DROP n)))) ∧
     (s.gauRuns = false ∨ x.cal.isSome = true → exec (.selfCal fc n) s = .next u) ∧
     (s.gauRuns = true → x.cal = none → ∃ t, exec (.selfCal fc n) s = .next t ∧
       t.gauX n = { x with cal := some (u.now + 1), seq := .idle, inj := none, tail := false, fresh := true, trig := false } ∧
       t.get (F.GAU_STATE_STATE n) = 3 ∧ t.getBit F.GAU_STATUS_CAL_BUSY n = true ∧
       t.get (F.GAU_COUNT_INJ_DROP n) = (if x.inj.isSome then satAdd 65535 (s.get (F.GAU_COUNT_INJ_DROP n)) 1 else s.get (F.GAU_COUNT_INJ_DROP n)) ∧
       s.sameRegsBut [F.GAU_COUNT_INJ_DROP n, F.GAU_STATE_STATE n, F.GAU_STATUS_SEQ_BUSY, F.GAU_STATUS_CAL_BUSY] t)) ∧
  (∀ (s : State) (fc n : Nat) (offset : Int) (gain : Nat), n < 4 → gain < 65536 →
     let u : State := s.at fc
     let good := -256 ≤ offset ∧ offset ≤ 256 ∧ 19 * 32768 ≤ 20 * gain ∧ 20 * gain ≤ 21 * 32768
     ((∀ at_, (s.gauX n).cal = some at_ → u.now < at_ + 2304000) → exec (.gaugeSelfCalEnd fc n offset gain) s = .next u) ∧
     (∀ at_, (s.gauX n).cal = some at_ → at_ + 2304000 ≤ u.now → ∃ t, exec (.gaugeSelfCalEnd fc n offset gain) s = .next t ∧
       (t.gauX n).cal = none ∧
       (good → t.geti (F.GAU_CAL_OFFSET_OFFSET n) = offset ∧ t.get (F.GAU_CAL_GAIN_GAIN n) = gain ∧ t.flag (F.GAU_STATE_CAL_VALID n) = true ∧
         t.getBit F.GAU_STATUS_CAL_VALID n = true ∧ t.flag (F.GAU_STATE_CAL_FAILED n) = false ∧ t.flt.raised = s.flt.raised) ∧
       (¬ good → t.geti (F.GAU_CAL_OFFSET_OFFSET n) = s.geti (F.GAU_CAL_OFFSET_OFFSET n) ∧
         t.get (F.GAU_CAL_GAIN_GAIN n) = s.get (F.GAU_CAL_GAIN_GAIN n) ∧ t.flag (F.GAU_STATE_CAL_FAILED n) = true ∧
         t.flt.raised = s.flt.raised ++ [28]) ∧
       s.sameRegsBut [F.GAU_CAL_OFFSET_OFFSET n, F.GAU_CAL_GAIN_GAIN n, F.GAU_STATE_CAL_VALID n, F.GAU_STATE_CAL_FAILED n, F.GAU_STATUS_CAL_VALID,
         F.GAU_STATE_STATE n, F.GAU_STATUS_SEQ_BUSY, F.GAU_STATUS_CAL_BUSY, F.FLT_LIVE_LO_LIVE] t))

/-- A supply loop uses its one waiting sample, a lower-numbered loop due together with it first (R274, R276, R277): without OVR its measurement,
its set-point ramp and the staged duty of its pair follow; with OVR the sample is left out and counted. With two waiting, the older one is a
miss (R275). Each of these runs asks for its injection first (R279). A command whose time has not come, or whose condition does not hold,
changes nothing: the model's convention (log entry 7). -/
def Obligations.SupplyLoopsRunSkipAndMiss : Prop :=
  ∀ (s : State) (fc n : Nat), n < 8 →
    let u : State := s.at fc
    let l := s.loop n
    let asks (rest : List (Nat × Nat × Bool × Nat)) : State := (u.setLoop n { l with samples := rest }).loopInject n
    (s.ctlRuns = false ∨ s.loopOn n = false ∨ s.loopWaits n = true ∨ l.samples.length ≠ 1 → exec (.supplyLoopRun fc n) s = .next u) ∧
    (s.ctlRuns = true → s.loopOn n = true → s.loopWaits n = false → ∀ sum k at_,
      (l.samples = [(sum, k, true, at_)] → ∃ t, exec (.supplyLoopRun fc n) s = .next t ∧ t.flag (F.CTL_LOOP_STATUS_OVR_SKIP n) = true ∧
        t.get (F.CTL_LOOP_COUNT_OVR_SKIPS n) = satAdd 255 (s.get (F.CTL_LOOP_COUNT_OVR_SKIPS n)) 1 ∧
        (asks []).sameRegsBut [F.CTL_LOOP_STATUS_OVR_SKIP n, F.CTL_LOOP_COUNT_OVR_SKIPS n, F.CTL_LOOP_STATUS_MISSED_LAST n] t ∧
        t = { asks [] with regs := t.regs, fresh := t.fresh }) ∧
      (l.samples = [(sum, k, false, at_)] → sum * 16 / 2 ^ k < 65536 → ∃ t, exec (.supplyLoopRun fc n) s = .next t ∧
        t.get (F.CTL_LOOP_MEAS_Y n) = sum * 16 / 2 ^ k ∧
        (l.started = true → t.get (F.CTL_LOOP_TARGET_T n) = s.get (F.CTL_LOOP_TARGET_T n) ∧
          t.get (F.CTL_LOOP_MEAS_RAMP_SP n) = ramp (s.get (F.CTL_LOOP_MEAS_RAMP_SP n)) (s.get (F.CTL_LOOP_TARGET_T n)) (s.act (F.CTL_LOOP_RAMP_SLEW n))) ∧
        t.getBit F.PWM_LOAD_PENDING_PENDING (s.act (F.CTL_LOOP_CFG_PAIR n)) = true ∧
        (t.loop n).started = true ∧ (t.loop n).samples = [] ∧
        (t.loop n).e1 = ((t.get (F.CTL_LOOP_MEAS_RAMP_SP n) : Int) - (sum * 16 / 2 ^ k : Nat)) * 65536 ∧
        t.flag (F.CTL_LOOP_STATUS_MISSED_LAST n) = false ∧ t.flag (F.CTL_LOOP_STATUS_OVR_SKIP n) = false ∧
        t.gau = (asks []).gau ∧ (∀ o, o ≠ n → t.loop o = s.loop o))) ∧
    (s.ctlRuns = false ∨ l.samples.length < 2 → exec (.supplyLoopMiss fc n) s = .next u) ∧
    (s.ctlRuns = true → ∀ sum k at_ b r, l.samples = (sum, k, false, at_) :: b :: r → ∃ t, exec (.supplyLoopMiss fc n) s = .next t ∧
      t.getBit F.CTL_FLAGS_DEADLINE n = true ∧ t.get (F.CTL_LOOP_COUNT_MISSES n) = satAdd 255 (s.get (F.CTL_LOOP_COUNT_MISSES n)) 1 ∧
      t.flag (F.CTL_LOOP_STATUS_MISSED_LAST n) = true ∧ t.flt.raised = (asks (b :: r)).flt.raised ++ [22] ∧
      (asks (b :: r)).sameRegsBut [F.CTL_FLAGS_DEADLINE, F.CTL_LOOP_COUNT_MISSES n, F.CTL_COUNT_MISSES, F.CTL_LOOP_STATUS_OVR_SKIP n,
        F.CTL_LOOP_STATUS_MISSED_LAST n] t ∧
      t = { asks (b :: r) with regs := t.regs, fresh := t.fresh, flt := t.flt })

/-- A level loop of a slot in use works once in its Turn, from fc 256 to 2,815 (R287): where the last Turn was valid, and the loop did not start
in this one, it computes; otherwise it holds its command and shows FROZEN (R288, R289, R290). No loop works while the engine does not run,
or after an overrun. HALT waits for the next boundary where it is permitted and is counted where it is not; its release acts at once (R286,
Table 14.9). STEP is taken while halted alone, and counted elsewhere. A command whose time has not come, or whose condition does not hold,
changes nothing: the model's convention (log entry 7). -/
def Obligations.LevelLoopsHaltAndStep : Prop :=
  (∀ (s : State) (fc : Nat),
     let u : State := s.at fc
     let works := s.ctlRuns = true ∧ 256 ≤ fc % 3072 ∧ fc % 3072 < 2816 ∧ bit s.overran 2 = false
     (¬works → ∀ l : List Nat, l.all (slotIn s.variant) = true → exec (.levelLoopRun fc l) s = .next u) ∧
     (works → ∀ sl, slotIn s.variant sl = true →
       (s.worked.contains (2, sl) = true → exec (.levelLoopRun fc [sl]) s = .next u) ∧
       (s.worked.contains (2, sl) = false → s.lvlOn sl = false →
         exec (.levelLoopRun fc [sl]) s = .next { u with worked := s.worked ++ [(2, sl)] }) ∧
       (s.worked.contains (2, sl) = false → s.lvlOn sl = true →
         (∀ e ∈ s.fab.fill, e.1 = sl → e.2 = s.turn.toNat → (s.lvl sl).startAt = s.turn) → ∃ t, exec (.levelLoopRun fc [sl]) s = .next t ∧
         let valid := s.lvlSteady sl && (s.lvl sl).startAt != s.turn
         t.flag (F.CTL_LVL_STATUS_FROZEN sl) = !valid ∧
         t.wantOf sl = t.geti (F.CTL_LVL_STATUS_G_CMD sl) ∧ (t.lvl sl).ran = true ∧ (∀ o, o ≠ sl → t.lvl o = s.lvl o) ∧
         (valid = false → t.get (F.CTL_LVL_STATUS_G_CMD sl) = s.get (F.CTL_LVL_STATUS_G_CMD sl) ∧ t.lvl sl = { s.lvl sl with ran := true }) ∧
         (valid = true → t.get (F.CTL_LVL_OUT_IN_REF sl) = s.get (F.CHZ_SLOT_LEVEL_IN_LEVEL sl) ∧
           t.geti (F.CTL_LVL_OUT_ERR sl) = clampInt (-32768) 32767
             (s.actI (F.CTL_LVL_CFG_LVL_TARGET sl) - s.geti (F.CHZ_SLOT_LEVEL_OUT_LEVEL sl)) ∧
           (t.lvl sl).e2 = (s.lvl sl).e1) ∧
         s.sameRegsBut [F.CTL_LVL_STATUS_FROZEN sl, F.CTL_LVL_STATUS_CLAMPED sl, F.CTL_LVL_STATUS_G_CMD sl, F.CTL_LVL_OUT_IN_REF sl,
           F.CTL_LVL_OUT_ERR sl] t ∧
         t = { u with regs := t.regs, fresh := t.fresh, free := t.free, worked := t.worked, ctl := t.ctl, fab := { s.fab with want := t.fab.want } }))) ∧
  (∀ (s : State) (fc : Nat),
     let u : State := s.at fc
     let refused (t : State) : Prop := t.get F.CTL_DEBUG_REFUSED = satAdd 255 (s.get F.CTL_DEBUG_REFUSED) 1 ∧ s.wrote fc [F.CTL_DEBUG_REFUSED] t
     (s.haltOk = true → exec (.halt fc true) s = .next { u.putB F.CTL_DEBUG_HALT true with ctl := { s.ctl with haltReq := true } }) ∧
     (s.haltOk = false → ∃ t, exec (.halt fc true) s = .next t ∧ refused t) ∧
     (∃ t, exec (.halt fc false) s = .next t ∧ t.flag F.CTL_DEBUG_HALT = false ∧ t.flag F.CTL_STATUS_HALTED = false ∧
       t.ctl = { s.ctl with haltReq := false, stepReq := false, stepping := false } ∧ (s.pwr.clkLost = false → t.pwmFrozen = false) ∧
       s.sameRegsBut [F.CTL_DEBUG_HALT, F.CTL_STATUS_HALTED, F.PWM_STATUS_FROZEN] t ∧
           t = { u with regs := t.regs, fresh := t.fresh, pwm := t.pwm, ctl := t.ctl }) ∧
     (s.flag F.CTL_STATUS_HALTED = true → exec (.step fc) s = .next { u with ctl := { s.ctl with stepReq := true } }) ∧
     (s.flag F.CTL_STATUS_HALTED = false → ∃ t, exec (.step fc) s = .next t ∧ refused t))

/-! ### Plans and registers -/

/-- A PLAN_SWAP in its mode (R172, R184, R185): busy while the Shadow Plan is locked, refused where the module is OFF, else pending from now on.
A command whose time has not come, or whose condition does not hold, changes nothing: the model's convention (log entry 7). -/
def Obligations.SwapsPendOrAreRefused : Prop :=
  ∀ (s : State) (fc mode : Nat) (d : Desc), mode < 3 → s.offers Op.planSwap d →
    let c : Instr := if mode = 0 then .planSwapNext fc d.sq d.idx else if mode = 1 then .planSwapAtTurn fc d.sq d.idx
        else .planSwapCheck fc d.sq d.idx
    let u := s.started fc d.key
    let off := s.pstate = 0 ∨ s.pwr.off = true
    (dMode d.body ≠ mode → exec c s = .next (s.at fc)) ∧
    (dMode d.body = mode →
      (s.shadowLocked = true → s.takesCpl d.cq → ∃ t, exec c s = .next t ∧ s.completed fc d 3 0x07 0 0 t ∧ u.told [] t) ∧
      (s.shadowLocked = false → off → s.takesCpl d.cq → ∃ t, exec c s = .next t ∧ s.completed fc d 3 0x03 0 s.pstate t ∧ u.told [] t) ∧
      (s.shadowLocked = false → ¬ off → ∃ t, exec c s = .next t ∧ t.flag F.PLAN_STATUS_SWAP_PENDING = true ∧
        s.sameRegsBut [F.PLAN_STATUS_SWAP_PENDING] t ∧
        t = { u with regs := t.regs, fresh := t.fresh,
                     plan := { s.plan with swap := some ⟨mode, dTarget d.body, some d.key, s.turn, false, none, false⟩ } }))

/-- Validation of a pending swap ends (R181, R184): a rule that the incoming Plan breaks refuses the swap, reports it and leaves both Plans; a
clean Plan is checked and waits for the commit window. In the window, which comes once in a Turn, a swap whose Plan the Chuck accepts will
commit, and one it does not is refused; a CHECK so accepted ends with LAST_SWAP unchanged; an AT_TURN swap not validated by the Turn before
TARGET is LATE, or NO_SHADOW, which is checked first. A command whose time has not come, or whose condition does not hold, changes nothing:
the model's convention (log entry 7). -/
def Obligations.ValidationAndTheWindowDecideASwap : Prop :=
  ∀ (s : State) (fc : Nat),
    let u : State := s.at fc
    let w0 : State := s.at 2816
    let gone (w : Swap) (code : Nat) (t : State) : Prop := t.plan.swap = none ∧ (s.flash.stage = .idle → t.plan = { s.plan with swap := none }) ∧
      t.flag F.PLAN_STATUS_SWAP_PENDING = false ∧ t.get F.PLAN_REJECT_CODE = code % 256 ∧ t.active = s.active ∧ t.shadow = s.shadow ∧
      t.get F.PLAN_STATUS_LAST_SWAP = if w.mode = 2 then s.get F.PLAN_STATUS_LAST_SWAP else 2
    ((∀ w, s.plan.swap = some w → w.validating = false ∨ w.ended.isSome = true) → exec (.swapValidationEnd fc) s = .next u) ∧
    (∀ w, s.plan.swap = some w → w.validating = true → w.ended = none →
      (u.swapFaults = none → ∃ t, exec (.swapValidationEnd fc) s = .next t ∧ t.flag F.PLAN_STATUS_SHADOW_CHECKED = true ∧
        s.sameRegsBut [F.PLAN_STATUS_SHADOW_CHECKED] t ∧
        t = { u with regs := t.regs, fresh := t.fresh, plan := { s.plan with swap := some { w with ended := some (s.turn, fc % 3072, none) } } }) ∧
      (∀ r, u.swapFaults = some r → ∃ t, exec (.swapValidationEnd fc) s = .next t ∧ gone w r.1 t)) ∧
    (s.pwr.off = true ∨ s.pwr.clkLost = true ∨ (3, 0) ∈ s.worked → exec .commitWindow s = .next w0) ∧
    (s.pwr.off = false → s.pwr.clkLost = false → (3, 0) ∉ s.worked → ∃ t, exec .commitWindow s = .next t ∧ t.fc = 2816 ∧
      (s.plan.swap = none → t.plan = s.plan) ∧
      (∀ w, s.plan.swap = some w → w.commit = true → t.plan = s.plan) ∧
      (∀ w, s.plan.swap = some w → w.commit = false →
        (w.ended = none → ¬(w.mode = 1 ∧ w.target = s.turn + 1) → t.plan = s.plan) ∧
        (w.ended = none → w.mode = 1 → w.target = s.turn + 1 → gone w (if s.flag F.PLAN_STATUS_SHADOW_VALID then 0x13 else 0x14) t) ∧
        (w.ended.isSome = true → ∀ r, w0.chuckFaults = some r → gone w r.1 t) ∧
        (w.ended.isSome = true → w0.chuckFaults = none →
          (w.mode = 0 → t.plan = { s.plan with swap := some { w with commit := true } }) ∧
          (w.mode = 1 → laterThan w.target w.accepted = true → laterThan w.target (s.turn + 1) = true ∨ w.target = s.turn + 1 →
            t.plan = { s.plan with swap := some { w with commit := true } }) ∧
          (w.mode = 1 → laterThan w.target w.accepted = false → gone w 0x13 t) ∧
          (w.mode = 2 → t.plan = { s.plan with swap := none } ∧ t.flag F.PLAN_STATUS_SWAP_PENDING = false ∧
            t.get F.PLAN_STATUS_LAST_SWAP = s.get F.PLAN_STATUS_LAST_SWAP))))

/-- The Shadow Plan takes host writes of its staged fields unless it is locked, when writes and PLAN_CTRL are counted and ignored (R172, R180);
bits of a mask that name absent combiners or ports take nothing (R2). A parse ends (R179): a sound image waits for the boundary, an unsound
one is reported and leaves the Shadow Plan. Errors of the Plan RAM are counted and signalled; an uncorrectable one of both copies loses the
Active Plan, of the Shadow Plan its validity (R173). Flash start begins once, in STANDBY with BOOT_STRAP0 (R188, R190): it reads the header,
and ends at once where the lifecycle gives no flash. A bad header or no sound image ends the sequence; a sound one leads on to its images,
and a whole image to its parse. A command whose time has not come, or whose condition does not hold, changes nothing: the model's convention
(log entry 7). -/
def Obligations.TheShadowPlanIsWrittenParsedAndStarted : Prop :=
  (∀ (s : State) (fc : Nat),
     let u : State := s.at fc
     let dropped (c : Instr) : Prop := ∃ t, exec c s = .next t ∧ s.counted fc F.PLAN_COUNT_DROPPED_WRITES 255 t
     (∀ off v, findReg off = none → exec (.rwsWrite fc off v) s = .next u) ∧
     (∀ off v r i, findReg off = some (r, i) →
       let takes := !s.pwr.off && !(rwsOf r).isEmpty && namesIn s.variant r.names i && !routeFixed s.variant off
       (takes = false → exec (.rwsWrite fc off v) s = .next u) ∧
       (takes = true → s.shadowLocked = true → dropped (.rwsWrite fc off v)) ∧
       (takes = true → s.shadowLocked = false → ∃ t, exec (.rwsWrite fc off v) s = .next t ∧
         (∀ f ∈ rwsOf r, t.shadow.get (fieldAt f off) = bits (v &&& presentMask s.variant off) f.lo f.width) ∧
         (∀ g : Field, g.off ≠ off → g.lo < 32 → t.shadow.get g = s.shadow.get g) ∧ t.flag F.PLAN_STATUS_SHADOW_CHECKED = false ∧
         s.sameRegsBut [F.PLAN_STATUS_SHADOW_CHECKED] t ∧
         t = { u with regs := t.regs, fresh := t.fresh, shadow := { s.shadow with flds := t.shadow.flds } })) ∧
     (let p := s.plan
      (s.pwr.off = true → exec (.copyActive fc) s = .next u ∧ exec (.clearShadow fc) s = .next u ∧ exec (.flashLoad fc) s = .next u) ∧
      (s.pwr.off = false → s.shadowLocked = true →
        dropped (.copyActive fc) ∧ dropped (.clearShadow fc) ∧ dropped (.flashLoad fc)) ∧
      (s.pwr.off = false → s.shadowLocked = false →
        exec (.copyActive fc) s = .next { u with plan := { p with copyActive := true } } ∧
        exec (.clearShadow fc) s = .next { u with plan := { p with clearShadow := true } } ∧
        exec (.flashLoad fc) s = .next { u with plan := { p with flashLoad := true } }))) ∧
  (∀ (s : State) (fc : Nat),
     let u : State := s.at fc
     let parsed := parseImage s.variant s.plan.image s.plan.imageBad
     (s.plan.parsing = none ∨ s.plan.replace.isSome = true → exec (.parseEnd fc) s = .next u) ∧
     (∀ fr, s.plan.parsing = some fr → s.plan.replace = none →
       (∀ p, parsed = .inr p → exec (.parseEnd fc) s = .next { u with plan := { s.plan with replace := some (p, fr) } }) ∧
       (∀ r, parsed = .inl r → ∃ t, exec (.parseEnd fc) s = .next t ∧ t.plan.parsing = none ∧
         (s.flash.stage = .idle → t.plan = { s.plan with parsing := none }) ∧ t.shadow = s.shadow ∧
         t.flag F.PLAN_STATUS_PARSING = false ∧ t.get F.PLAN_REJECT_CODE = r.1 % 256 ∧ t.flag F.PLAN_REJECT_AT_SWAP = false ∧
         t.get F.PLAN_COUNT_REJECTS = satAdd 255 (s.get F.PLAN_COUNT_REJECTS) 1 ∧ ((∀ k, fr ≠ .load k) → t.flt = s.flt))) ∧
     (∀ kind < 4, ∀ word < 98304, ∀ single, s.pwr.off = false → ∃ t, exec (.planEcc fc kind word single) s = .next t ∧ t.flt.raised = s.flt.raised ++ [5] ∧
       t.get (if single then F.PLAN_ECC_CORRECTED else F.PLAN_ECC_UNCORRECTED) =
         satAdd 65535 (s.get (if single then F.PLAN_ECC_CORRECTED else F.PLAN_ECC_UNCORRECTED)) 1 ∧
       (single = true → t.plan = s.plan) ∧
       (single = false →
         (kind = 0 → t.plan = { s.plan with repair := true }) ∧
         (kind = 1 → t.flag F.PLAN_STATUS_ACTIVE_VALID = false ∧ t.plan = { s.plan with activeLost := true, lost := true }) ∧
         (kind = 2 → t.flag F.PLAN_STATUS_SHADOW_VALID = false ∧ t.plan = s.plan) ∧
         (kind = 3 → word ∈ t.plan.imageBad ∧ t.plan = { s.plan with imageBad := t.plan.imageBad })) ∧
       s.sameRegsBut [if single then F.PLAN_ECC_CORRECTED else F.PLAN_ECC_UNCORRECTED, F.PLAN_STATUS_ACTIVE_VALID, F.PLAN_STATUS_SHADOW_VALID] t ∧
       t = { u with regs := t.regs, fresh := t.fresh, plan := t.plan, flt := t.flt })) ∧
  (∀ (s : State) (fc : Nat),
     let u : State := s.at fc
     let starts := s.pstate = 1 ∧ bit s.pwr.straps 0 = true ∧ s.get F.PLAN_BOOT_STAGE = 0 ∧ s.flash.stage = .idle ∧ s.pwr.leaving = false
     let reads := s.lifecycle = 1 ∨ s.lifecycle = 2 ∨ s.lifecycle = 3
     let ends (r : Nat) (t : State) : Prop := t.flash = { s.flash with stage := .idle, autostart := false } ∧ t.get F.PLAN_BOOT_STAGE = 6 ∧
       t.get F.PLAN_BOOT_RESULT = r
     (¬ starts → exec (.flashStart fc) s = .next u) ∧
     (starts → ∃ t, exec (.flashStart fc) s = .next t ∧
       (reads → t.flash = { s.flash with stage := .header, autostart := true, tokensLeft := 0 } ∧ t.get F.PLAN_BOOT_STAGE = 1) ∧
       (¬ reads → t.flash.stage = .idle ∧ t.get F.PLAN_BOOT_STAGE = 6 ∧ t.get F.PLAN_BOOT_RESULT = 6) ∧
       s.sameRegsBut [F.PLAN_BOOT_STAGE, F.PLAN_BOOT_RESULT, F.PLAN_BOOT_IMAGE_USED, F.PLAN_BOOT_FALLBACK, F.PLAN_BOOT_TOKENS_OK,
         F.PLAN_STATUS_PARSING, F.PLAN_STATUS_SWAP_PENDING] t) ∧
     (∀ b : List Byte,
       (s.flash.stage = .header → ∃ t, exec (.flashReadEnd fc b) s = .next t ∧
         (flashHeaderOk b = false → ends 1 t) ∧
         (flashHeaderOk b = true → leAt b 16 4 = 0 ∨ leAt b 20 2 = 0 →
           t.flash = { s.flash with stage := .heads (leAt b 8 4) (leAt b 12 4) }) ∧
         (flashHeaderOk b = true → leAt b 16 4 ≠ 0 → leAt b 20 2 ≠ 0 →
           t.flash = { s.flash with stage := .tokens (leAt b 20 2) (leAt b 8 4) (leAt b 12 4) })) ∧
       (∀ n a c, s.flash.stage = .tokens n a c → ∃ t, exec (.flashReadEnd fc b) s = .next t ∧
         t.flash = { s.flash with stage := .heads a c, tokensLeft := n } ∧ t.sec.ops.length = s.sec.ops.length + n) ∧
       (∀ a c, s.flash.stage = .heads a c → ∃ t, exec (.flashReadEnd fc b) s = .next t ∧
         let heads := (if a = 0 then [1] else if c = 0 then [0] else [0, 1]).zipIdx.map (fun e => (e.1, (b.drop (192 * e.2)).take 192))
         (imageOrder s.variant heads = [] → ends 2 t) ∧
         (∀ w rest, imageOrder s.variant heads = w :: rest → t.flash = { s.flash with stage := .image w rest.head? })) ∧
       (∀ w o, s.flash.stage = .image w o → s.plan.parsing = none → s.plan.replace = none → s.plan.swap = none →
         ∃ t, exec (.flashReadEnd fc b) s = .next t ∧ t.flash = { s.flash with stage := .parse w o } ∧ t.plan.parsing = some (.flash w) ∧
           t.flag F.PLAN_STATUS_PARSING = true ∧ t.get F.PLAN_BOOT_STAGE = 2)))

/-- A host write (R2, R8 to R11): one that is not 32 bits wide and aligned, is for no register, or comes while the module is OFF is discarded;
each field takes it as its access code says, a W1C bit that was set in this very fc stays set, and no other field changes. At the first
offset of BAR2 a write rings the doorbell (R193). What a carrier zero of this very fc loads is what stood before the write (R255). A host
read is answered with the bytes it names of the register's word (R8); reading the low word of a wide value latches its upper word, the next
read of that takes the latched one (R12); a read clears the RC fields of its register, but for what they counted in this very fc, and
changes nothing else (R10, R11). A command whose time has not come, or whose condition does not hold, changes nothing: the model's
convention (log entry 7). -/
def Obligations.RegisterAccessFollowsTheCodes : Prop :=
  (∀ (s : State) (fc off len v : Nat),
     let u : State := s.at fc
     (s.pwr.off = true → exec (.registerWrite fc off len v) s = .next u) ∧
     (s.pwr.off = false → off = bar2 → exec (.registerWrite fc off len v) s = .next u.askDoorbells) ∧
     (off ≠ bar2 → off % 4 ≠ 0 ∨ len ≠ 4 ∨ findReg off = none → exec (.registerWrite fc off len v) s = .next u) ∧
     (∀ r i, s.pwr.off = false → off % 4 = 0 → len = 4 → findReg off = some (r, i) →
       (namesIn s.variant r.names i = false ∨ ownRow off = true ∨ s.baseKept r i = true → exec (.registerWrite fc off len v) s = .next u) ∧
       (namesIn s.variant r.names i = true → ownRow off = false → s.baseKept r i = false → s.ownedPair r i = true →
         ∃ t, exec (.registerWrite fc off len v) s = .next t ∧ s.counted fc (F.PWM_PAIR_COUNT_OWNED_DROPS i) 255 t) ∧
       (namesIn s.variant r.names i = true → ownRow off = false → s.baseKept r i = false → s.ownedPair r i = false →
         r.base ≠ (F.LOG_RATE_CAP 0).off → r.base ≠ (F.HIF_MSIX_CTRL_MASK 0).off → off ≠ F.APZ_CFG_ROLE.off →
         ∃ t, exec (.registerWrite fc off len v) s = .next t ∧
           (∀ f ∈ r.fields,
             let g := fieldAt f off
             let x := bits v f.lo f.width
             t.get g = (match f.acc with
               | .rw => if refusedValue off f.lo x then s.get g else x
               | .rwl => if s.rwlLocked then s.get g else x
               | .w1c => (s.get g - (s.get g &&& x)) ||| (s.get g &&& x &&& u.freshBits g)
               | _ => s.get g)) ∧
           s.sameRegsBut (r.fields.map (fun f => fieldAt f off)) t ∧
           t = { u with regs := t.regs, fresh := t.fresh, pwm := (if blockOf off = 10 then (u.pwmSample s.active).pwm else s.pwm) }))) ∧
  (∀ (s : State) (fc off len : Nat),
     let u : State := s.at fc
     let a := off / 4 * 4
     let part (w : Nat) : Nat := w / 2 ^ (8 * (off % 4)) % 2 ^ (8 * len)
     (isWideLow a = true → ∃ t, exec (.wideLowRead fc off len) s = .next t ∧ t.linkOut = s.linkOut ++ [.read off (part (u.readWord a))] ∧
       (a + 4, u.readWord (a + 4)) ∈ t.latches ∧ (∀ e ∈ t.latches, e.1 = a + 4 → e.2 = u.readWord (a + 4))) ∧
     (4 ≤ off → isWideLow (a - 4) = true → isWideLow a = false → ∃ t, exec (.wideUpperRead fc off len) s = .next t ∧
       (∀ e, s.latches.find? (fun e => e.1 == a) = some e → t.linkOut = s.linkOut ++ [.read off (part e.2)] ∧
         t = { u with linkOut := t.linkOut, latches := sparseErase s.latches a }) ∧
       (s.latches.find? (fun e => e.1 == a) = none → t.linkOut = s.linkOut ++ [.read off (part (u.readWord a))] ∧ t.latches = s.latches)) ∧
     (isWideLow a = false → s.latches.find? (fun e => e.1 == a) = none → ∃ t, exec (.clearOnRead fc off len) s = .next t ∧
       t.linkOut = s.linkOut ++ [.read off (part (u.readWord a))] ∧
       (findReg a = none → t = { u with linkOut := t.linkOut }) ∧
       (∀ r i, findReg a = some (r, i) → namesIn s.variant r.names i = true →
         (∀ f ∈ r.fields, f.acc = .rc → t.get (fieldAt f a) = satAdd (2 ^ f.width - 1) f.reset (u.freshCount (fieldAt f a))) ∧
         s.sameRegsBut ((r.fields.filter (fun f => f.acc == .rc)).map (fun f => fieldAt f a)) t ∧
         t = { u with linkOut := t.linkOut, regs := t.regs, fresh := t.fresh })))

/-- ID_PART tells the variant (R3): it reads 0x6432 on the GW6432-M and 0x6416 on the GW6416-M, with bits 31 to 16 at 0, and no write changes it
or anything else. -/
def Obligations.IdPartTellsTheVariant : Prop :=
  ∀ (s : State) (fc : Nat),
    (s.latches.find? (fun e => e.1 == 0) = none → ∃ t, exec (.clearOnRead fc 0 4) s = .next t ∧
      t.linkOut = s.linkOut ++ [.read 0 (match s.variant with | .gw6432 => 0x6432 | .gw6416 => 0x6416)] ∧
      t = { s.at fc with linkOut := t.linkOut, regs := t.regs, fresh := t.fresh } ∧ s.sameRegsBut [] t) ∧
    (∀ len v, exec (.registerWrite fc 0 len v) s = .next (s.at fc))

/-! ### The Turn, power and the Apzer Link -/

/-- At a boundary the count goes on by one, the epoch with its wrap, and fc starts at 0 (R7, R18, R30); a swap that the commit window let
through exchanges the Plans, the old one becoming the Shadow Plan's predecessor, and without one the Active Plan stays (R171, R184). For
every role but a follower, whose count its sender may set (R369). While the module is OFF or the reference is lost there is no boundary. A
command whose time has not come, or whose condition does not hold, changes nothing: the model's convention (log entry 7). -/
def Obligations.ABoundaryCountsAndCommits : Prop :=
  ∀ (s : State) (m : TurnMeas), measOk s.variant m = true →
    (s.pwr.off = true ∨ s.pwr.clkLost = true → exec (.turnBoundary m) s = .next s) ∧
    (s.pwr.off = false → s.pwr.clkLost = false → s.get F.APZ_CFG_ROLE ≠ 2 → ∃ t, exec (.turnBoundary m) s = .next t ∧
      t.fc = 0 ∧ t.turn = s.turn + 1 ∧ t.epoch = (if s.turn + 1 = 0 then s.epoch + 1 else s.epoch) ∧
      t.active = (match s.plan.swap with
        | some w => if w.commit && (w.mode != 1 || w.target == s.turn + 1) then s.shadow else s.active
        | none => s.active) ∧
      (s.plan.copyActive = false → s.plan.clearShadow = false → s.plan.replace = none → t.shadow = (match s.plan.swap with
        | some w => if w.commit && (w.mode != 1 || w.target == s.turn + 1) then s.active else s.shadow
        | none => s.shadow)))

/-- Work of the Guard, the Gouge or the level loops that is not done at its deadline is flagged once in a Turn, and the Turn counts as overrun
once (R18, R23); a Gouge step that has overrun stages no taps, a level loop keeps its command. A command whose time has not come, or whose
condition does not hold, changes nothing: the model's convention (log entry 7). -/
def Obligations.AnOverrunIsFlaggedOncePerTurn : Prop :=
  ∀ (s : State) (fc cls : Nat), cls < 3 →
    let u : State := s.at fc
    let l := (u.classSlots cls).filter (fun sl => !s.worked.contains (cls, sl))
    (fc % 3072 < classEnd cls ∨ l = [] → exec (.turnOverrun fc cls) s = .next u) ∧
    (classEnd cls ≤ fc % 3072 → l ≠ [] → ∃ t, exec (.turnOverrun fc cls) s = .next t ∧ bit t.overran cls = true ∧
      (bit s.overran cls = true → t.overran = s.overran ∧ t.get F.TB_OVERRUN_OVR_COUNT = s.get F.TB_OVERRUN_OVR_COUNT) ∧
      (bit s.overran cls = false →
        t.flag (if cls = 0 then F.TB_OVERRUN_GRD_OVR else if cls = 1 then F.TB_OVERRUN_GOUGE_OVR else F.TB_OVERRUN_CTL_OVR) = true ∧
        t.get F.TB_OVERRUN_OVR_COUNT =
          (if s.overran = 0 then satAdd 65535 (s.get F.TB_OVERRUN_OVR_COUNT) 1 else s.get F.TB_OVERRUN_OVR_COUNT)) ∧
      (cls = 1 → ∀ sl ∈ l, (t.gg sl).staged = none) ∧ (cls = 2 → ∀ sl ∈ l, (t.lvl sl).overr = true ∧ t.wantOf sl = s.wantOf sl))

/-- POR and RESET_N (R357, R360, R375, R376): every register returns to its reset value, the OTP stays, and the module is held, and what happens
to it meanwhile does nothing; when nothing holds it any more start-up begins with the straps as sampled. A chip reset that the collector has
called for (R303, R374): the Plans are empty, nothing is in flight, the module is in STANDBY or in the state before it, and what the
always-on domain holds stays. A command whose time has not come, or whose condition does not hold, changes nothing: the model's convention
(log entry 7). -/
def Obligations.ResetsHoldReleaseAndRestart : Prop :=
  (∀ (s : State) (fc : Nat),
     let u : State := s.at fc
     (∃ t, exec (.porAssert fc) s = .next t ∧ t.pwr.off = true ∧ t.pwr.por = true ∧ (∀ f : Field, t.get f = f.reset % 2 ^ f.width) ∧
       t.active = State.reset.active ∧ t.turn = State.reset.turn ∧ t.sec.otp = s.sec.otpAfter ∧ t.hif.inflight = []) ∧
     (∀ unit,
       exec (.pwrRail fc 4 unit) s = exec (.porAssert fc) s ∧
       (s.pwr.resetLow = true → exec (.resetNAssert fc unit) s = .next u) ∧
       (s.pwr.resetLow = false → s.pwr.off = true → exec (.resetNAssert fc unit) s = .next { u with pwr := { s.pwr with resetLow := true } }) ∧
       (s.pwr.resetLow = false → s.pwr.off = false → ∃ t, exec (.resetNAssert fc unit) s = .next t ∧ t.pwr.off = true ∧ t.pwr.resetLow = true ∧
         t.get F.PWR_STATE_BOOT_CAUSE = 2 ∧ (∀ f : Field, f.key ≠ F.PWR_STATE_BOOT_CAUSE.key → t.get f = f.reset % 2 ^ f.width) ∧
         t.sec.otp = s.sec.otpAfter ∧ t.hif.inflight = [])) ∧
     (∀ straps < 8, ∀ byPor : Bool,
       let c : Instr := if byPor then .porRelease fc straps else .resetNRelease fc straps
       let v : State := { u with pwr := { s.pwr with por := s.pwr.por && !byPor, resetLow := s.pwr.resetLow && byPor } }
       (v.pwr.off = false ∨ v.pwr.por = true ∨ v.pwr.resetLow = true → exec c s = .next v) ∧
       (v.pwr.off = true → v.pwr.por = false → v.pwr.resetLow = false → ∃ t, exec c s = .next t ∧
         t.pwr = { v.pwr with off := false, starting := true, straps := straps } ∧ t.get F.PLAN_BOOT_STRAPS = straps ∧
         (∀ n < 4, (t.gauX n).cal.isSome = true) ∧ t.isLive 31 = true ∧ t.isLive 43 = s.pwr.clkLost)) ∧
     (∀ (n : Nat) (offset a b c d : Int) (e : FabErr) (w : GougeWord) (k : JtagKind) (single : Bool) (unit : List Byte),
       ∀ i ∈ ([.pwrVinUv fc n, .pwrVinOv fc n, .vinShutdown fc n, .pwrRail fc (n % 4) unit,
         .tempSensorRead fc a b c d, .syncInEdge fc, .secTamper fc single true true,
         .jtagInstruction fc k n, .dovetailSlip fc ⟨n, offset⟩, .fabEcc fc e single, .chzCoefParity fc n, .fabTileFail fc n, .laneFail fc n,
         .gougeTapEcc fc (n % 4) w single, .logMem fc n 1 single, .planEcc fc 0 n single, .converterEnableSettle fc, .rateRefill fc] : List Instr),
       s.pwr.off = true → wellFormed s.variant i = true → exec i s = .next u)) ∧
  (∀ (s : State) (fc : Nat) (unit : List Byte),
     (s.flt.chipReset = none → exec (.chipReset fc unit) s = .next (s.at fc)) ∧
     (∀ src < 64, s.flt.chipReset = some src → ∃ t, exec (.chipReset fc unit) s = .next t ∧
       t.get F.FLT_RESET_LAST_SOURCE = src ∧ t.flag F.FLT_RESET_CHIP_SEEN = true ∧ t.get F.PWR_STATE_BOOT_CAUSE = 3 ∧
       t.get F.PWR_STATE_STATE = (if s.pstate ≤ 1 then s.pstate else 1) ∧ t.flt.chipReset = none ∧
       t.active = emptyPlan ∧ t.shadow = emptyPlan ∧ t.hif.inflight = [] ∧ t.isLive 31 = !t.linkUp ∧ t.staged = [] ∧ t.turn = s.turn ∧
           t.sec.otp = s.sec.otp))

/-- KILL (R134, R135): the pin is signalled and counted, and every DAC is silent and every FE pin safe at once; when it goes the module waits.
With KILL_RESUME, 500 Turns without a kill or any other cause, the module goes back at the next boundary. The reference clock (R362, R363):
its loss is signalled and counted, silences every DAC, makes every FE pin safe, and takes LISTEN and RELAY to SAFE at once; its return is
recorded with its length. After 500 Turns of lock a flash-started module may return by itself. A command whose time has not come, or whose
condition does not hold, changes nothing: the model's convention (log entry 7). -/
def Obligations.KillsAndLostReferencesSilenceAtOnce : Prop :=
  (∀ (s : State) (fc : Nat),
     let u : State := s.at fc
     (s.pwr.killPin = true → exec (.killNFall fc) s = .next u) ∧
     (s.pwr.killPin = false → s.pwr.off = false → ∃ t, exec (.killNFall fc) s = .next t ∧ t.pwr.killPin = true ∧ bit t.pwr.safeDue 1 = true ∧ t.pwr.killClear = 0 ∧
       t.get F.GRD_KILL_PIN_COUNT = satAdd 65535 (s.get F.GRD_KILL_PIN_COUNT) 1 ∧ 15 ∈ t.flt.raised ∧ t.silent = true ∧
       (∀ p < 32, t.flag (F.SEQ_FE_STATUS_LEVEL p) = s.actB (F.SEQ_FE_CFG_LVL_SAFE p)) ∧ t.pstate = s.pstate) ∧
     (s.pwr.killPin = false → s.pwr.off = true → exec (.killNFall fc) s = .next { u with pwr := { s.pwr with killPin := true } }) ∧
     (∃ t, exec (.killNRise fc) s = .next t ∧ t.pwr = { s.pwr with killPin := false } ∧ t.pstate = s.pstate ∧
       (∀ n, s.dacMuted n = true → n ∈ dacsOf s.variant → t.dacMuted n = true)) ∧
     (let ok := s.pstate == 4 && s.actB F.GRD_CFG_KILL_RESUME && decide (500 ≤ s.pwr.killClear) && bit (s.get F.PWR_STATE_SAFE_CAUSE) 1 &&
        s.heldCauses == 0 && s.pwr.req.isNone && s.mayReturn s.pwr.before
      exec (.killResume fc) s = .next (if ok then { u with pwr := { s.pwr with next := some (s.pwr.before, 0xFF) } } else u))) ∧
  (∀ (s : State) (fc : Nat),
     let u : State := s.at fc
     (s.pwr.clkLost = true → exec (.refclkLoss fc) s = .next u) ∧
     (s.pwr.clkLost = false → s.pwr.off = false → ∃ t, exec (.refclkLoss fc) s = .next t ∧ t.pwr.clkLost = true ∧ 43 ∈ t.flt.raised ∧ t.silent = true ∧
       t.get F.TB_CLK_LOSS_LOSSES = satAdd 255 (s.get F.TB_CLK_LOSS_LOSSES) 1 ∧ t.flag F.CLK_STATUS_REF_OK = false ∧
       (∀ p < 32, t.flag (F.SEQ_FE_STATUS_LEVEL p) = s.actB (F.SEQ_FE_CFG_LVL_SAFE p)) ∧
       t.pstate = (if s.pstate = 2 ∨ s.pstate = 3 then 4 else s.pstate)) ∧
     (∀ us,
       (s.pwr.clkLost = false → exec (.refclkReturn fc us) s = .next u) ∧
       (s.pwr.clkLost = true → s.pwr.off = false → ∃ t, exec (.refclkReturn fc us) s = .next t ∧ t.pwr = { s.pwr with clkLost := false } ∧ t.isLive 43 = false ∧
         t.get F.TB_CLK_LOSS_LAST_US = min us 0xFFFFFF ∧ t.flag F.CLK_STATUS_REF_OK = true ∧ t.pstate = s.pstate)) ∧
     (let waited := match s.pwr.recover with | some n => decide (500 ≤ n) | none => false
      let ok := s.pstate == 4 && waited && s.flash.reachedRelay && bit s.pwr.straps 1 && s.heldCauses == 0 && s.pwr.req.isNone &&
        s.mayReturn s.pwr.before
      exec (.autonomousRecovery fc) s = .next (if ok then { u with pwr := { s.pwr with next := some (s.pwr.before, 0xFF) } } else u)))

/-- VIN and the rails (R357, R358): an out-of-range input is shown, signalled and a SAFE cause; above 20 V the module is in STANDBY at once; a
rail holds its blocks in reset until it recovers. Temperatures (R53, R359): each sensor is shown with the hottest die; 135 °C calls for
STANDBY at the next boundary and lasts until below 125 °C, the warning until 5 °C below its limit. A command whose time has not come, or
whose condition does not hold, changes nothing: the model's convention (log entry 7). -/
def Obligations.SuppliesAndTemperaturesHoldAndRelease : Prop :=
  (∀ (s : State) (fc : Nat),
     let u : State := s.at fc
     (∀ vin < 256, ∀ high : Bool,
       let c : Instr := if high then .pwrVinOv fc vin else .pwrVinUv fc vin
       let src := if high then 39 else 38
       let shown := if high then F.PWR_SUPPLY_VIN_OV else F.PWR_SUPPLY_VIN_UV
       (s.isLive src = true → exec c s = .next u) ∧
       (s.isLive src = false → s.pwr.off = false → ∃ t, exec c s = .next t ∧ t.isLive src = true ∧ t.flag shown = true ∧ t.flt.raised = s.flt.raised ++ [src] ∧
         t.pwr = { s.pwr with safeDue := s.pwr.safeDue ||| 2 ^ 5 } ∧
         (high = false → t.get F.PWR_SUPPLY_UV_EVENTS = satAdd 255 (s.get F.PWR_SUPPLY_UV_EVENTS) 1) ∧
         s.sameRegsBut [F.FLT_LIVE_HI_LIVE, shown, F.PWR_SUPPLY_UV_EVENTS] t ∧
         t = { u with regs := t.regs, fresh := t.fresh, flt := t.flt, pwr := t.pwr, evOut := t.evOut }) ∧
       (∃ t, exec (if high then .vinOvRecovery fc else .vinUvRecovery fc) s = .next t ∧ t.isLive src = false ∧ t.flag shown = false ∧
         s.wrote fc [F.FLT_LIVE_HI_LIVE, shown] t) ∧
       (s.pwr.off = false → ∃ t, exec (.vinShutdown fc vin) s = .next t ∧ t.pstate = if s.pstate = 0 then 0 else 1)) ∧
     (∀ rail < 4, ∀ unit,
       let blocks : List Block := if rail = 0 then [.fabric, .gouge, .sequencer] else if rail = 3 then [.gauge, .pwm, .control, .hif] else []
       (s.railDown rail = true → exec (.pwrRail fc rail unit) s = .next u) ∧
       (s.railDown rail = false → s.pwr.off = false → ∃ t, exec (.pwrRail fc rail unit) s = .next t ∧ t.railDown rail = true ∧ t.isLive 40 = true ∧
         (∀ b ∈ blocks, t.blockHeld b = true) ∧ (rail = 0 ∨ rail = 3 → bit t.pwr.safeDue 6 = true) ∧
         (rail = 1 ∨ rail = 2 → t.synth (rail - 1) = 0 ∧ ∀ n ∈ dacsOf s.variant, dacDie s.variant n = rail - 1 → t.dacMuted n = true)) ∧
       (s.railDown rail = false → exec (.railRecovery fc rail) s = .next u) ∧
       (s.railDown rail = true → ∃ t, exec (.railRecovery fc rail) s = .next t ∧ t.railDown rail = false ∧ ∀ b ∈ blocks, t.blockHeld b = false))) ∧
  (∀ (s : State) (fc : Nat) (donor service fabric power : Int), (∀ x ∈ [donor, service, fabric, power], -512 ≤ x ∧ x < 512) → s.pwr.off = false →
     let l := [donor, service, fabric, power]
     let h := hottest l
     let w : Int := 2 * s.get F.PWR_TEMP_TEMP_WARN
     ∃ t, exec (.tempSensorRead fc donor service fabric power) s = .next t ∧
       t.geti (F.CVA_TEMP_TEMP 0) = donor ∧ t.geti (F.CVA_TEMP_TEMP 1) = service ∧ t.geti (F.CVA_TEMP_TEMP 2) = fabric ∧
       t.geti F.PWR_TEMP_HOTTEST = h.2 ∧ t.get F.PWR_TEMP_DIE = h.1 ∧ h.1 < 4 ∧ l[h.1]? = some h.2 ∧ (∀ x ∈ l, x ≤ h.2) ∧
       t.isLive 41 = (if w < h.2 then true else if h.2 ≤ w - 10 then false else s.isLive 41) ∧
       t.isLive 42 = (if 270 < h.2 then true else if h.2 < 250 then false else s.isLive 42) ∧
       (270 < h.2 → s.isLive 42 = false → 2 ≤ s.pstate → t.pwr = { s.pwr with next := some (1, 0xFF) }))

/-- Valid frames (R366 to R372): each counts as valid with its KILL bit; MARK opens a sender Turn, COUNT, EPOCH, HOP and DELAY frames bring its
pieces, five bits each, and an aligned follower measures its error at MARK. An input that is not enabled takes none. A command whose time
has not come, or whose condition does not hold, changes nothing: the model's convention (log entry 7). -/
def Obligations.ApzerFramesBringTheSendersTurn : Prop :=
  ∀ (s : State) (kill : Bool) (data : Nat), data < 32 →
    (∀ t16 < 49152,
      let u : State := s.at (t16 / 16)
      (s.apzTakes 0 = false → exec (.apzMark t16 data kill) s = .next u) ∧
      (s.apzTakes 0 = true → ∃ t, exec (.apzMark t16 data kill) s = .next t ∧
        sparseGet 0 t.apz.valid 0 = min 192 (sparseGet 0 s.apz.valid 0 + 1) ∧ sparseGet false t.apz.killed 0 = kill ∧
        (s.get F.APZ_CFG_ROLE ≠ 0 → t.apz.markAt = some t16 ∧ t.apz.markCount = data ∧ t.apz.countMask = 0 ∧ t.apz.epochMask = 0 ∧
          t.apz.hop = none ∧ t.apz.delayMask = 0 ∧
          t.apz.goodTurns = (if s.apz.complete ∧ data = (s.apz.markCount + 1) % 32 then s.apz.goodTurns else 0)) ∧
        (s.get F.APZ_CFG_ROLE = 2 → s.get F.APZ_STATUS_ALIGN = 2 →
          t.geti F.APZ_STATUS_ERR = boundaryDiff t16 (s.get F.APZ_DELAY_D_UP) ∧
          t.apz.offTurns = (if 32 < (boundaryDiff t16 (s.get F.APZ_DELAY_D_UP)).natAbs then s.apz.offTurns + 1 else 0)))) ∧
    (∀ fc,
      let u : State := s.at fc
      (s.apzTakes 0 = false → (∀ k, 1 ≤ k → k ≤ 10 → exec (.apzCountFrame fc k data kill) s = .next u) ∧
        (∀ k, 11 ≤ k → k ≤ 14 → exec (.apzEpochFrame fc k data kill) s = .next u) ∧ exec (.apzHopFrame fc data kill) s = .next u ∧
        (∀ k, 16 ≤ k → k ≤ 18 → exec (.apzDelayFrame fc k data kill) s = .next u)) ∧
      (s.apzTakes 0 = true → s.get F.APZ_CFG_ROLE ≠ 0 →
        (∀ k, 1 ≤ k → k ≤ 10 → ∃ t, exec (.apzCountFrame fc k data kill) s = .next t ∧ bit t.apz.countMask (k - 1) = true ∧
          t.apz.countBits / 2 ^ (5 * (k - 1)) % 32 = data ∧ sparseGet false t.apz.killed 0 = kill) ∧
        (∀ k, 11 ≤ k → k ≤ 14 → ∃ t, exec (.apzEpochFrame fc k data kill) s = .next t ∧ bit t.apz.epochMask (k - 11) = true ∧
          t.apz.epochBits / 2 ^ (5 * (k - 11)) % 32 = data ∧ sparseGet false t.apz.killed 0 = kill) ∧
        (∃ t, exec (.apzHopFrame fc data kill) s = .next t ∧ t.apz.hop = some data ∧ sparseGet false t.apz.killed 0 = kill ∧
          (bit data 4 = false → t.apz.goodTurns = 0)) ∧
        (∀ k, 16 ≤ k → k ≤ 18 → ∃ t, exec (.apzDelayFrame fc k data kill) s = .next t ∧ bit t.apz.delayMask (k - 16) = true ∧
          t.apz.delayBits / 2 ^ (5 * (k - 16)) % 32 = data ∧ (t.apz.delayMask = 7 → t.get F.APZ_DELAY_D_UP = t.apz.delayBits % 32768))))

/-- Echoes, idle and invalid frames (R366, R368): half of what the round trip exceeds 64 fc by is the delay, averaged over up to 16 Turns; an
invalid frame is counted and ignored. Inputs (R370, R371, R373): one that is lost is down, counted and signalled, and an aligned follower
that loses its sender is in HOLDOVER in RELAY and ACQUIRING elsewhere; after 192 valid frames an input is up. A follower that finds no
leader signals it once. A command whose time has not come, or whose condition does not hold, changes nothing: the model's convention (log
entry 7). -/
def Obligations.ApzerEchoesAndInputs : Prop :=
  (∀ (s : State) (fc : Nat),
     let u : State := s.at fc
     (∀ (kill : Bool), ∀ t16 < 49152,
       (s.apzTakes 1 = false → exec (.apzEcho t16 kill) s = .next (s.at (t16 / 16))) ∧
       (s.apzTakes 1 = true → s.get F.APZ_CFG_ROLE ≠ 0 → ∃ t, exec (.apzEcho t16 kill) s = .next t ∧
         t.apz.trips = (t16 :: s.apz.trips).take 16 ∧ sparseGet false t.apz.killed 1 = kill ∧
         (∀ d, t16 = 1024 + 2 * d → (∀ x ∈ s.apz.trips, x = t16) → t.get F.APZ_DELAY_D_DOWN = d))) ∧
     (∀ i < 2, ∀ kill : Bool,
       (s.apzTakes i = false → exec (.apzIdleFrame fc i kill) s = .next u ∧ exec (.apzInvalidFrame fc i) s = .next u) ∧
       (s.apzTakes i = true →
         (∃ t, exec (.apzIdleFrame fc i kill) s = .next t ∧ sparseGet 0 t.apz.valid i = min 192 (sparseGet 0 s.apz.valid i + 1) ∧
           sparseGet false t.apz.killed i = kill ∧ sparseGet 0 t.apz.heard i = u.now) ∧
         (∃ t, exec (.apzInvalidFrame fc i) s = .next t ∧ sparseGet 0 t.apz.valid i = 0 ∧
           sparseGet 0 t.apz.invalid i = sparseGet 0 s.apz.invalid i + 1 ∧
           t.get F.APZ_COUNT_CRC_ERRORS = satAdd 65535 (s.get F.APZ_COUNT_CRC_ERRORS) 1 ∧ s.sameRegsBut [F.APZ_COUNT_CRC_ERRORS] t ∧
           t = { u with regs := t.regs, fresh := t.fresh, apz := { s.apz with valid := t.apz.valid, invalid := t.apz.invalid } })))) ∧
  (∀ (s : State) (fc i : Nat), i < 2 →
     let u : State := s.at fc
     (∀ cause < 2,
       let lost := s.apzTakes i && s.flag (apzUp i) &&
         (if cause = 1 then decide (3 ≤ sparseGet 0 s.apz.invalid i) else decide (sparseGet 0 s.apz.heard i + 64 ≤ u.now))
       (lost = false → exec (.apzInputDown fc i cause) s = .next u) ∧
       (lost = true → ∃ t, exec (.apzInputDown fc i cause) s = .next t ∧ t.flag (apzUp i) = false ∧
         t.get F.APZ_COUNT_LOSSES = satAdd 255 (s.get F.APZ_COUNT_LOSSES) 1 ∧ 44 ∈ t.flt.raised ∧ t.isLive 44 = true ∧
         t.get F.APZ_STATUS_ALIGN = (if i = 0 ∧ s.get F.APZ_CFG_ROLE = 2 ∧ s.get F.APZ_STATUS_ALIGN = 2 then (if s.inRelay then 3 else 1)
           else s.get F.APZ_STATUS_ALIGN) ∧
         (s.flag F.APZ_CFG_KILL_ON_LOSS = true → t.flag (apzKillIn i) = true ∧ (s.flag (apzKillIn i) = false → t.silent = true)))) ∧
     (let rises := s.apzTakes i && !s.flag (apzUp i) && decide (192 ≤ sparseGet 0 s.apz.valid i)
      (rises = false → exec (.apzInputUp fc i) s = .next u) ∧
      (rises = true → ∃ t, exec (.apzInputUp fc i) s = .next t ∧ t.flag (apzUp i) = true ∧
        t.flag (apzKillIn i) = sparseGet false s.apz.killed i)) ∧
     (let due := s.get F.APZ_CFG_ROLE == 2 && s.get F.APZ_STATUS_ALIGN == 1 && decide (4096 ≤ s.apz.acqTurns) && s.flag F.APZ_STATUS_IN0_UP &&
        !s.apz.noLeader
      (due = false → exec (.noLeader fc) s = .next u) ∧
      (due = true → ∃ t, exec (.noLeader fc) s = .next t ∧ t.apz = { s.apz with noLeader := true } ∧ t.flt.raised = s.flt.raised ++ [44] ∧
        t.isLive 44 = true ∧ s.sameRegsBut [F.FLT_LIVE_HI_LIVE] t ∧
            t = { u with regs := t.regs, fresh := t.fresh, flt := t.flt, apz := t.apz, evOut := t.evOut })))
end

