-- ==== Sys2Proof/Laws/Sparse.lean ====
section
/-! SUPPORT. Laws of the sparse maps: what a read after a write gives, and that a write keeps the canonical form. -/
namespace Sys2Proof.Machine

variable {α : Type}

/-- Every key of the map is above `k`. -/
def keysAbove (k : Nat) (m : List (Nat × α)) : Prop := ∀ e ∈ m, k < e.1

theorem keysRise_cons (e : Nat × α) (m : List (Nat × α)) : keysRise (e :: m) = true ↔ keysAbove e.1 m ∧ keysRise m = true := by
  induction m generalizing e with
  | nil => simp [keysRise, keysAbove]
  | cons a t ih =>
    simp only [keysRise, Bool.and_eq_true, decide_eq_true_eq, ih, keysAbove, List.forall_mem_cons]
    constructor
    · rintro ⟨h, ha, ht⟩
      exact ⟨⟨h, fun x hx => Nat.lt_trans h (ha x hx)⟩, ha, ht⟩
    · rintro ⟨⟨h, _⟩, ha, ht⟩
      exact ⟨h, ha, ht⟩

theorem mem_sparseErase {m : List (Nat × α)} {k : Nat} {e : Nat × α} (h : e ∈ sparseErase m k) : e ∈ m := by
  induction m with
  | nil => exact h
  | cons a t ih =>
    unfold sparseErase at h
    split at h
    · exact List.mem_cons_of_mem _ (ih h)
    · rcases List.mem_cons.1 h with rfl | h
      · exact List.mem_cons_self
      · exact List.mem_cons_of_mem _ (ih h)

theorem mem_sparseInsert {m : List (Nat × α)} {k : Nat} {v : α} {e : Nat × α} (h : e ∈ sparseInsert m k v) : e = (k, v) ∨ e ∈ m := by
  induction m with
  | nil => exact .inl (List.mem_singleton.1 h)
  | cons a t ih =>
    unfold sparseInsert at h
    split at h
    · rcases List.mem_cons.1 h with h | h
      · exact .inl h
      · exact .inr (List.mem_cons_of_mem _ h)
    · split at h
      · exact List.mem_cons.1 h
      · rcases List.mem_cons.1 h with rfl | h
        · exact .inr List.mem_cons_self
        · exact (ih h).imp_right (List.mem_cons_of_mem _)

theorem keysRise_erase {m : List (Nat × α)} (k : Nat) (h : keysRise m = true) : keysRise (sparseErase m k) = true := by
  induction m with
  | nil => exact h
  | cons a t ih =>
    have ⟨ha, ht⟩ := (keysRise_cons a t).1 h
    unfold sparseErase
    split
    · exact ih ht
    · exact (keysRise_cons _ _).2 ⟨fun e he => ha e (mem_sparseErase he), ih ht⟩

theorem keysRise_insert {m : List (Nat × α)} (k : Nat) (v : α) (h : keysRise m = true) : keysRise (sparseInsert m k v) = true := by
  induction m with
  | nil => rfl
  | cons a t ih =>
    have ⟨ha, ht⟩ := (keysRise_cons a t).1 h
    unfold sparseInsert
    split
    · rename_i he
      exact (keysRise_cons _ _).2 ⟨fun e h => he ▸ ha e h, ht⟩
    · split
      · rename_i hk
        exact (keysRise_cons _ _).2 ⟨fun e he => (List.mem_cons.1 he).elim (fun h => h ▸ hk) (fun h => Nat.lt_trans hk (ha e h)), h⟩
      · rename_i hn hk
        refine (keysRise_cons _ _).2 ⟨fun e he => (mem_sparseInsert he).elim (fun h => ?_) (ha e), ih ht⟩
        subst h
        exact Nat.lt_of_le_of_ne (Nat.le_of_not_lt hk) hn

/-- A write keeps the canonical form. -/
theorem sparseSet_wf [DecidableEq α] (d : α) (m : List (Nat × α)) (k : Nat) (v : α) (h : sparseWf d m = true) :
    sparseWf d (sparseSet d m k v) = true := by
  simp only [sparseWf, Bool.and_eq_true, List.all_eq_true, decide_eq_true_eq] at h ⊢
  unfold sparseSet
  split
  · exact ⟨keysRise_erase k h.1, fun e he => h.2 e (mem_sparseErase he)⟩
  · rename_i hv
    exact ⟨keysRise_insert k v h.1, fun e he => (mem_sparseInsert he).elim (fun h => h ▸ hv) (h.2 e)⟩

theorem sparseGet_erase (d : α) (m : List (Nat × α)) (k j : Nat) :
    sparseGet d (sparseErase m k) j = if j = k then d else sparseGet d m j := by
  induction m with
  | nil => simp [sparseErase, sparseGet]
  | cons a t ih => grind [sparseErase, sparseGet]

theorem sparseGet_insert (d : α) (m : List (Nat × α)) (k j : Nat) (v : α) :
    sparseGet d (sparseInsert m k v) j = if j = k then v else sparseGet d m j := by
  induction m with
  | nil => grind [sparseInsert, sparseGet]
  | cons a t ih => grind [sparseInsert, sparseGet]

/-- A read after a write: the value written at its key, every other key as before. -/
theorem sparseGet_set [DecidableEq α] (d : α) (m : List (Nat × α)) (k j : Nat) (v : α) :
    sparseGet d (sparseSet d m k v) j = if j = k then v else sparseGet d m j := by
  unfold sparseSet
  split
  · rename_i h
    rw [sparseGet_erase, h]
  · rw [sparseGet_insert]

@[simp] theorem sparseGet_set_same [DecidableEq α] (d : α) (m : List (Nat × α)) (k : Nat) (v : α) : sparseGet d (sparseSet d m k v) k = v := by
  rw [sparseGet_set, if_pos rfl]

/-- Another key reads as before, whatever an unlisted key reads as. -/
theorem sparseGet_set_other [DecidableEq α] (c d : α) (m : List (Nat × α)) {k j : Nat} (v : α) (h : j ≠ k) :
    sparseGet c (sparseSet d m k v) j = sparseGet c m j := by
  unfold sparseSet
  split
  · rw [sparseGet_erase, if_neg h]
  · rw [sparseGet_insert, if_neg h]

end Sys2Proof.Machine
end

