-- ==== Sys2Proof/Laws/State.lean ====
section
/-! SUPPORT. What each update of the state leaves of each field: one law per update, a conjunction with one part per field, every part true
by computation; and reads of register fields after writes. -/
namespace Sys2Proof.Machine

variable (s : State)

@[simp] theorem State.put_fields (f : Field) (v : Nat) :
    (s.put f v).variant = s.variant ∧ (s.put f v).turn = s.turn ∧ (s.put f v).epoch = s.epoch ∧ (s.put f v).fc = s.fc ∧
    (s.put f v).regs = setF s.regs f v ∧ (s.put f v).latches = s.latches ∧ (s.put f v).active = s.active ∧ (s.put f v).shadow = s.shadow ∧
    (s.put f v).plan = s.plan ∧ (s.put f v).flash = s.flash ∧ (s.put f v).hif = s.hif ∧ (s.put f v).staged = s.staged ∧
    (s.put f v).linkOut = s.linkOut ∧ (s.put f v).evOut = s.evOut ∧ (s.put f v).log = s.log ∧ (s.put f v).flt = s.flt ∧ (s.put f v).sec = s.sec ∧
    (s.put f v).pwr = s.pwr ∧ (s.put f v).apz = s.apz ∧ (s.put f v).cva = s.cva ∧ (s.put f v).fab = s.fab ∧ (s.put f v).gouge = s.gouge ∧
    (s.put f v).grd = s.grd ∧ (s.put f v).gau = s.gau ∧ (s.put f v).pwm = s.pwm ∧ (s.put f v).ctl = s.ctl ∧ (s.put f v).seq = s.seq ∧
    (s.put f v).ticks = s.ticks ∧ (s.put f v).overran = s.overran ∧ (s.put f v).worked = s.worked ∧ (s.put f v).fresh = s.fresh ∧
    (s.put f v).free = s.free ∧ (s.put f v).pending = s.pending :=
  ⟨rfl, rfl, rfl, rfl, rfl, rfl, rfl, rfl, rfl, rfl, rfl, rfl, rfl, rfl, rfl, rfl, rfl, rfl, rfl, rfl, rfl, rfl, rfl, rfl, rfl, rfl, rfl, rfl, rfl,
      rfl, rfl, rfl, rfl⟩

@[simp] theorem State.note_fields (f : Field) (k : Nat) :
    (s.note f k).variant = s.variant ∧ (s.note f k).turn = s.turn ∧ (s.note f k).epoch = s.epoch ∧ (s.note f k).fc = s.fc ∧
    (s.note f k).regs = s.regs ∧ (s.note f k).latches = s.latches ∧ (s.note f k).active = s.active ∧ (s.note f k).shadow = s.shadow ∧
    (s.note f k).plan = s.plan ∧ (s.note f k).flash = s.flash ∧ (s.note f k).hif = s.hif ∧ (s.note f k).staged = s.staged ∧
    (s.note f k).linkOut = s.linkOut ∧ (s.note f k).evOut = s.evOut ∧ (s.note f k).log = s.log ∧ (s.note f k).flt = s.flt ∧
    (s.note f k).sec = s.sec ∧ (s.note f k).pwr = s.pwr ∧ (s.note f k).apz = s.apz ∧ (s.note f k).cva = s.cva ∧ (s.note f k).fab = s.fab ∧
    (s.note f k).gouge = s.gouge ∧ (s.note f k).grd = s.grd ∧ (s.note f k).gau = s.gau ∧ (s.note f k).pwm = s.pwm ∧ (s.note f k).ctl = s.ctl ∧
    (s.note f k).seq = s.seq ∧ (s.note f k).ticks = s.ticks ∧ (s.note f k).overran = s.overran ∧ (s.note f k).worked = s.worked ∧
    (s.note f k).fresh = (f.key, s.get f, k) :: s.fresh ∧ (s.note f k).free = s.free ∧ (s.note f k).pending = s.pending :=
  ⟨rfl, rfl, rfl, rfl, rfl, rfl, rfl, rfl, rfl, rfl, rfl, rfl, rfl, rfl, rfl, rfl, rfl, rfl, rfl, rfl, rfl, rfl, rfl, rfl, rfl, rfl, rfl, rfl, rfl,
      rfl, rfl, rfl, rfl⟩
@[simp] theorem State.note_get (f g : Field) (k : Nat) : (s.note f k).get g = s.get g := rfl

@[simp] theorem State.at_fields (n : Nat) :
    (s.at n).variant = s.variant ∧ (s.at n).turn = s.turn ∧ (s.at n).epoch = s.epoch ∧ (s.at n).fc = n % 3072 ∧ (s.at n).regs = s.regs ∧
    (s.at n).latches = s.latches ∧ (s.at n).active = s.active ∧ (s.at n).shadow = s.shadow ∧ (s.at n).plan = s.plan ∧ (s.at n).flash = s.flash ∧
    (s.at n).hif = s.hif ∧ (s.at n).staged = s.staged ∧ (s.at n).linkOut = s.linkOut ∧ (s.at n).evOut = s.evOut ∧ (s.at n).log = s.log ∧
    (s.at n).flt = s.flt ∧ (s.at n).sec = s.sec ∧ (s.at n).pwr = s.pwr ∧ (s.at n).apz = s.apz ∧ (s.at n).cva = s.cva ∧ (s.at n).fab = s.fab ∧
    (s.at n).gouge = s.gouge ∧ (s.at n).grd = s.grd ∧ (s.at n).gau = s.gau ∧ (s.at n).pwm = s.pwm ∧ (s.at n).ctl = s.ctl ∧ (s.at n).seq = s.seq ∧
    (s.at n).ticks = s.ticks ∧ (s.at n).overran = s.overran ∧ (s.at n).worked = s.worked ∧
    (s.at n).fresh = (if s.fc = n % 3072 then s.fresh else []) ∧ (s.at n).free = s.free ∧ (s.at n).pending = s.pending :=
  ⟨rfl, rfl, rfl, rfl, rfl, rfl, rfl, rfl, rfl, rfl, rfl, rfl, rfl, rfl, rfl, rfl, rfl, rfl, rfl, rfl, rfl, rfl, rfl, rfl, rfl, rfl, rfl, rfl, rfl,
      rfl, rfl, rfl, rfl⟩
@[simp] theorem State.at_get (n : Nat) (g : Field) : (s.at n).get g = s.get g := rfl

@[simp] theorem State.raise_fields (k : Nat) :
    (s.raise k).variant = s.variant ∧ (s.raise k).turn = s.turn ∧ (s.raise k).epoch = s.epoch ∧ (s.raise k).fc = s.fc ∧
    (s.raise k).regs = s.regs ∧ (s.raise k).latches = s.latches ∧ (s.raise k).active = s.active ∧ (s.raise k).shadow = s.shadow ∧
    (s.raise k).plan = s.plan ∧ (s.raise k).flash = s.flash ∧ (s.raise k).hif = s.hif ∧ (s.raise k).staged = s.staged ∧
    (s.raise k).linkOut = s.linkOut ∧ (s.raise k).evOut = s.evOut ∧ (s.raise k).log = s.log ∧
    (s.raise k).flt = { s.flt with raised := s.flt.raised ++ [k] } ∧ (s.raise k).sec = s.sec ∧ (s.raise k).pwr = s.pwr ∧ (s.raise k).apz = s.apz ∧
    (s.raise k).cva = s.cva ∧ (s.raise k).fab = s.fab ∧ (s.raise k).gouge = s.gouge ∧ (s.raise k).grd = s.grd ∧ (s.raise k).gau = s.gau ∧
    (s.raise k).pwm = s.pwm ∧ (s.raise k).ctl = s.ctl ∧ (s.raise k).seq = s.seq ∧ (s.raise k).ticks = s.ticks ∧ (s.raise k).overran = s.overran ∧
    (s.raise k).worked = s.worked ∧ (s.raise k).fresh = s.fresh ∧ (s.raise k).free = s.free ∧ (s.raise k).pending = s.pending :=
  ⟨rfl, rfl, rfl, rfl, rfl, rfl, rfl, rfl, rfl, rfl, rfl, rfl, rfl, rfl, rfl, rfl, rfl, rfl, rfl, rfl, rfl, rfl, rfl, rfl, rfl, rfl, rfl, rfl, rfl,
      rfl, rfl, rfl, rfl⟩
@[simp] theorem State.raise_get (k : Nat) (g : Field) : (s.raise k).get g = s.get g := rfl

@[simp] theorem State.emit_fields (c v u : Nat) (p : List Byte) :
    (s.emit c v u p).variant = s.variant ∧ (s.emit c v u p).turn = s.turn ∧ (s.emit c v u p).epoch = s.epoch ∧ (s.emit c v u p).fc = s.fc ∧
    (s.emit c v u p).regs = s.regs ∧ (s.emit c v u p).latches = s.latches ∧ (s.emit c v u p).active = s.active ∧
    (s.emit c v u p).shadow = s.shadow ∧ (s.emit c v u p).plan = s.plan ∧ (s.emit c v u p).flash = s.flash ∧ (s.emit c v u p).hif = s.hif ∧
    (s.emit c v u p).staged = s.staged ∧ (s.emit c v u p).linkOut = s.linkOut ∧ (s.emit c v u p).evOut = s.evOut ++ [⟨c, v, u, p⟩] ∧
    (s.emit c v u p).log = s.log ∧ (s.emit c v u p).flt = s.flt ∧ (s.emit c v u p).sec = s.sec ∧ (s.emit c v u p).pwr = s.pwr ∧
    (s.emit c v u p).apz = s.apz ∧ (s.emit c v u p).cva = s.cva ∧ (s.emit c v u p).fab = s.fab ∧ (s.emit c v u p).gouge = s.gouge ∧
    (s.emit c v u p).grd = s.grd ∧ (s.emit c v u p).gau = s.gau ∧ (s.emit c v u p).pwm = s.pwm ∧ (s.emit c v u p).ctl = s.ctl ∧
    (s.emit c v u p).seq = s.seq ∧ (s.emit c v u p).ticks = s.ticks ∧ (s.emit c v u p).overran = s.overran ∧ (s.emit c v u p).worked = s.worked ∧
    (s.emit c v u p).fresh = s.fresh ∧ (s.emit c v u p).free = s.free ∧ (s.emit c v u p).pending = s.pending :=
  ⟨rfl, rfl, rfl, rfl, rfl, rfl, rfl, rfl, rfl, rfl, rfl, rfl, rfl, rfl, rfl, rfl, rfl, rfl, rfl, rfl, rfl, rfl, rfl, rfl, rfl, rfl, rfl, rfl, rfl,
      rfl, rfl, rfl, rfl⟩
@[simp] theorem State.emit_get (c v u : Nat) (p : List Byte) (g : Field) : (s.emit c v u p).get g = s.get g := rfl

@[simp] theorem State.tick_fields :
    (s.tick).variant = s.variant ∧ (s.tick).turn = s.turn ∧ (s.tick).epoch = s.epoch ∧ (s.tick).fc = s.fc ∧ (s.tick).regs = s.regs ∧
    (s.tick).latches = s.latches ∧ (s.tick).active = s.active ∧ (s.tick).shadow = s.shadow ∧ (s.tick).plan = s.plan ∧ (s.tick).flash = s.flash ∧
    (s.tick).hif = s.hif ∧ (s.tick).staged = s.staged ∧ (s.tick).linkOut = s.linkOut ∧ (s.tick).evOut = s.evOut ∧ (s.tick).log = s.log ∧
    (s.tick).flt = s.flt ∧ (s.tick).sec = s.sec ∧ (s.tick).pwr = s.pwr ∧ (s.tick).apz = s.apz ∧ (s.tick).cva = s.cva ∧ (s.tick).fab = s.fab ∧
    (s.tick).gouge = s.gouge ∧ (s.tick).grd = s.grd ∧ (s.tick).gau = s.gau ∧ (s.tick).pwm = s.pwm ∧ (s.tick).ctl = s.ctl ∧ (s.tick).seq = s.seq ∧
    (s.tick).ticks = s.ticks ∧ (s.tick).overran = s.overran ∧ (s.tick).worked = s.worked ∧ (s.tick).fresh = s.fresh ∧ (s.tick).free = s.free + 1 ∧
    (s.tick).pending = s.pending :=
  ⟨rfl, rfl, rfl, rfl, rfl, rfl, rfl, rfl, rfl, rfl, rfl, rfl, rfl, rfl, rfl, rfl, rfl, rfl, rfl, rfl, rfl, rfl, rfl, rfl, rfl, rfl, rfl, rfl, rfl,
      rfl, rfl, rfl, rfl⟩
@[simp] theorem State.tick_get (g : Field) : (s.tick).get g = s.get g := rfl

@[simp] theorem State.link_fields (m : LinkMsg) :
    (s.link m).variant = s.variant ∧ (s.link m).turn = s.turn ∧ (s.link m).epoch = s.epoch ∧ (s.link m).fc = s.fc ∧ (s.link m).regs = s.regs ∧
    (s.link m).latches = s.latches ∧ (s.link m).active = s.active ∧ (s.link m).shadow = s.shadow ∧ (s.link m).plan = s.plan ∧
    (s.link m).flash = s.flash ∧ (s.link m).hif = s.hif ∧ (s.link m).staged = s.staged ∧ (s.link m).linkOut = s.linkOut ++ [m] ∧
    (s.link m).evOut = s.evOut ∧ (s.link m).log = s.log ∧ (s.link m).flt = s.flt ∧ (s.link m).sec = s.sec ∧ (s.link m).pwr = s.pwr ∧
    (s.link m).apz = s.apz ∧ (s.link m).cva = s.cva ∧ (s.link m).fab = s.fab ∧ (s.link m).gouge = s.gouge ∧ (s.link m).grd = s.grd ∧
    (s.link m).gau = s.gau ∧ (s.link m).pwm = s.pwm ∧ (s.link m).ctl = s.ctl ∧ (s.link m).seq = s.seq ∧ (s.link m).ticks = s.ticks ∧
    (s.link m).overran = s.overran ∧ (s.link m).worked = s.worked ∧ (s.link m).fresh = s.fresh ∧ (s.link m).free = s.free ∧
    (s.link m).pending = s.pending :=
  ⟨rfl, rfl, rfl, rfl, rfl, rfl, rfl, rfl, rfl, rfl, rfl, rfl, rfl, rfl, rfl, rfl, rfl, rfl, rfl, rfl, rfl, rfl, rfl, rfl, rfl, rfl, rfl, rfl, rfl,
      rfl, rfl, rfl, rfl⟩
@[simp] theorem State.link_get (m : LinkMsg) (g : Field) : (s.link m).get g = s.get g := rfl

@[simp] theorem State.stage_fields (k : DescKey) (e : Effect) :
    (s.stage k e).variant = s.variant ∧ (s.stage k e).turn = s.turn ∧ (s.stage k e).epoch = s.epoch ∧ (s.stage k e).fc = s.fc ∧
    (s.stage k e).regs = s.regs ∧ (s.stage k e).latches = s.latches ∧ (s.stage k e).active = s.active ∧ (s.stage k e).shadow = s.shadow ∧
    (s.stage k e).plan = s.plan ∧ (s.stage k e).flash = s.flash ∧ (s.stage k e).hif = s.hif ∧
    (s.stage k e).staged = s.staged ++ [⟨k, s.dueTurn, e⟩] ∧ (s.stage k e).linkOut = s.linkOut ∧ (s.stage k e).evOut = s.evOut ∧
    (s.stage k e).log = s.log ∧ (s.stage k e).flt = s.flt ∧ (s.stage k e).sec = s.sec ∧ (s.stage k e).pwr = s.pwr ∧ (s.stage k e).apz = s.apz ∧
    (s.stage k e).cva = s.cva ∧ (s.stage k e).fab = s.fab ∧ (s.stage k e).gouge = s.gouge ∧ (s.stage k e).grd = s.grd ∧
    (s.stage k e).gau = s.gau ∧ (s.stage k e).pwm = s.pwm ∧ (s.stage k e).ctl = s.ctl ∧ (s.stage k e).seq = s.seq ∧
    (s.stage k e).ticks = s.ticks ∧ (s.stage k e).overran = s.overran ∧ (s.stage k e).worked = s.worked ∧ (s.stage k e).fresh = s.fresh ∧
    (s.stage k e).free = s.free ∧ (s.stage k e).pending = s.pending :=
  ⟨rfl, rfl, rfl, rfl, rfl, rfl, rfl, rfl, rfl, rfl, rfl, rfl, rfl, rfl, rfl, rfl, rfl, rfl, rfl, rfl, rfl, rfl, rfl, rfl, rfl, rfl, rfl, rfl, rfl,
      rfl, rfl, rfl, rfl⟩
@[simp] theorem State.stage_get (k : DescKey) (e : Effect) (g : Field) : (s.stage k e).get g = s.get g := rfl

@[simp] theorem State.setHif_fields (x : Hif) :
    (s.setHif x).variant = s.variant ∧ (s.setHif x).turn = s.turn ∧ (s.setHif x).epoch = s.epoch ∧ (s.setHif x).fc = s.fc ∧
    (s.setHif x).regs = s.regs ∧ (s.setHif x).latches = s.latches ∧ (s.setHif x).active = s.active ∧ (s.setHif x).shadow = s.shadow ∧
    (s.setHif x).plan = s.plan ∧ (s.setHif x).flash = s.flash ∧ (s.setHif x).hif = x ∧ (s.setHif x).staged = s.staged ∧
    (s.setHif x).linkOut = s.linkOut ∧ (s.setHif x).evOut = s.evOut ∧ (s.setHif x).log = s.log ∧ (s.setHif x).flt = s.flt ∧
    (s.setHif x).sec = s.sec ∧ (s.setHif x).pwr = s.pwr ∧ (s.setHif x).apz = s.apz ∧ (s.setHif x).cva = s.cva ∧ (s.setHif x).fab = s.fab ∧
    (s.setHif x).gouge = s.gouge ∧ (s.setHif x).grd = s.grd ∧ (s.setHif x).gau = s.gau ∧ (s.setHif x).pwm = s.pwm ∧ (s.setHif x).ctl = s.ctl ∧
    (s.setHif x).seq = s.seq ∧ (s.setHif x).ticks = s.ticks ∧ (s.setHif x).overran = s.overran ∧ (s.setHif x).worked = s.worked ∧
    (s.setHif x).fresh = s.fresh ∧ (s.setHif x).free = s.free ∧ (s.setHif x).pending = s.pending :=
  ⟨rfl, rfl, rfl, rfl, rfl, rfl, rfl, rfl, rfl, rfl, rfl, rfl, rfl, rfl, rfl, rfl, rfl, rfl, rfl, rfl, rfl, rfl, rfl, rfl, rfl, rfl, rfl, rfl, rfl,
      rfl, rfl, rfl, rfl⟩
@[simp] theorem State.setHif_get (x : Hif) (g : Field) : (s.setHif x).get g = s.get g := rfl

@[simp] theorem State.setLog_fields (x : Log) :
    (s.setLog x).variant = s.variant ∧ (s.setLog x).turn = s.turn ∧ (s.setLog x).epoch = s.epoch ∧ (s.setLog x).fc = s.fc ∧
    (s.setLog x).regs = s.regs ∧ (s.setLog x).latches = s.latches ∧ (s.setLog x).active = s.active ∧ (s.setLog x).shadow = s.shadow ∧
    (s.setLog x).plan = s.plan ∧ (s.setLog x).flash = s.flash ∧ (s.setLog x).hif = s.hif ∧ (s.setLog x).staged = s.staged ∧
    (s.setLog x).linkOut = s.linkOut ∧ (s.setLog x).evOut = s.evOut ∧ (s.setLog x).log = x ∧ (s.setLog x).flt = s.flt ∧ (s.setLog x).sec = s.sec ∧
    (s.setLog x).pwr = s.pwr ∧ (s.setLog x).apz = s.apz ∧ (s.setLog x).cva = s.cva ∧ (s.setLog x).fab = s.fab ∧ (s.setLog x).gouge = s.gouge ∧
    (s.setLog x).grd = s.grd ∧ (s.setLog x).gau = s.gau ∧ (s.setLog x).pwm = s.pwm ∧ (s.setLog x).ctl = s.ctl ∧ (s.setLog x).seq = s.seq ∧
    (s.setLog x).ticks = s.ticks ∧ (s.setLog x).overran = s.overran ∧ (s.setLog x).worked = s.worked ∧ (s.setLog x).fresh = s.fresh ∧
    (s.setLog x).free = s.free ∧ (s.setLog x).pending = s.pending :=
  ⟨rfl, rfl, rfl, rfl, rfl, rfl, rfl, rfl, rfl, rfl, rfl, rfl, rfl, rfl, rfl, rfl, rfl, rfl, rfl, rfl, rfl, rfl, rfl, rfl, rfl, rfl, rfl, rfl, rfl,
      rfl, rfl, rfl, rfl⟩
@[simp] theorem State.setLog_get (x : Log) (g : Field) : (s.setLog x).get g = s.get g := rfl

@[simp] theorem State.setFlt_fields (x : Flt) :
    (s.setFlt x).variant = s.variant ∧ (s.setFlt x).turn = s.turn ∧ (s.setFlt x).epoch = s.epoch ∧ (s.setFlt x).fc = s.fc ∧
    (s.setFlt x).regs = s.regs ∧ (s.setFlt x).latches = s.latches ∧ (s.setFlt x).active = s.active ∧ (s.setFlt x).shadow = s.shadow ∧
    (s.setFlt x).plan = s.plan ∧ (s.setFlt x).flash = s.flash ∧ (s.setFlt x).hif = s.hif ∧ (s.setFlt x).staged = s.staged ∧
    (s.setFlt x).linkOut = s.linkOut ∧ (s.setFlt x).evOut = s.evOut ∧ (s.setFlt x).log = s.log ∧ (s.setFlt x).flt = x ∧ (s.setFlt x).sec = s.sec ∧
    (s.setFlt x).pwr = s.pwr ∧ (s.setFlt x).apz = s.apz ∧ (s.setFlt x).cva = s.cva ∧ (s.setFlt x).fab = s.fab ∧ (s.setFlt x).gouge = s.gouge ∧
    (s.setFlt x).grd = s.grd ∧ (s.setFlt x).gau = s.gau ∧ (s.setFlt x).pwm = s.pwm ∧ (s.setFlt x).ctl = s.ctl ∧ (s.setFlt x).seq = s.seq ∧
    (s.setFlt x).ticks = s.ticks ∧ (s.setFlt x).overran = s.overran ∧ (s.setFlt x).worked = s.worked ∧ (s.setFlt x).fresh = s.fresh ∧
    (s.setFlt x).free = s.free ∧ (s.setFlt x).pending = s.pending :=
  ⟨rfl, rfl, rfl, rfl, rfl, rfl, rfl, rfl, rfl, rfl, rfl, rfl, rfl, rfl, rfl, rfl, rfl, rfl, rfl, rfl, rfl, rfl, rfl, rfl, rfl, rfl, rfl, rfl, rfl,
      rfl, rfl, rfl, rfl⟩
@[simp] theorem State.setFlt_get (x : Flt) (g : Field) : (s.setFlt x).get g = s.get g := rfl

@[simp] theorem State.setSec_fields (x : Sec) :
    (s.setSec x).variant = s.variant ∧ (s.setSec x).turn = s.turn ∧ (s.setSec x).epoch = s.epoch ∧ (s.setSec x).fc = s.fc ∧
    (s.setSec x).regs = s.regs ∧ (s.setSec x).latches = s.latches ∧ (s.setSec x).active = s.active ∧ (s.setSec x).shadow = s.shadow ∧
    (s.setSec x).plan = s.plan ∧ (s.setSec x).flash = s.flash ∧ (s.setSec x).hif = s.hif ∧ (s.setSec x).staged = s.staged ∧
    (s.setSec x).linkOut = s.linkOut ∧ (s.setSec x).evOut = s.evOut ∧ (s.setSec x).log = s.log ∧ (s.setSec x).flt = s.flt ∧ (s.setSec x).sec = x ∧
    (s.setSec x).pwr = s.pwr ∧ (s.setSec x).apz = s.apz ∧ (s.setSec x).cva = s.cva ∧ (s.setSec x).fab = s.fab ∧ (s.setSec x).gouge = s.gouge ∧
    (s.setSec x).grd = s.grd ∧ (s.setSec x).gau = s.gau ∧ (s.setSec x).pwm = s.pwm ∧ (s.setSec x).ctl = s.ctl ∧ (s.setSec x).seq = s.seq ∧
    (s.setSec x).ticks = s.ticks ∧ (s.setSec x).overran = s.overran ∧ (s.setSec x).worked = s.worked ∧ (s.setSec x).fresh = s.fresh ∧
    (s.setSec x).free = s.free ∧ (s.setSec x).pending = s.pending :=
  ⟨rfl, rfl, rfl, rfl, rfl, rfl, rfl, rfl, rfl, rfl, rfl, rfl, rfl, rfl, rfl, rfl, rfl, rfl, rfl, rfl, rfl, rfl, rfl, rfl, rfl, rfl, rfl, rfl, rfl,
      rfl, rfl, rfl, rfl⟩
@[simp] theorem State.setSec_get (x : Sec) (g : Field) : (s.setSec x).get g = s.get g := rfl

@[simp] theorem State.setPwr_fields (x : Pwr) :
    (s.setPwr x).variant = s.variant ∧ (s.setPwr x).turn = s.turn ∧ (s.setPwr x).epoch = s.epoch ∧ (s.setPwr x).fc = s.fc ∧
    (s.setPwr x).regs = s.regs ∧ (s.setPwr x).latches = s.latches ∧ (s.setPwr x).active = s.active ∧ (s.setPwr x).shadow = s.shadow ∧
    (s.setPwr x).plan = s.plan ∧ (s.setPwr x).flash = s.flash ∧ (s.setPwr x).hif = s.hif ∧ (s.setPwr x).staged = s.staged ∧
    (s.setPwr x).linkOut = s.linkOut ∧ (s.setPwr x).evOut = s.evOut ∧ (s.setPwr x).log = s.log ∧ (s.setPwr x).flt = s.flt ∧
    (s.setPwr x).sec = s.sec ∧ (s.setPwr x).pwr = x ∧ (s.setPwr x).apz = s.apz ∧ (s.setPwr x).cva = s.cva ∧ (s.setPwr x).fab = s.fab ∧
    (s.setPwr x).gouge = s.gouge ∧ (s.setPwr x).grd = s.grd ∧ (s.setPwr x).gau = s.gau ∧ (s.setPwr x).pwm = s.pwm ∧ (s.setPwr x).ctl = s.ctl ∧
    (s.setPwr x).seq = s.seq ∧ (s.setPwr x).ticks = s.ticks ∧ (s.setPwr x).overran = s.overran ∧ (s.setPwr x).worked = s.worked ∧
    (s.setPwr x).fresh = s.fresh ∧ (s.setPwr x).free = s.free ∧ (s.setPwr x).pending = s.pending :=
  ⟨rfl, rfl, rfl, rfl, rfl, rfl, rfl, rfl, rfl, rfl, rfl, rfl, rfl, rfl, rfl, rfl, rfl, rfl, rfl, rfl, rfl, rfl, rfl, rfl, rfl, rfl, rfl, rfl, rfl,
      rfl, rfl, rfl, rfl⟩
@[simp] theorem State.setPwr_get (x : Pwr) (g : Field) : (s.setPwr x).get g = s.get g := rfl

@[simp] theorem State.setApz_fields (x : Apz) :
    (s.setApz x).variant = s.variant ∧ (s.setApz x).turn = s.turn ∧ (s.setApz x).epoch = s.epoch ∧ (s.setApz x).fc = s.fc ∧
    (s.setApz x).regs = s.regs ∧ (s.setApz x).latches = s.latches ∧ (s.setApz x).active = s.active ∧ (s.setApz x).shadow = s.shadow ∧
    (s.setApz x).plan = s.plan ∧ (s.setApz x).flash = s.flash ∧ (s.setApz x).hif = s.hif ∧ (s.setApz x).staged = s.staged ∧
    (s.setApz x).linkOut = s.linkOut ∧ (s.setApz x).evOut = s.evOut ∧ (s.setApz x).log = s.log ∧ (s.setApz x).flt = s.flt ∧
    (s.setApz x).sec = s.sec ∧ (s.setApz x).pwr = s.pwr ∧ (s.setApz x).apz = x ∧ (s.setApz x).cva = s.cva ∧ (s.setApz x).fab = s.fab ∧
    (s.setApz x).gouge = s.gouge ∧ (s.setApz x).grd = s.grd ∧ (s.setApz x).gau = s.gau ∧ (s.setApz x).pwm = s.pwm ∧ (s.setApz x).ctl = s.ctl ∧
    (s.setApz x).seq = s.seq ∧ (s.setApz x).ticks = s.ticks ∧ (s.setApz x).overran = s.overran ∧ (s.setApz x).worked = s.worked ∧
    (s.setApz x).fresh = s.fresh ∧ (s.setApz x).free = s.free ∧ (s.setApz x).pending = s.pending :=
  ⟨rfl, rfl, rfl, rfl, rfl, rfl, rfl, rfl, rfl, rfl, rfl, rfl, rfl, rfl, rfl, rfl, rfl, rfl, rfl, rfl, rfl, rfl, rfl, rfl, rfl, rfl, rfl, rfl, rfl,
      rfl, rfl, rfl, rfl⟩
@[simp] theorem State.setApz_get (x : Apz) (g : Field) : (s.setApz x).get g = s.get g := rfl

@[simp] theorem State.setCva_fields (x : Cva) :
    (s.setCva x).variant = s.variant ∧ (s.setCva x).turn = s.turn ∧ (s.setCva x).epoch = s.epoch ∧ (s.setCva x).fc = s.fc ∧
    (s.setCva x).regs = s.regs ∧ (s.setCva x).latches = s.latches ∧ (s.setCva x).active = s.active ∧ (s.setCva x).shadow = s.shadow ∧
    (s.setCva x).plan = s.plan ∧ (s.setCva x).flash = s.flash ∧ (s.setCva x).hif = s.hif ∧ (s.setCva x).staged = s.staged ∧
    (s.setCva x).linkOut = s.linkOut ∧ (s.setCva x).evOut = s.evOut ∧ (s.setCva x).log = s.log ∧ (s.setCva x).flt = s.flt ∧
    (s.setCva x).sec = s.sec ∧ (s.setCva x).pwr = s.pwr ∧ (s.setCva x).apz = s.apz ∧ (s.setCva x).cva = x ∧ (s.setCva x).fab = s.fab ∧
    (s.setCva x).gouge = s.gouge ∧ (s.setCva x).grd = s.grd ∧ (s.setCva x).gau = s.gau ∧ (s.setCva x).pwm = s.pwm ∧ (s.setCva x).ctl = s.ctl ∧
    (s.setCva x).seq = s.seq ∧ (s.setCva x).ticks = s.ticks ∧ (s.setCva x).overran = s.overran ∧ (s.setCva x).worked = s.worked ∧
    (s.setCva x).fresh = s.fresh ∧ (s.setCva x).free = s.free ∧ (s.setCva x).pending = s.pending :=
  ⟨rfl, rfl, rfl, rfl, rfl, rfl, rfl, rfl, rfl, rfl, rfl, rfl, rfl, rfl, rfl, rfl, rfl, rfl, rfl, rfl, rfl, rfl, rfl, rfl, rfl, rfl, rfl, rfl, rfl,
      rfl, rfl, rfl, rfl⟩
@[simp] theorem State.setCva_get (x : Cva) (g : Field) : (s.setCva x).get g = s.get g := rfl

@[simp] theorem State.setFab_fields (x : Fab) :
    (s.setFab x).variant = s.variant ∧ (s.setFab x).turn = s.turn ∧ (s.setFab x).epoch = s.epoch ∧ (s.setFab x).fc = s.fc ∧
    (s.setFab x).regs = s.regs ∧ (s.setFab x).latches = s.latches ∧ (s.setFab x).active = s.active ∧ (s.setFab x).shadow = s.shadow ∧
    (s.setFab x).plan = s.plan ∧ (s.setFab x).flash = s.flash ∧ (s.setFab x).hif = s.hif ∧ (s.setFab x).staged = s.staged ∧
    (s.setFab x).linkOut = s.linkOut ∧ (s.setFab x).evOut = s.evOut ∧ (s.setFab x).log = s.log ∧ (s.setFab x).flt = s.flt ∧
    (s.setFab x).sec = s.sec ∧ (s.setFab x).pwr = s.pwr ∧ (s.setFab x).apz = s.apz ∧ (s.setFab x).cva = s.cva ∧ (s.setFab x).fab = x ∧
    (s.setFab x).gouge = s.gouge ∧ (s.setFab x).grd = s.grd ∧ (s.setFab x).gau = s.gau ∧ (s.setFab x).pwm = s.pwm ∧ (s.setFab x).ctl = s.ctl ∧
    (s.setFab x).seq = s.seq ∧ (s.setFab x).ticks = s.ticks ∧ (s.setFab x).overran = s.overran ∧ (s.setFab x).worked = s.worked ∧
    (s.setFab x).fresh = s.fresh ∧ (s.setFab x).free = s.free ∧ (s.setFab x).pending = s.pending :=
  ⟨rfl, rfl, rfl, rfl, rfl, rfl, rfl, rfl, rfl, rfl, rfl, rfl, rfl, rfl, rfl, rfl, rfl, rfl, rfl, rfl, rfl, rfl, rfl, rfl, rfl, rfl, rfl, rfl, rfl,
      rfl, rfl, rfl, rfl⟩
@[simp] theorem State.setFab_get (x : Fab) (g : Field) : (s.setFab x).get g = s.get g := rfl

@[simp] theorem State.setGouge_fields (x : Gouge) :
    (s.setGouge x).variant = s.variant ∧ (s.setGouge x).turn = s.turn ∧ (s.setGouge x).epoch = s.epoch ∧ (s.setGouge x).fc = s.fc ∧
    (s.setGouge x).regs = s.regs ∧ (s.setGouge x).latches = s.latches ∧ (s.setGouge x).active = s.active ∧ (s.setGouge x).shadow = s.shadow ∧
    (s.setGouge x).plan = s.plan ∧ (s.setGouge x).flash = s.flash ∧ (s.setGouge x).hif = s.hif ∧ (s.setGouge x).staged = s.staged ∧
    (s.setGouge x).linkOut = s.linkOut ∧ (s.setGouge x).evOut = s.evOut ∧ (s.setGouge x).log = s.log ∧ (s.setGouge x).flt = s.flt ∧
    (s.setGouge x).sec = s.sec ∧ (s.setGouge x).pwr = s.pwr ∧ (s.setGouge x).apz = s.apz ∧ (s.setGouge x).cva = s.cva ∧
    (s.setGouge x).fab = s.fab ∧ (s.setGouge x).gouge = x ∧ (s.setGouge x).grd = s.grd ∧ (s.setGouge x).gau = s.gau ∧ (s.setGouge x).pwm = s.pwm ∧
    (s.setGouge x).ctl = s.ctl ∧ (s.setGouge x).seq = s.seq ∧ (s.setGouge x).ticks = s.ticks ∧ (s.setGouge x).overran = s.overran ∧
    (s.setGouge x).worked = s.worked ∧ (s.setGouge x).fresh = s.fresh ∧ (s.setGouge x).free = s.free ∧ (s.setGouge x).pending = s.pending :=
  ⟨rfl, rfl, rfl, rfl, rfl, rfl, rfl, rfl, rfl, rfl, rfl, rfl, rfl, rfl, rfl, rfl, rfl, rfl, rfl, rfl, rfl, rfl, rfl, rfl, rfl, rfl, rfl, rfl, rfl,
      rfl, rfl, rfl, rfl⟩
@[simp] theorem State.setGouge_get (x : Gouge) (g : Field) : (s.setGouge x).get g = s.get g := rfl

@[simp] theorem State.setGrd_fields (x : Grd) :
    (s.setGrd x).variant = s.variant ∧ (s.setGrd x).turn = s.turn ∧ (s.setGrd x).epoch = s.epoch ∧ (s.setGrd x).fc = s.fc ∧
    (s.setGrd x).regs = s.regs ∧ (s.setGrd x).latches = s.latches ∧ (s.setGrd x).active = s.active ∧ (s.setGrd x).shadow = s.shadow ∧
    (s.setGrd x).plan = s.plan ∧ (s.setGrd x).flash = s.flash ∧ (s.setGrd x).hif = s.hif ∧ (s.setGrd x).staged = s.staged ∧
    (s.setGrd x).linkOut = s.linkOut ∧ (s.setGrd x).evOut = s.evOut ∧ (s.setGrd x).log = s.log ∧ (s.setGrd x).flt = s.flt ∧
    (s.setGrd x).sec = s.sec ∧ (s.setGrd x).pwr = s.pwr ∧ (s.setGrd x).apz = s.apz ∧ (s.setGrd x).cva = s.cva ∧ (s.setGrd x).fab = s.fab ∧
    (s.setGrd x).gouge = s.gouge ∧ (s.setGrd x).grd = x ∧ (s.setGrd x).gau = s.gau ∧ (s.setGrd x).pwm = s.pwm ∧ (s.setGrd x).ctl = s.ctl ∧
    (s.setGrd x).seq = s.seq ∧ (s.setGrd x).ticks = s.ticks ∧ (s.setGrd x).overran = s.overran ∧ (s.setGrd x).worked = s.worked ∧
    (s.setGrd x).fresh = s.fresh ∧ (s.setGrd x).free = s.free ∧ (s.setGrd x).pending = s.pending :=
  ⟨rfl, rfl, rfl, rfl, rfl, rfl, rfl, rfl, rfl, rfl, rfl, rfl, rfl, rfl, rfl, rfl, rfl, rfl, rfl, rfl, rfl, rfl, rfl, rfl, rfl, rfl, rfl, rfl, rfl,
      rfl, rfl, rfl, rfl⟩
@[simp] theorem State.setGrd_get (x : Grd) (g : Field) : (s.setGrd x).get g = s.get g := rfl

@[simp] theorem State.setPwm_fields (x : Pwm) :
    (s.setPwm x).variant = s.variant ∧ (s.setPwm x).turn = s.turn ∧ (s.setPwm x).epoch = s.epoch ∧ (s.setPwm x).fc = s.fc ∧
    (s.setPwm x).regs = s.regs ∧ (s.setPwm x).latches = s.latches ∧ (s.setPwm x).active = s.active ∧ (s.setPwm x).shadow = s.shadow ∧
    (s.setPwm x).plan = s.plan ∧ (s.setPwm x).flash = s.flash ∧ (s.setPwm x).hif = s.hif ∧ (s.setPwm x).staged = s.staged ∧
    (s.setPwm x).linkOut = s.linkOut ∧ (s.setPwm x).evOut = s.evOut ∧ (s.setPwm x).log = s.log ∧ (s.setPwm x).flt = s.flt ∧
    (s.setPwm x).sec = s.sec ∧ (s.setPwm x).pwr = s.pwr ∧ (s.setPwm x).apz = s.apz ∧ (s.setPwm x).cva = s.cva ∧ (s.setPwm x).fab = s.fab ∧
    (s.setPwm x).gouge = s.gouge ∧ (s.setPwm x).grd = s.grd ∧ (s.setPwm x).gau = s.gau ∧ (s.setPwm x).pwm = x ∧ (s.setPwm x).ctl = s.ctl ∧
    (s.setPwm x).seq = s.seq ∧ (s.setPwm x).ticks = s.ticks ∧ (s.setPwm x).overran = s.overran ∧ (s.setPwm x).worked = s.worked ∧
    (s.setPwm x).fresh = s.fresh ∧ (s.setPwm x).free = s.free ∧ (s.setPwm x).pending = s.pending :=
  ⟨rfl, rfl, rfl, rfl, rfl, rfl, rfl, rfl, rfl, rfl, rfl, rfl, rfl, rfl, rfl, rfl, rfl, rfl, rfl, rfl, rfl, rfl, rfl, rfl, rfl, rfl, rfl, rfl, rfl,
      rfl, rfl, rfl, rfl⟩
@[simp] theorem State.setPwm_get (x : Pwm) (g : Field) : (s.setPwm x).get g = s.get g := rfl

@[simp] theorem State.setCtl_fields (x : Ctl) :
    (s.setCtl x).variant = s.variant ∧ (s.setCtl x).turn = s.turn ∧ (s.setCtl x).epoch = s.epoch ∧ (s.setCtl x).fc = s.fc ∧
    (s.setCtl x).regs = s.regs ∧ (s.setCtl x).latches = s.latches ∧ (s.setCtl x).active = s.active ∧ (s.setCtl x).shadow = s.shadow ∧
    (s.setCtl x).plan = s.plan ∧ (s.setCtl x).flash = s.flash ∧ (s.setCtl x).hif = s.hif ∧ (s.setCtl x).staged = s.staged ∧
    (s.setCtl x).linkOut = s.linkOut ∧ (s.setCtl x).evOut = s.evOut ∧ (s.setCtl x).log = s.log ∧ (s.setCtl x).flt = s.flt ∧
    (s.setCtl x).sec = s.sec ∧ (s.setCtl x).pwr = s.pwr ∧ (s.setCtl x).apz = s.apz ∧ (s.setCtl x).cva = s.cva ∧ (s.setCtl x).fab = s.fab ∧
    (s.setCtl x).gouge = s.gouge ∧ (s.setCtl x).grd = s.grd ∧ (s.setCtl x).gau = s.gau ∧ (s.setCtl x).pwm = s.pwm ∧ (s.setCtl x).ctl = x ∧
    (s.setCtl x).seq = s.seq ∧ (s.setCtl x).ticks = s.ticks ∧ (s.setCtl x).overran = s.overran ∧ (s.setCtl x).worked = s.worked ∧
    (s.setCtl x).fresh = s.fresh ∧ (s.setCtl x).free = s.free ∧ (s.setCtl x).pending = s.pending :=
  ⟨rfl, rfl, rfl, rfl, rfl, rfl, rfl, rfl, rfl, rfl, rfl, rfl, rfl, rfl, rfl, rfl, rfl, rfl, rfl, rfl, rfl, rfl, rfl, rfl, rfl, rfl, rfl, rfl, rfl,
      rfl, rfl, rfl, rfl⟩
@[simp] theorem State.setCtl_get (x : Ctl) (g : Field) : (s.setCtl x).get g = s.get g := rfl

@[simp] theorem State.setSeq_fields (x : Seq) :
    (s.setSeq x).variant = s.variant ∧ (s.setSeq x).turn = s.turn ∧ (s.setSeq x).epoch = s.epoch ∧ (s.setSeq x).fc = s.fc ∧
    (s.setSeq x).regs = s.regs ∧ (s.setSeq x).latches = s.latches ∧ (s.setSeq x).active = s.active ∧ (s.setSeq x).shadow = s.shadow ∧
    (s.setSeq x).plan = s.plan ∧ (s.setSeq x).flash = s.flash ∧ (s.setSeq x).hif = s.hif ∧ (s.setSeq x).staged = s.staged ∧
    (s.setSeq x).linkOut = s.linkOut ∧ (s.setSeq x).evOut = s.evOut ∧ (s.setSeq x).log = s.log ∧ (s.setSeq x).flt = s.flt ∧
    (s.setSeq x).sec = s.sec ∧ (s.setSeq x).pwr = s.pwr ∧ (s.setSeq x).apz = s.apz ∧ (s.setSeq x).cva = s.cva ∧ (s.setSeq x).fab = s.fab ∧
    (s.setSeq x).gouge = s.gouge ∧ (s.setSeq x).grd = s.grd ∧ (s.setSeq x).gau = s.gau ∧ (s.setSeq x).pwm = s.pwm ∧ (s.setSeq x).ctl = s.ctl ∧
    (s.setSeq x).seq = x ∧ (s.setSeq x).ticks = s.ticks ∧ (s.setSeq x).overran = s.overran ∧ (s.setSeq x).worked = s.worked ∧
    (s.setSeq x).fresh = s.fresh ∧ (s.setSeq x).free = s.free ∧ (s.setSeq x).pending = s.pending :=
  ⟨rfl, rfl, rfl, rfl, rfl, rfl, rfl, rfl, rfl, rfl, rfl, rfl, rfl, rfl, rfl, rfl, rfl, rfl, rfl, rfl, rfl, rfl, rfl, rfl, rfl, rfl, rfl, rfl, rfl,
      rfl, rfl, rfl, rfl⟩
@[simp] theorem State.setSeq_get (x : Seq) (g : Field) : (s.setSeq x).get g = s.get g := rfl

@[simp] theorem State.setPlan_fields (x : PlanCtl) :
    (s.setPlan x).variant = s.variant ∧ (s.setPlan x).turn = s.turn ∧ (s.setPlan x).epoch = s.epoch ∧ (s.setPlan x).fc = s.fc ∧
    (s.setPlan x).regs = s.regs ∧ (s.setPlan x).latches = s.latches ∧ (s.setPlan x).active = s.active ∧ (s.setPlan x).shadow = s.shadow ∧
    (s.setPlan x).plan = x ∧ (s.setPlan x).flash = s.flash ∧ (s.setPlan x).hif = s.hif ∧ (s.setPlan x).staged = s.staged ∧
    (s.setPlan x).linkOut = s.linkOut ∧ (s.setPlan x).evOut = s.evOut ∧ (s.setPlan x).log = s.log ∧ (s.setPlan x).flt = s.flt ∧
    (s.setPlan x).sec = s.sec ∧ (s.setPlan x).pwr = s.pwr ∧ (s.setPlan x).apz = s.apz ∧ (s.setPlan x).cva = s.cva ∧ (s.setPlan x).fab = s.fab ∧
    (s.setPlan x).gouge = s.gouge ∧ (s.setPlan x).grd = s.grd ∧ (s.setPlan x).gau = s.gau ∧ (s.setPlan x).pwm = s.pwm ∧
    (s.setPlan x).ctl = s.ctl ∧ (s.setPlan x).seq = s.seq ∧ (s.setPlan x).ticks = s.ticks ∧ (s.setPlan x).overran = s.overran ∧
    (s.setPlan x).worked = s.worked ∧ (s.setPlan x).fresh = s.fresh ∧ (s.setPlan x).free = s.free ∧ (s.setPlan x).pending = s.pending :=
  ⟨rfl, rfl, rfl, rfl, rfl, rfl, rfl, rfl, rfl, rfl, rfl, rfl, rfl, rfl, rfl, rfl, rfl, rfl, rfl, rfl, rfl, rfl, rfl, rfl, rfl, rfl, rfl, rfl, rfl,
      rfl, rfl, rfl, rfl⟩
@[simp] theorem State.setPlan_get (x : PlanCtl) (g : Field) : (s.setPlan x).get g = s.get g := rfl

@[simp] theorem State.setGau_fields (n : Nat) (x : GauX) :
    (s.setGau n x).variant = s.variant ∧ (s.setGau n x).turn = s.turn ∧ (s.setGau n x).epoch = s.epoch ∧ (s.setGau n x).fc = s.fc ∧
    (s.setGau n x).regs = s.regs ∧ (s.setGau n x).latches = s.latches ∧ (s.setGau n x).active = s.active ∧ (s.setGau n x).shadow = s.shadow ∧
    (s.setGau n x).plan = s.plan ∧ (s.setGau n x).flash = s.flash ∧ (s.setGau n x).hif = s.hif ∧ (s.setGau n x).staged = s.staged ∧
    (s.setGau n x).linkOut = s.linkOut ∧ (s.setGau n x).evOut = s.evOut ∧ (s.setGau n x).log = s.log ∧ (s.setGau n x).flt = s.flt ∧
    (s.setGau n x).sec = s.sec ∧ (s.setGau n x).pwr = s.pwr ∧ (s.setGau n x).apz = s.apz ∧ (s.setGau n x).cva = s.cva ∧
    (s.setGau n x).fab = s.fab ∧ (s.setGau n x).gouge = s.gouge ∧ (s.setGau n x).grd = s.grd ∧ (s.setGau n x).gau = sparseInsert s.gau n x ∧
    (s.setGau n x).pwm = s.pwm ∧ (s.setGau n x).ctl = s.ctl ∧ (s.setGau n x).seq = s.seq ∧ (s.setGau n x).ticks = s.ticks ∧
    (s.setGau n x).overran = s.overran ∧ (s.setGau n x).worked = s.worked ∧ (s.setGau n x).fresh = s.fresh ∧ (s.setGau n x).free = s.free ∧
    (s.setGau n x).pending = s.pending :=
  ⟨rfl, rfl, rfl, rfl, rfl, rfl, rfl, rfl, rfl, rfl, rfl, rfl, rfl, rfl, rfl, rfl, rfl, rfl, rfl, rfl, rfl, rfl, rfl, rfl, rfl, rfl, rfl, rfl, rfl,
      rfl, rfl, rfl, rfl⟩
@[simp] theorem State.setGau_get (n : Nat) (x : GauX) (g : Field) : (s.setGau n x).get g = s.get g := rfl

/-! ### Register fields -/

theorem getF_setF (m : FMap) (f : Field) (v : Nat) : getF (setF m f v) f = v % 2 ^ f.width := by
  unfold getF setF
  rw [sparseGet_set_same, Nat.mod_mod]

theorem getF_setF_other (m : FMap) (f g : Field) (v : Nat) (h : g.key ≠ f.key) : getF (setF m f v) g = getF m g := by
  unfold getF setF
  rw [sparseGet_set_other _ _ _ _ h]

/-- A field reads as no more than its width. -/
theorem State.get_lt (f : Field) : s.get f < 2 ^ f.width := Nat.mod_lt _ (Nat.two_pow_pos _)

/-- A field written reads back, cut to its width. -/
@[simp] theorem State.get_put_same (f : Field) (v : Nat) : (s.put f v).get f = v % 2 ^ f.width := getF_setF _ _ _

/-- Every other field reads as before. -/
theorem State.get_put_other (f g : Field) (v : Nat) (h : g.key ≠ f.key) : (s.put f v).get g = s.get g := getF_setF_other _ _ _ _ h

/-- Setting or clearing a flag writes it; setting it is also noted as an event of this fc (R11). -/
theorem State.putB_eq (f : Field) (b : Bool) : s.putB f b = (if b then s.note f 1 else s).put f (b2n b) := rfl
theorem State.puti_eq (f : Field) (v : Int) : s.puti f v = s.put f (unsgn f.width v) := rfl
theorem State.bump_eq (f : Field) (k : Nat) : s.bump f k = (s.note f k).put f (satAdd (2 ^ f.width - 1) (s.get f) k) := rfl
theorem State.putBit_eq (f : Field) (i : Nat) (b : Bool) :
    s.putBit f i b = (if b then s.note f (2 ^ i) else s).put f (setBit (s.get f) i b) := rfl
theorem State.flag_eq (f : Field) : s.flag f = (s.get f != 0) := rfl

@[simp] theorem State.putB_regs (f : Field) (b : Bool) : (s.putB f b).regs = setF s.regs f (b2n b) := by cases b <;> rfl
@[simp] theorem State.putBit_regs (f : Field) (i : Nat) (b : Bool) : (s.putBit f i b).regs = setF s.regs f (setBit (s.get f) i b) := by
  cases b <;> rfl
@[simp] theorem State.bump_regs (f : Field) (k : Nat) : (s.bump f k).regs = setF s.regs f (satAdd (2 ^ f.width - 1) (s.get f) k) := rfl
@[simp] theorem State.get_putB_same (f : Field) (b : Bool) : (s.putB f b).get f = b2n b % 2 ^ f.width := by
  cases b <;> exact getF_setF _ _ _
theorem State.get_putB_other (f g : Field) (b : Bool) (h : g.key ≠ f.key) : (s.putB f b).get g = s.get g := by
  cases b <;> exact getF_setF_other _ _ _ _ h
theorem State.get_bump_other (f g : Field) (k : Nat) (h : g.key ≠ f.key) : (s.bump f k).get g = s.get g := getF_setF_other _ _ _ _ h

end Sys2Proof.Machine
end

