-- ==== Sys2Proof/Laws/Desc.lean ====
section
/-! SUPPORT. Descriptors and their completions: what starting, finishing and posting can do. -/
namespace Sys2Proof.Machine

variable {s : State}

/-- A descriptor command on a descriptor that waits to start acts on the state in which it has started. -/
theorem State.withDesc_offers {d : Desc} {op fc : Nat} (f : Desc → State → State) (h : s.offers op d) :
    s.withDesc fc d.sq d.idx op f = f d (s.started fc d.key) := by
  obtain ⟨hw, -, ho, -, hb⟩ := h
  have e : (s.at fc).begin d.sq d.idx op = some (d, s.started fc d.key) := by
    have hw' : (s.at fc).waiting d.sq d.idx = some d := hw
    have hb' : (s.at fc).startable d = true := hb
    unfold State.begin
    rw [hw']
    simp only [ho, hb', beq_self_eq_true, Bool.and_self, if_true]
    rfl
  simp only [State.withDesc, e]

/-- Messages already on the link stay; a message may follow. -/
theorem State.sendVec_link (v : Nat) : s.linkOut <+: (s.sendVec v).linkOut := by
  unfold State.sendVec
  repeat' split
  · exact List.prefix_refl _
  · exact List.prefix_refl _
  · exact List.prefix_append _ _
theorem State.sendVec_hif (v : Nat) : (s.sendVec v).hif = s.hif := by
  unfold State.sendVec
  repeat' split
  all_goals rfl
theorem State.cqMessage_link (cq : Nat) : s.linkOut <+: (s.cqMessage cq).linkOut := by
  unfold State.cqMessage
  extract_lets t v
  split
  · exact List.prefix_refl _
  · exact State.sendVec_link (s := t) v
theorem State.cqMessage_hif (cq : Nat) : (s.cqMessage cq).hif.inflight = s.hif.inflight ∧ (s.cqMessage cq).hif.held = s.hif.held := by
  unfold State.cqMessage
  extract_lets t v
  split
  · exact ⟨rfl, rfl⟩
  · rw [State.sendVec_hif]
    exact ⟨rfl, rfl⟩

/-- Where the next entry of a completion ring lies in host memory (R199). -/
def State.cplAt (s : State) (cq : Nat) : Nat :=
  2 ^ 12 * s.get (F.HIF_CQ_BASE_LO_BASE cq) + 2 ^ 32 * s.get (F.HIF_CQ_BASE_HI_BASE cq) + 32 * s.get (F.HIF_CQ_STATUS_TAIL cq)

/-- The message that writes a completion at its ring's tail. -/
def State.cplMsg (s : State) (c : Cpl) : LinkMsg :=
  .cpl c.cq (s.get (F.HIF_CQ_STATUS_TAIL c.cq)) (s.cplAt c.cq) (cplBytes c (s.get (F.HIF_SQ_STATUS_HEAD c.sq)) (s.get (F.HIF_CQ_STATUS_PHASE c.cq)))

/-- Writing a completion puts it on the link, in its ring at the ring's tail; descriptors and held completions stay. -/
theorem State.writeCpl_spec (c : Cpl) :
    (∃ l, (s.writeCpl c).linkOut = s.linkOut ++ s.cplMsg c :: l) ∧
    (s.writeCpl c).hif.inflight = s.hif.inflight ∧ (s.writeCpl c).hif.held = s.hif.held := by
  unfold State.writeCpl
  extract_lets cq tail phase wrap base s1 s2 s3 e n first s4 lim
  have h3 : s3.linkOut = s1.linkOut ∧ s3.hif = s.hif := by unfold s3; split <;> exact ⟨rfl, rfl⟩
  have h4 : s4.linkOut = s1.linkOut ∧ s4.hif.inflight = s.hif.inflight ∧ s4.hif.held = s.hif.held :=
    ⟨h3.1, congrArg (·.inflight) h3.2, congrArg (·.held) h3.2⟩
  split
  · obtain ⟨l, hl⟩ := State.cqMessage_link (s := s4) cq
    refine ⟨⟨l, ?_⟩, (State.cqMessage_hif cq).1.trans h4.2.1, (State.cqMessage_hif cq).2.trans h4.2.2⟩
    rw [← hl, h4.1]
    exact List.append_assoc _ _ _
  · exact ⟨⟨[], h4.1⟩, h4.2⟩

/-- Posting a completion writes it, or holds it, or loses it; descriptors stay, and what was on the link or held stays. -/
theorem State.post_spec (c : Cpl) :
    (s.post c).hif.inflight = s.hif.inflight ∧ s.linkOut <+: (s.post c).linkOut ∧ (∀ x ∈ s.hif.held, x ∈ (s.post c).hif.held) ∧
    (s.takesCpl c.cq → (s.post c).reports c.cq c) := by
  unfold State.post
  split
  · obtain ⟨⟨l, hl⟩, hi, hh⟩ := State.writeCpl_spec (s := s) c
    have hm := List.mem_append_right s.linkOut (List.mem_cons_self (a := s.cplMsg c) (l := l))
    exact ⟨hi, hl ▸ List.prefix_append _ _, fun x hx => hh ▸ hx, fun _ => .inl ⟨_, _, _, _, hl ▸ hm⟩⟩
  · rename_i hr
    split
    · refine ⟨rfl, List.prefix_refl _, fun x hx => List.mem_append_left _ hx, fun _ => .inr (List.mem_append_right _ List.mem_cons_self)⟩
    · rename_i hl
      exact ⟨rfl, List.prefix_refl _, fun x hx => hx, fun h => (h.elim hr hl).elim⟩

theorem State.reports_mono {t : State} {cq : Nat} {c : Cpl} (hl : s.linkOut <+: t.linkOut) (hh : ∀ x ∈ s.hif.held, x ∈ t.hif.held)
    (h : s.reports cq c) : t.reports cq c :=
  h.imp (fun ⟨i, pa, hd, p, hm⟩ => ⟨i, pa, hd, p, hl.subset hm⟩) (hh c)

theorem State.findDesc_none {k : DescKey} : s.findDesc k = none ↔ ∀ e ∈ s.hif.inflight, (e.key == k) = false := by
  unfold State.findDesc
  rw [List.find?_eq_none]
  exact forall₂_congr fun e _ => by simp

/-- Finishing a descriptor takes it out of flight and touches no other; nothing on the link or held is lost. -/
theorem State.finishAt_spec (k : DescKey) (st cause res det fl : Nat) (t : TurnNo) (fc : Nat) :
    (s.finishAt k st cause res det fl t fc).hif.inflight = s.hif.inflight.filter (fun e => e.key != k) ∧
    s.linkOut <+: (s.finishAt k st cause res det fl t fc).linkOut ∧
    (∀ x ∈ s.hif.held, x ∈ (s.finishAt k st cause res det fl t fc).hif.held) := by
  unfold State.finishAt
  split
  · rename_i h
    refine ⟨?_, List.prefix_refl _, fun _ hx => hx⟩
    have h' := List.find?_eq_none.1 h
    refine (List.filter_eq_self.2 fun e he => ?_).symm
    simpa [bne] using h' e he
  · rename_i d h
    extract_lets x s1
    obtain ⟨h1, h2, h3, -⟩ := State.post_spec (s := s1) ⟨d.tag, d.idx, d.sq, d.opcode, st, cause, t, fc, res, det, fl, bit d.flags 0, d.cq⟩
    exact ⟨h1, h2, h3⟩

/-- Completing fences takes descriptors out of flight and brings none in; nothing on the link or held is lost. -/
theorem State.settleFences_spec (n : Nat) :
    (∀ e ∈ (State.settleFences n s).hif.inflight, e ∈ s.hif.inflight) ∧ s.linkOut <+: (State.settleFences n s).linkOut ∧
    (∀ x ∈ s.hif.held, x ∈ (State.settleFences n s).hif.held) := by
  induction n generalizing s with
  | zero => exact ⟨fun _ h => h, List.prefix_refl _, fun _ h => h⟩
  | succ n ih =>
    unfold State.settleFences
    split
    · exact ⟨fun _ h => h, List.prefix_refl _, fun _ h => h⟩
    · rename_i d _
      obtain ⟨h1, h2, h3⟩ := State.finishAt_spec (s := s) d.key 1 0 0 0 0 s.turn s.fc
      obtain ⟨g1, g2, g3⟩ := ih (s := s.finishAt d.key 1 0 0 0 0 s.turn s.fc)
      exact ⟨fun e he => (List.mem_filter.1 (h1 ▸ g1 e he)).1, h2.trans g2, fun x hx => g3 x (h3 x hx)⟩

/-- Completing a descriptor in flight: it is in flight no more, and its one completion has gone out or is held. -/
theorem State.completeAt_spec {d : Desc} {k : DescKey} (hf : s.findDesc k = some d) (ht : s.takesCpl d.cq)
    (st cause res det fl : Nat) (t : TurnNo) (fc : Nat) :
    (s.completeAt k st cause res det fl t fc).findDesc k = none ∧
    (s.completeAt k st cause res det fl t fc).reports d.cq
      ⟨d.tag, d.idx, d.sq, d.opcode, st, cause, t, fc, res, det, fl, bit d.flags 0, d.cq⟩ := by
  unfold State.completeAt
  extract_lets s1
  obtain ⟨g1, g2, g3⟩ := State.settleFences_spec (s := s1) s1.hif.inflight.length
  refine ⟨State.findDesc_none.2 fun e he => ?_, State.reports_mono g2 g3 ?_⟩
  · have h := (State.finishAt_spec (s := s) k st cause res det fl t fc).1
    have hb := (List.mem_filter.1 (h ▸ g1 e he)).2
    exact (Bool.not_eq_eq_eq_not).1 hb
  · unfold s1 State.finishAt
    rw [hf]
    exact (State.post_spec _).2.2.2 ht

end Sys2Proof.Machine
end

