-- ==== Sys2Proof/Laws/Frame.lean ====
section
/-! SUPPORT. What no operation touches but the few that are about it: `Kept`, and how it passes through the constructs the operations
are written in. Every operation has a lemma that it keeps what its argument keeps (Laws/Kept*.lean). -/
namespace Sys2Proof.Machine

/-- The parts of the state that only few commands write: the variant, the queue, the OTP and its commit, the Turn count, the Active Plan. -/
def State.core (s : State) : Variant × List Instr × Otp × Bool × TurnNo × BitVec 16 × Nat × Plan :=
  (s.variant, s.pending, s.sec.otp, s.sec.committing, s.turn, s.epoch, s.ticks, s.active)

/-- `t` has the core of `s`; the image buffer stays canonical and, unless `im`, as it was; the position in the Turn stays inside it. -/
structure Kept (im : Bool) (s t : State) : Prop where
  core : t.core = s.core
  image : Memory.wf s.plan.image = true → Memory.wf t.plan.image = true
  fc : s.fc < 3072 → t.fc < 3072
  bytes : im = false → t.plan.image = s.plan.image

/-- `Kept`, of the next state an outcome answers. -/
def Keeps (im : Bool) (s : State) : Host.Outcome State Fault Refusal → Prop
  | .next t => Kept im s t
  | _ => True

variable {im : Bool} {r₀ s : State}

theorem Kept.refl (s : State) : Kept im s s := ⟨rfl, id, id, fun _ => rfl⟩
theorem Kept.trans {s t u : State} (h : Kept im s t) (g : Kept im t u) : Kept im s u :=
    ⟨g.1.trans h.1, g.2 ∘ h.2, g.3 ∘ h.3, fun e => (g.4 e).trans (h.4 e)⟩
theorem Kept.to {t : State} (h : Kept im r₀ s) (e : (t.core, t.plan.image, t.fc) = (s.core, s.plan.image, s.fc)) : Kept im r₀ t := by
  simp only [Prod.mk.injEq] at e
  exact ⟨e.1.trans h.1, fun g => e.2.1.symm ▸ h.2 g, fun g => e.2.2.symm ▸ h.3 g, fun g => e.2.1.trans (h.4 g)⟩

theorem keeps_next {t : State} (h : Kept im r₀ t) : Keeps im r₀ (.next t) := h
theorem keeps_okIf {b : Bool} {t : State} (h : Kept im r₀ t) : Keeps im r₀ (okIf b t) := by
  unfold okIf; split
  · exact h
  · trivial
theorem Kept.ite {c : Prop} [Decidable c] {a b : State} (ha : Kept im r₀ a) (hb : Kept im r₀ b) : Kept im r₀ (if c then a else b) := by
  split
  · exact ha
  · exact hb
theorem Kept.ite_fst {α : Type} {c : Prop} [Decidable c] {a b : State × α} (ha : Kept im r₀ a.1) (hb : Kept im r₀ b.1) :
    Kept im r₀ (if c then a else b).1 := by
  split
  · exact ha
  · exact hb
theorem Keeps.ite {c : Prop} [Decidable c] {a b : Host.Outcome State Fault Refusal} (ha : Keeps im r₀ a) (hb : Keeps im r₀ b) :
    Keeps im r₀ (if c then a else b) := by
  split
  · exact ha
  · exact hb
theorem Kept.foldl {α : Type} {l : List α} {f : State → α → State} (h : Kept im r₀ s) (hf : ∀ t a, Kept im r₀ t → Kept im r₀ (f t a)) :
    Kept im r₀ (l.foldl f s) := by
  induction l generalizing s with
  | nil => exact h
  | cons a l ih => exact ih (hf s a h)
theorem Kept.each {α : Type} {l : List α} {f : State → α → State} (h : Kept im r₀ s) (hf : ∀ t a, Kept im r₀ t → Kept im r₀ (f t a)) :
    Kept im r₀ (s.each l f) := Kept.foldl h hf
theorem Kept.sec {c : Sec} (h : Kept im r₀ s) (ho : c.otp = s.sec.otp) (hc : c.committing = s.sec.committing) : Kept im r₀ (s.setSec c) :=
  ⟨by rw [← h.1]; simp only [State.core, State.setSec, ho, hc], h.2, h.3, h.4⟩
theorem Kept.plan {p : PlanCtl} (h : Kept im r₀ s) (hi : p.image = s.plan.image) : Kept im r₀ (s.setPlan p) :=
  ⟨h.1, fun g => by simpa only [State.setPlan, hi] using h.2 g, h.3, fun g => hi.trans (h.4 g)⟩
theorem Kept.moved {p : PlanCtl} (h : Kept true r₀ s) (hi : Memory.wf s.plan.image = true → Memory.wf p.image = true) :
    Kept true r₀ (s.setPlan p) := ⟨h.1, hi ∘ h.2, h.3, fun g => nomatch g⟩

/-! ### What a command may do to the core -/

/-- What every command keeps: the variant and the queue; the OTP only grows, and stays within its bounds; the image buffer
stays as it was unless `im`. -/
structure Grown (im : Bool) (s t : State) : Prop where
  variant : t.variant = s.variant
  pending : t.pending = s.pending
  otp : s.sec.otpOk = true → s.sec.otp.grows t.sec.otp ∧ t.sec.otpOk = true
  image : Memory.wf s.plan.image = true → Memory.wf t.plan.image = true
  fc : s.fc < 3072 → t.fc < 3072
  bytes : im = false → t.plan.image = s.plan.image

/-- `Grown`, of the next state an outcome answers. -/
def Grows (im : Bool) (s : State) : Host.Outcome State Fault Refusal → Prop
  | .next t => Grown im s t
  | _ => True

theorem Otp.grows_refl (o : Otp) : o.grows o := ⟨rfl, rfl, Nat.le_refl _, List.prefix_refl _⟩
theorem Otp.grows_trans {o p q : Otp} (h : o.grows p) (g : p.grows q) : o.grows q :=
  ⟨g.1.trans h.1, g.2.1.trans h.2.1, Nat.le_trans h.2.2.1 g.2.2.1, h.2.2.2.trans g.2.2.2⟩
theorem Grown.refl (s : State) : Grown im s s := ⟨rfl, rfl, fun h => ⟨Otp.grows_refl _, h⟩, id, id, fun _ => rfl⟩
theorem Grown.trans {s t u : State} (h : Grown im s t) (g : Grown im t u) : Grown im s u :=
  ⟨g.1.trans h.1, g.2.trans h.2, fun e => ⟨Otp.grows_trans (h.3 e).1 (g.3 (h.3 e).2).1, (g.3 (h.3 e).2).2⟩, g.4 ∘ h.4, g.5 ∘ h.5,
   fun e => (g.6 e).trans (h.6 e)⟩
theorem Kept.variant {s t : State} (h : Kept im s t) : t.variant = s.variant := congrArg (·.1) h.1
theorem Kept.pending {s t : State} (h : Kept im s t) : t.pending = s.pending := congrArg (·.2.1) h.1
theorem Kept.otp {s t : State} (h : Kept im s t) : t.sec.otp = s.sec.otp := congrArg (·.2.2.1) h.1
theorem Kept.committing {s t : State} (h : Kept im s t) : t.sec.committing = s.sec.committing := congrArg (·.2.2.2.1) h.1
theorem Kept.turn {s t : State} (h : Kept im s t) : t.turn = s.turn := congrArg (·.2.2.2.2.1) h.1
theorem Kept.epoch {s t : State} (h : Kept im s t) : t.epoch = s.epoch := congrArg (·.2.2.2.2.2.1) h.1
theorem Kept.ticks {s t : State} (h : Kept im s t) : t.ticks = s.ticks := congrArg (·.2.2.2.2.2.2.1) h.1
theorem Kept.active {s t : State} (h : Kept im s t) : t.active = s.active := congrArg (·.2.2.2.2.2.2.2) h.1
theorem Kept.grown {s t : State} (h : Kept im s t) : Grown im s t :=
  ⟨h.variant, h.pending, fun g => ⟨h.otp ▸ Otp.grows_refl _, by simpa only [Sec.otpOk, h.otp, h.committing] using g⟩, h.2, h.3, h.4⟩
theorem Keeps.grows {s : State} {o : Host.Outcome State Fault Refusal} (h : Keeps im s o) : Grows im s o := by
  cases o with
  | next t => exact Kept.grown h
  | fault f => trivial
  | refused f => trivial
theorem Grown.keep {s t u : State} (h : Grown im s t) (g : Kept im t u) : Grown im s u := h.trans g.grown
theorem grows_next {t : State} (h : Grown im r₀ t) : Grows im r₀ (.next t) := h
theorem grows_okIf {b : Bool} {t : State} (h : Grown im r₀ t) : Grows im r₀ (okIf b t) := by
  unfold okIf; split
  · exact h
  · trivial
theorem Grown.ite {c : Prop} [Decidable c] {a b : State} (ha : Grown im r₀ a) (hb : Grown im r₀ b) : Grown im r₀ (if c then a else b) := by
  split
  · exact ha
  · exact hb
theorem Grows.ite {c : Prop} [Decidable c] {a b : Host.Outcome State Fault Refusal} (ha : Grows im r₀ a) (hb : Grows im r₀ b) :
    Grows im r₀ (if c then a else b) := by
  split
  · exact ha
  · exact hb

end Sys2Proof.Machine
end

