-- ==== Sys2Proof/Laws/KeptOps.lean ====
section
/-! SUPPORT. The operations and meanings of Machine/Ops.lean keep what their argument keeps (Laws/Frame.lean). -/
namespace Sys2Proof.Machine

variable {im : Bool} {r₀ s : State}

theorem State.put_kept (f v) (hk : Kept im r₀ s) : Kept im r₀ (State.put s f v) := by
  unfold State.put
  exact hk.to rfl
theorem State.note_kept (f k) (hk : Kept im r₀ s) : Kept im r₀ (State.note s f k) := by
  unfold State.note
  exact hk.to rfl
theorem State.putB_kept (f b) (hk : Kept im r₀ s) : Kept im r₀ (State.putB s f b) := by
  unfold State.putB
  exact State.put_kept _ _ (Kept.ite (State.note_kept _ _ hk) hk)
theorem State.puti_kept (f v) (hk : Kept im r₀ s) : Kept im r₀ (State.puti s f v) := by
  unfold State.puti
  exact State.put_kept _ _ hk
theorem State.bump_kept (f k) (hk : Kept im r₀ s) : Kept im r₀ (State.bump s f k) := by
  unfold State.bump
  exact State.put_kept _ _ (State.note_kept _ _ hk)
theorem State.putBit_kept (f i b) (hk : Kept im r₀ s) : Kept im r₀ (State.putBit s f i b) := by
  unfold State.putBit
  exact State.put_kept _ _ (Kept.ite (State.note_kept _ _ hk) hk)
theorem State.at_kept (fc) (hk : Kept im r₀ s) : Kept im r₀ (State.at s fc) :=
  ⟨hk.1, hk.2, fun _ => Nat.mod_lt _ (by decide), hk.4⟩
theorem State.raise_kept (src) (hk : Kept im r₀ s) : Kept im r₀ (State.raise s src) := by
  unfold State.raise
  extract_lets -merge x0
  exact hk.to rfl
theorem State.live_kept (src b) (hk : Kept im r₀ s) : Kept im r₀ (State.live s src b) := by
  unfold State.live
  exact Kept.ite (State.putBit_kept _ _ _ hk) (State.putBit_kept _ _ _ hk)
theorem State.emit_kept (code sev unit payload) (hk : Kept im r₀ s) : Kept im r₀ (State.emit s code sev unit payload) := by
  unfold State.emit
  exact hk.to rfl
theorem State.tick_kept (hk : Kept im r₀ s) : Kept im r₀ (State.tick s) := by
  unfold State.tick
  exact hk.to rfl
theorem State.link_kept (m) (hk : Kept im r₀ s) : Kept im r₀ (State.link s m) := by
  unfold State.link
  exact hk.to rfl
theorem State.sendVec_kept (v) (hk : Kept im r₀ s) : Kept im r₀ (State.sendVec s v) := by
  unfold State.sendVec
  exact Kept.ite hk (Kept.ite (State.putBit_kept _ _ _ hk) (State.link_kept _ hk))
theorem State.irq_kept (k) (hk : Kept im r₀ s) : Kept im r₀ (State.irq s k) := by
  unfold State.irq
  extract_lets -merge x0 x1 x2
  exact Kept.ite hk (State.sendVec_kept _ hk)
theorem State.setHif_kept (h) (hk : Kept im r₀ s) : Kept im r₀ (State.setHif s h) := by
  unfold State.setHif
  exact hk.to rfl
theorem State.setCoal_kept (cq e) (hk : Kept im r₀ s) : Kept im r₀ (State.setCoal s cq e) := by
  unfold State.setCoal
  extract_lets -merge x0
  exact State.setHif_kept _ hk
theorem State.cqMessage_kept (cq) (hk : Kept im r₀ s) : Kept im r₀ (State.cqMessage s cq) := by
  unfold State.cqMessage
  extract_lets -merge s0 x1
  have h0 : Kept im r₀ s0 := State.setCoal_kept _ _ hk
  clear_value s0
  exact Kept.ite h0 (State.sendVec_kept _ h0)
theorem State.writeCpl_kept (c) (hk : Kept im r₀ s) : Kept im r₀ (State.writeCpl s c) := by
  unfold State.writeCpl
  extract_lets -merge x0 x1 x2 x3 x4 s5 s6 s7 x8 x9 x10 s11 x12
  have h5 : Kept im r₀ s5 := State.link_kept _ hk
  have h6 : Kept im r₀ s6 := State.put_kept _ _ h5
  have h7 : Kept im r₀ s7 := Kept.ite (State.put_kept _ _ h6) h6
  have h11 : Kept im r₀ s11 := State.setCoal_kept _ _ h7
  clear_value s5 s6 s7 s11
  exact Kept.ite (State.cqMessage_kept _ h11) h11
theorem State.post_kept (c) (hk : Kept im r₀ s) : Kept im r₀ (State.post s c) := by
  unfold State.post
  extract_lets -merge x0 s1 s2
  have h1 : Kept im r₀ s1 := State.bump_kept _ _ hk
  have h2 : Kept im r₀ s2 := State.emit_kept _ _ _ _ h1
  clear_value s1 s2
  exact Kept.ite (State.writeCpl_kept _ hk) (Kept.ite (State.setHif_kept _ hk) (State.raise_kept _ h2))
theorem State.finishAt_kept (k status cause result detail flags t fc) (hk : Kept im r₀ s) : Kept im r₀ (State.finishAt s k status cause result detail
    flags t fc) := by
  unfold State.finishAt
  extract_lets -merge x0 s1
  have h1 : Kept im r₀ s1 := State.setHif_kept _ hk
  clear_value s1
  split
  · exact hk
  · exact State.post_kept _ h1
theorem State.settleFences_kept (n) (hk : Kept im r₀ s) : Kept im r₀ (State.settleFences n s) := by
  induction n generalizing s with
  | zero => exact hk
  | succ n ih =>
    unfold State.settleFences
    split
    · exact hk
    · exact ih (State.finishAt_kept _ _ _ _ _ _ _ _ hk)
theorem State.completeAt_kept (k status cause result detail flags t fc) (hk : Kept im r₀ s) : Kept im r₀ (State.completeAt s k status cause result
    detail flags t fc) := by
  unfold State.completeAt
  extract_lets -merge s0
  have h0 : Kept im r₀ s0 := State.finishAt_kept _ _ _ _ _ _ _ _ hk
  clear_value s0
  exact State.settleFences_kept _ h0
theorem State.done_kept (k result) (hk : Kept im r₀ s) : Kept im r₀ (State.done s k result) := by
  unfold State.done
  exact State.completeAt_kept _ _ _ _ _ _ _ _ hk
theorem State.doneBoundary_kept (k result) (hk : Kept im r₀ s) : Kept im r₀ (State.doneBoundary s k result) := by
  unfold State.doneBoundary
  exact State.completeAt_kept _ _ _ _ _ _ _ _ hk
theorem State.failed_kept (k cause detail) (hk : Kept im r₀ s) : Kept im r₀ (State.failed s k cause detail) := by
  unfold State.failed
  exact State.completeAt_kept _ _ _ _ _ _ _ _ hk
theorem State.doneOpt_kept (k result) (hk : Kept im r₀ s) : Kept im r₀ (State.doneOpt s k result) := by
  unfold State.doneOpt
  split
  · exact State.done_kept _ _ hk
  · exact hk
theorem State.failedOpt_kept (k cause detail) (hk : Kept im r₀ s) : Kept im r₀ (State.failedOpt s k cause detail) := by
  unfold State.failedOpt
  split
  · exact State.failed_kept _ _ _ hk
  · exact hk
theorem State.stage_kept (k e) (hk : Kept im r₀ s) : Kept im r₀ (State.stage s k e) := by
  unfold State.stage
  exact hk.to rfl
theorem State.begin_kept {sq idx op d t} (h : s.begin sq idx op = some (d, t)) (hk : Kept im r₀ s) : Kept im r₀ t := by
  unfold State.begin at h
  split at h
  · cases h
  · split at h
    · cases h
      exact State.setHif_kept _ hk
    · cases h
theorem Kept.withDesc {fc sq idx op} {f : Desc → State → State} (hk : Kept im r₀ s) (hf : ∀ d t, Kept im r₀ t → Kept im r₀ (f d t)) :
    Kept im r₀ (State.withDesc s fc sq idx op f) := by
  unfold State.withDesc
  split
  · exact State.at_kept _ hk
  · exact hf _ _ (State.begin_kept ‹_› (State.at_kept _ hk))
theorem State.safeCause_kept (c) (hk : Kept im r₀ s) : Kept im r₀ (State.safeCause s c) := by
  unfold State.safeCause
  extract_lets -merge x0
  exact hk.to rfl
theorem State.setPwm_kept (p) (hk : Kept im r₀ s) : Kept im r₀ (State.setPwm s p) := by
  unfold State.setPwm
  exact hk.to rfl
theorem State.unfreeze_kept (hk : Kept im r₀ s) : Kept im r₀ (State.unfreeze s) := by
  unfold State.unfreeze
  split
  · exact hk
  · extract_lets -merge x0
    exact Kept.ite hk (State.putB_kept _ _ (State.setPwm_kept _ hk))
theorem State.freezePwm_kept (hk : Kept im r₀ s) : Kept im r₀ (State.freezePwm s) := by
  unfold State.freezePwm
  extract_lets -merge x0
  exact Kept.ite hk (State.putB_kept _ _ (State.putB_kept _ _ (State.setPwm_kept _ hk)))
theorem State.releaseHalt_kept (hk : Kept im r₀ s) : Kept im r₀ (State.releaseHalt s) := by
  unfold State.releaseHalt
  extract_lets -merge x0 s1
  have h1 : Kept im r₀ s1 := hk.to rfl
  clear_value s1
  exact State.unfreeze_kept (State.putB_kept _ _ (State.putB_kept _ _ h1))
theorem State.once_kept {cls sl} {f : State → Nat → State} (hk : Kept im r₀ s) (hf : ∀ t a, Kept im r₀ t → Kept im r₀ (f t a)) :
    Kept im r₀ (State.once s cls sl f) := by
  unfold State.once
  exact Kept.ite hk (hf _ _ (hk.to rfl))
theorem State.awake_kept {t : State} (hk : Kept im r₀ s) (ht : Kept im r₀ t) : Kept im r₀ (s.awake t) := Kept.ite hk ht
theorem State.onceATurn_kept {k} {f : State → State} (hk : Kept im r₀ s) (hf : ∀ t, Kept im r₀ t → Kept im r₀ (f t)) :
    Kept im r₀ (State.onceATurn s k f) := State.awake_kept hk (State.once_kept hk (fun t _ h => hf t h))
theorem okIf_keeps (ok) (hk : Kept im r₀ s) : Keeps im r₀ (okIf ok s) := by
  unfold okIf
  refine Keeps.ite (keeps_next hk) ?_
  trivial

end Sys2Proof.Machine
end

