-- ==== Sys2Proof/Laws/KeptRecorder.lean ====
section
/-! SUPPORT. The operations and meanings of Machine/Recorder.lean keep what their argument keeps (Laws/Frame.lean). -/
namespace Sys2Proof.Machine

variable {im : Bool} {r₀ s : State}

theorem State.setLog_kept (l) (hk : Kept im r₀ s) : Kept im r₀ (State.setLog s l) := by
  unfold State.setLog
  exact hk.to rfl
theorem State.witness_kept (code sev unit bank seqLo) (hk : Kept im r₀ s) : Kept im r₀ (State.witness s code sev unit bank seqLo) := by
  unfold State.witness
  extract_lets -merge f0 s5 s6
  have h0 : ∀ a0 a1, Kept im r₀ a0 → Kept im r₀ (f0 a0 a1) := by
    intro a0 a1 ha
    unfold f0
    extract_lets -merge s1 s2 s3 s4
    have h1 : Kept im r₀ s1 := State.put_kept _ _ ha
    have h2 : Kept im r₀ s2 := State.put_kept _ _ h1
    have h3 : Kept im r₀ s3 := State.put_kept _ _ h2
    have h4 : Kept im r₀ s4 := State.put_kept _ _ h3
    clear_value s1 s2 s3 s4
    exact State.put_kept _ _ h4
  have h5 : Kept im r₀ s5 := h0 _ _ (h0 _ _ (h0 _ _ hk))
  have h6 : Kept im r₀ s6 := State.put_kept _ _ (State.put_kept _ _ h5)
  clear_value f0 s5 s6
  exact State.put_kept _ _ (State.put_kept _ _ (State.put_kept _ _ h6))
theorem State.logFlag_kept (sev) (hk : Kept im r₀ s) : Kept im r₀ (State.logFlag s sev) := by
  unfold State.logFlag
  extract_lets -merge x0 s1
  have h1 : Kept im r₀ s1 := State.putB_kept _ _ hk
  clear_value s1
  exact Kept.ite (Kept.ite h1 (State.irq_kept _ h1)) hk
theorem State.writeOne_kept (e queued prot supp) (hk : Kept im r₀ s) : Kept im r₀ (State.writeOne s e queued prot supp) := by
  unfold State.writeOne
  extract_lets -merge x0 s1 x2 x3 s4 x5
  have h1 : Kept im r₀ s1 := Kept.ite hk (State.witness_kept _ _ _ _ _ hk)
  have h4 : Kept im r₀ s4 := State.tick_kept (State.setLog_kept _ hk)
  clear_value s1 s4
  refine Kept.ite (State.bump_kept _ _ (State.put_kept _ _ h1)) ?_
  refine Kept.ite (State.logFlag_kept _ (State.put_kept _ _ h4)) ?_
  split
  · extract_lets -merge x6 s7
    have h7 : Kept im r₀ s7 := State.setLog_kept _ hk
    clear_value s7
    exact State.logFlag_kept _ (State.put_kept _ _ h7)
  · exact State.raise_kept _ (State.bump_kept _ _ hk)
theorem State.writeRec_kept (e queued prot supp) (hk : Kept im r₀ s) : Kept im r₀ (State.writeRec s e queued prot supp) := by
  unfold State.writeRec
  extract_lets -merge x0 s1 s2
  have h1 : Kept im r₀ s1 := State.writeOne_kept _ _ _ _ hk
  have h2 : Kept im r₀ s2 := State.bump_kept _ _ h1
  clear_value s1 s2
  exact Kept.ite (State.writeOne_kept _ _ _ _ h2) h1
theorem State.admitEvt_kept (e supp) (hk : Kept im r₀ s) : Kept im r₀ (State.admitEvt s e supp) := by
  unfold State.admitEvt
  extract_lets -merge x0 x1
  exact Kept.ite (Kept.ite (State.setLog_kept _ hk) (State.bump_kept _ _ (State.setLog_kept _ hk))) (State.writeRec_kept _ _ _ _ hk)
theorem State.arrive_kept (e) (hk : Kept im r₀ s) : Kept im r₀ (State.arrive s e) := by
  unfold State.arrive
  extract_lets -merge x0 x1 x2 s3 x4
  have h3 : Kept im r₀ s3 := State.setLog_kept _ hk
  clear_value s3
  exact Kept.ite (State.admitEvt_kept _ _ (State.put_kept _ _ hk)) (Kept.ite (State.bump_kept _ _ hk) (State.admitEvt_kept _ _ (State.put_kept _ _
      h3)))
theorem State.thaw_kept (hk : Kept im r₀ s) : Kept im r₀ (State.thaw s) := by
  unfold State.thaw
  extract_lets -merge x0 x1 x2 s3 s4 s6
  have h3 : Kept im r₀ s3 := State.setLog_kept _ hk
  have h4 : Kept im r₀ s4 := Kept.each h3 (fun t a h5 => (State.writeRec_kept _ _ _ _ h5))
  have h6 : Kept im r₀ s6 := Kept.ite h4 (State.writeRec_kept _ _ _ _ h4)
  clear_value s3 s4 s6
  exact Kept.ite (State.putB_kept _ _ (State.writeRec_kept _ _ _ _ h6)) hk
theorem State.freeze_kept (hk : Kept im r₀ s) : Kept im r₀ (State.freeze s) := by
  unfold State.freeze
  exact State.putB_kept _ _ hk
theorem State.clearLog_kept (path) (hk : Kept im r₀ s) : Kept im r₀ (State.clearLog s path) := by
  unfold State.clearLog
  extract_lets -merge x0 x1 x2 s3 s4
  have h3 : Kept im r₀ s3 := State.setLog_kept _ hk
  have h4 : Kept im r₀ s4 := State.writeRec_kept _ _ _ _ h3
  clear_value s3 s4
  exact State.thaw_kept h4
theorem execEventArrival_keeps (fc) (hk : Kept im r₀ s) : Keeps im r₀ (execEventArrival fc s) := by
  unfold execEventArrival
  extract_lets -merge s0
  have h0 : Kept im r₀ s0 := State.at_kept _ hk
  clear_value s0
  split
  · exact keeps_next h0
  · exact keeps_next (Kept.ite h0 (State.arrive_kept _ (h0.to rfl)))
theorem execTurnMark_keeps (fc) (hk : Kept im r₀ s) : Keeps im r₀ (execTurnMark fc s) := by
  unfold execTurnMark
  extract_lets -merge s0
  have h0 : Kept im r₀ s0 := State.at_kept _ hk
  clear_value s0
  exact Keeps.ite (keeps_next (State.onceATurn_kept h0 fun _ h => State.emit_kept _ _ _ _ h)) (keeps_next h0)
theorem execRateRefill_keeps (fc) (hk : Kept im r₀ s) : Keeps im r₀ (execRateRefill fc s) := by
  unfold execRateRefill
  extract_lets -merge s0
  have h0 : Kept im r₀ s0 := State.at_kept _ hk
  clear_value s0
  exact Keeps.ite (keeps_next (State.onceATurn_kept h0 fun _ h => State.setLog_kept _ h)) (keeps_next h0)
theorem execLogClear_keeps (fc d) (hk : Kept im r₀ s) : Keeps im r₀ (execLogClear fc d s) := by
  unfold execLogClear
  extract_lets -merge s0 x1
  have h0 : Kept im r₀ s0 := State.at_kept _ hk
  clear_value s0
  split
  · exact keeps_next (State.setLog_kept _ h0)
  · exact keeps_next (Kept.withDesc hk (fun d t h2 => (State.stage_kept _ _ h2)))
theorem execLogFreeze_keeps (fc d) (hk : Kept im r₀ s) : Keeps im r₀ (execLogFreeze fc d s) := by
  unfold execLogFreeze
  extract_lets -merge s0 x1
  have h0 : Kept im r₀ s0 := State.at_kept _ hk
  clear_value s0
  split
  · exact keeps_next (State.setLog_kept _ h0)
  · exact keeps_next (Kept.withDesc hk (fun d t h2 => (State.stage_kept _ _ h2)))
theorem execLogThaw_keeps (fc d) (hk : Kept im r₀ s) : Keeps im r₀ (execLogThaw fc d s) := by
  unfold execLogThaw
  extract_lets -merge s0 x1
  have h0 : Kept im r₀ s0 := State.at_kept _ hk
  clear_value s0
  split
  · exact keeps_next (State.setLog_kept _ h0)
  · exact keeps_next (Kept.withDesc hk (fun d t h2 => (State.stage_kept _ _ h2)))
theorem State.logBoundary_kept (clear thaw freeze) (hk : Kept im r₀ s) : Kept im r₀ (State.logBoundary s clear thaw freeze) := by
  unfold State.logBoundary
  extract_lets -merge s0 s1
  have h0 : Kept im r₀ s0 := by
    unfold s0
    split
    · exact State.clearLog_kept _ hk
    · exact hk
  have h1 : Kept im r₀ s1 := Kept.ite (State.thaw_kept h0) h0
  clear_value s0 s1
  exact Kept.ite (State.freeze_kept h1) h1
theorem execLogRdSeq_keeps (fc v) (hk : Kept im r₀ s) : Keeps im r₀ (execLogRdSeq fc v s) := by
  unfold execLogRdSeq
  extract_lets -merge s0 x1 x2 s3
  have h0 : Kept im r₀ s0 := State.at_kept _ hk
  have h3 : Kept im r₀ s3 := State.put_kept _ _ h0
  clear_value s0 s3
  exact keeps_next (Kept.each h3 (fun t a h4 => (State.put_kept _ _ h4)))
theorem State.retireBank_kept (bank kind) (hk : Kept im r₀ s) : Kept im r₀ (State.retireBank s bank kind) := by
  unfold State.retireBank
  extract_lets -merge x0 s1 x2 s3 x4 s5 x6 x7
  have h1 : Kept im r₀ s1 := State.putBit_kept _ _ _ hk
  have h3 : Kept im r₀ s3 := State.setLog_kept _ h1
  have h5 : Kept im r₀ s5 := State.live_kept _ _ (State.raise_kept _ h3)
  clear_value s1 s3 s5
  exact Kept.ite (State.admitEvt_kept _ _ (State.witness_kept _ _ _ _ _ h5)) (Kept.ite (State.writeRec_kept _ _ _ _ h5) (State.writeRec_kept _ _ _ _
      (State.witness_kept _ _ _ _ _ h5)))
theorem execLogMem_keeps (fc bank kind single) (hk : Kept im r₀ s) : Keeps im r₀ (execLogMem fc bank kind single s) := by
  unfold execLogMem
  extract_lets -merge s0 s1
  have h0 : Kept im r₀ s0 := State.at_kept _ hk
  have h1 : Kept im r₀ s1 := Kept.ite h0 (Kept.ite (State.bump_kept _ _ h0) (State.retireBank_kept _ _ (State.bump_kept _ _ h0)))
  clear_value s0 s1
  exact keeps_okIf (State.awake_kept h0 h1)

end Sys2Proof.Machine
end

