-- ==== Sys2Proof/Laws/KeptHif.lean ====
section
/-! SUPPORT. The operations and meanings of Machine/Hif.lean keep what their argument keeps (Laws/Frame.lean). -/
namespace Sys2Proof.Machine

variable {im : Bool} {r₀ s : State}

theorem State.askDoorbells_kept (hk : Kept im r₀ s) : Kept im r₀ (State.askDoorbells s) := by
  unfold State.askDoorbells
  extract_lets -merge x0
  exact Kept.ite (State.setHif_kept _ hk) hk
theorem execDoorbell_keeps (fc) (hk : Kept im r₀ s) : Keeps im r₀ (execDoorbell fc s) := by
  unfold execDoorbell
  exact keeps_next (State.askDoorbells_kept (State.at_kept _ hk))
theorem State.takeTail_kept (area n) (hk : Kept im r₀ s) : Kept im r₀ (State.takeTail s area n) := by
  unfold State.takeTail
  extract_lets -merge x0
  exact Kept.ite (State.put_kept _ _ hk) (State.raise_kept _ (State.bump_kept _ _ hk))
theorem State.takeHead_kept (area n) (hk : Kept im r₀ s) : Kept im r₀ (State.takeHead s area n) := by
  unfold State.takeHead
  exact State.put_kept _ _ hk
theorem execDoorbellRead_keeps (fc area) (hk : Kept im r₀ s) : Keeps im r₀ (execDoorbellRead fc area s) := by
  unfold execDoorbellRead
  extract_lets -merge s0 x1 s2 s3
  have h0 : Kept im r₀ s0 := State.at_kept _ hk
  have h2 : Kept im r₀ s2 := State.setHif_kept _ h0
  have h3 : Kept im r₀ s3 := Kept.each h2 (fun t a h4 => (State.takeTail_kept _ _ h4))
  clear_value s0 s2 s3
  exact Keeps.ite (keeps_next h0) (keeps_next (Kept.each h3 (fun t a h5 => (State.takeHead_kept _ _ h5))))
theorem execDescriptorFetch_keeps (fc bytes parityOk) (hk : Kept im r₀ s) : Keeps im r₀ (execDescriptorFetch fc bytes parityOk s) := by
  unfold execDescriptorFetch
  extract_lets -merge s0 x1
  have h0 : Kept im r₀ s0 := State.at_kept _ hk
  clear_value s0
  split
  · exact keeps_next h0
  · extract_lets -merge x2 x3 x4 s5 x6 x7 s8 s9 x10 s11
    have h5 : Kept im r₀ s5 := State.put_kept _ _ h0
    have h8 : Kept im r₀ s8 := State.setHif_kept _ h5
    have h9 : Kept im r₀ s9 := Kept.ite (State.bump_kept _ _ (State.putB_kept _ _ h8)) h8
    have h11 : Kept im r₀ s11 := State.raise_kept _ (State.bump_kept _ _ h9)
    clear_value s5 s8 s9 s11
    clear_value x10
    split
    · exact keeps_next h9
    · exact keeps_next (State.failed_kept _ _ _ h11)
theorem State.hwtPut_kept (i e) (hk : Kept im r₀ s) : Kept im r₀ (State.hwtPut s i e) := by
  unfold State.hwtPut
  extract_lets -merge x0
  exact State.setHif_kept _ hk
theorem execHwtWrite_keeps (fc index) (hk : Kept im r₀ s) : Keeps im r₀ (execHwtWrite fc index s) := by
  unfold execHwtWrite
  extract_lets -merge s0 x1 s2
  have h0 : Kept im r₀ s0 := State.put_kept _ _ (State.at_kept _ hk)
  have h2 : Kept im r₀ s2 := Kept.ite (State.put_kept _ _ h0) (Kept.ite (State.put_kept _ _ h0) (Kept.ite (State.put_kept _ _ h0) (State.put_kept _ _
      (State.hwtPut_kept _ _ h0))))
  clear_value s0 s2
  exact keeps_okIf h2
theorem execHwtRead_keeps (fc index) (hk : Kept im r₀ s) : Keeps im r₀ (execHwtRead fc index s) := by
  unfold execHwtRead
  extract_lets -merge s0 x1 s2 s3 s4
  have h0 : Kept im r₀ s0 := State.put_kept _ _ (State.at_kept _ hk)
  have h2 : Kept im r₀ s2 := State.put_kept _ _ (State.put_kept _ _ (State.put_kept _ _ h0))
  have h3 : Kept im r₀ s3 := State.putB_kept _ _ (State.putB_kept _ _ (State.putB_kept _ _ h2))
  have h4 : Kept im r₀ s4 := Kept.ite (State.put_kept _ _ h0) (State.put_kept _ _ (State.putB_kept _ _ h3))
  clear_value s0 s2 s3 s4
  exact keeps_okIf h4
theorem execHwtInvalidate_keeps (fc index) (hk : Kept im r₀ s) : Keeps im r₀ (execHwtInvalidate fc index s) := by
  unfold execHwtInvalidate
  extract_lets -merge s0 x1 s2 x3 s4
  have h0 : Kept im r₀ s0 := State.put_kept _ _ (State.at_kept _ hk)
  have h2 : Kept im r₀ s2 := State.put_kept _ _ (State.hwtPut_kept _ _ h0)
  have h4 : Kept im r₀ s4 := by
    unfold s4
    refine Kept.ite (State.put_kept _ _ h0) ?_
    split
    · exact Kept.ite (State.setHif_kept _ (State.putB_kept _ _ h2)) h2
    · exact h2
  clear_value s0 s2 s4
  exact keeps_okIf h4
theorem execHwtInvalidateDrained_keeps (fc) (hk : Kept im r₀ s) : Keeps im r₀ (execHwtInvalidateDrained fc s) := by
  unfold execHwtInvalidateDrained
  extract_lets -merge s0 x1
  have h0 : Kept im r₀ s0 := State.at_kept _ hk
  clear_value s0
  split
  · exact keeps_next h0
  · exact Keeps.ite (keeps_next h0) (keeps_next (State.setHif_kept _ (State.putB_kept _ _ h0)))
theorem State.dropXfer_kept (k) (hk : Kept im r₀ s) : Kept im r₀ (State.dropXfer s k) := by
  unfold State.dropXfer
  extract_lets -merge x0
  exact State.setHif_kept _ hk
theorem State.setXfer_kept (x) (hk : Kept im r₀ s) : Kept im r₀ (State.setXfer s x) := by
  unfold State.setXfer
  extract_lets -merge x0
  exact State.setHif_kept _ hk
theorem State.setCapture_kept (c) (hk : Kept im r₀ s) : Kept im r₀ (State.setCapture s c) := by
  unfold State.setCapture
  extract_lets -merge x0
  exact State.setHif_kept _ hk
theorem State.freeCapture_kept (e) (hk : Kept im r₀ s) : Kept im r₀ (State.freeCapture s e) := by
  unfold State.freeCapture
  extract_lets -merge x0
  exact State.setHif_kept _ hk
theorem State.xlateFault_kept (va kind sq) (hk : Kept im r₀ s) : Kept im r₀ (State.xlateFault s va kind sq) := by
  unfold State.xlateFault
  extract_lets -merge s0
  have h0 : Kept im r₀ s0 := State.put_kept _ _ (State.bump_kept _ _ hk)
  clear_value s0
  exact State.raise_kept _ (State.put_kept _ _ (State.put_kept _ _ (State.put_kept _ _ h0)))
theorem State.xferFault_kept (x va header) (hk : Kept im r₀ s) : Kept im r₀ (State.xferFault s x va header) := by
  have h1 : ∀ e, Kept im r₀ ((s.dropXfer x.key).freeCapture e) := fun e => State.freeCapture_kept _ (State.dropXfer_kept _ hk)
  have h2 : Kept im r₀ (s.dropXfer x.key) := State.dropXfer_kept _ hk
  unfold State.xferFault
  split <;> (refine Kept.ite ?_ (Kept.ite ?_ ?_) <;> apply State.completeAt_kept <;> first | exact h1 _ | exact h2)
theorem State.chooseUnit_kept (x) (hk : Kept im r₀ s) : Kept im r₀ (State.chooseUnit x s) := by
  induction x generalizing s with
  | zero => exact hk
  | succ n ih =>
    unfold State.chooseUnit
    refine Kept.ite hk ?_
    split
    · exact hk
    · split
      · exact hk
      · extract_lets -merge x1 x2 x4 s3
        have h3 : Kept im r₀ s3 := State.setHif_kept _ hk
        clear_value s3
        split
        · extract_lets -merge s4
          have h4 : Kept im r₀ s4 := State.xferFault_kept _ _ _ (State.xlateFault_kept _ _ _ h3)
          clear_value s4
          exact ih (State.setHif_kept _ h4)
        · exact State.setHif_kept _ (State.setXfer_kept _ h3)
theorem imagePut_wf (m : List Host.Cell) (off : Nat) (l : List Byte) (h : Memory.wf m = true) : Memory.wf (imagePut m off l) = true := by
  induction l generalizing m off with
  | nil => exact h
  | cons b t ih => exact ih _ _ (sparseSet_wf _ _ _ _ h)
theorem State.loadBytes_kept (off bytes) (hk : Kept true r₀ s) : Kept true r₀ (State.loadBytes s off bytes) :=
  Kept.moved hk (imagePut_wf _ _ _)
theorem State.xferDone_kept (x) (hk : Kept im r₀ s) : Kept im r₀ (State.xferDone s x) := by
  unfold State.xferDone
  extract_lets -merge x0 s1 x2 x3 x4 x5
  have h1 : Kept im r₀ s1 := State.dropXfer_kept _ hk
  clear_value s1
  split
  · exact Kept.ite (State.putB_kept _ _ (Kept.plan h1 rfl)) (State.done_kept _ _ h1)
  · exact h1.to rfl
  · exact h1.to rfl
  · exact State.done_kept _ _ h1
  · exact State.completeAt_kept _ _ _ _ _ _ _ _ h1
  · extract_lets -merge x6
    exact State.completeAt_kept _ _ _ _ _ _ _ _ (State.freeCapture_kept _ h1)
theorem State.endLogs_kept (hk : Kept im r₀ s) : Kept im r₀ (State.endLogs s) := by
  unfold State.endLogs
  exact Kept.each hk (fun t a h0 => (State.xferDone_kept _ h0))
theorem State.choose_kept (hk : Kept im r₀ s) : Kept im r₀ (State.choose s) := by
  unfold State.choose
  extract_lets -merge s0
  have h0 : Kept im r₀ s0 := State.endLogs_kept hk
  clear_value s0
  exact State.chooseUnit_kept _ h0
theorem State.addXfer_kept (d kind va len) (hk : Kept im r₀ s) : Kept im r₀ (State.addXfer s d kind va len) := by
  unfold State.addXfer
  extract_lets -merge x0 x1
  exact State.choose_kept (State.setHif_kept _ hk)
theorem State.unitEnd_kept (u host) (hk : Kept true r₀ s) : Kept true r₀ (State.unitEnd s u host) := by
  unfold State.unitEnd
  extract_lets -merge x0 s1 s2 x3 s4
  have h1 : Kept true r₀ s1 := State.link_kept _ hk
  have h2 : Kept true r₀ s2 := State.link_kept _ hk
  have h4 : Kept true r₀ s4 := State.link_kept _ hk
  clear_value s1 s2 s4
  split
  · exact hk
  · extract_lets -merge x5 x6 s7 x8 s9 x10 x11 s12
    have h7 : Kept true r₀ s7 := State.setXfer_kept _ hk
    have h9 : Kept true r₀ s9 := State.setXfer_kept _ h1
    have h12 : Kept true r₀ s12 := State.setXfer_kept _ h2
    clear_value s7 s9 s12
    split
    · extract_lets -merge s13 s14
      have h13 : Kept true r₀ s13 := State.loadBytes_kept _ _ hk
      have h14 : Kept true r₀ s14 := State.setXfer_kept _ h13
      clear_value s13 s14
      exact Kept.ite (State.failed_kept _ _ _ (State.dropXfer_kept _ hk)) (Kept.ite (State.xferDone_kept _ h14) h14)
    · exact Kept.ite (State.xferDone_kept _ h7) h7
    · exact Kept.ite (State.xferDone_kept _ h7) h7
    · exact Kept.ite (State.xferDone_kept _ h9) h9
    · exact Kept.ite (State.xferDone_kept _ h12) h12
    · exact Kept.ite (State.xferDone_kept _ (State.link_kept _ hk)) (State.setXfer_kept _ h4)
theorem execTransferUnit_keeps (fc host) (hk : Kept true r₀ s) : Keeps true r₀ (execTransferUnit fc host s) := by
  unfold execTransferUnit
  extract_lets -merge s0 x1
  have h0 : Kept true r₀ s0 := State.at_kept _ hk
  clear_value s0
  split
  · exact keeps_next (State.choose_kept h0)
  · exact keeps_next (State.choose_kept (State.unitEnd_kept _ _ (State.setHif_kept _ h0)))
theorem execSqCfgWrite_keeps (fc n v) (hk : Kept im r₀ s) : Keeps im r₀ (execSqCfgWrite fc n v s) := by
  unfold execSqCfgWrite
  extract_lets -merge s0 x1 x2 s3 s4 s5
  have h0 : Kept im r₀ s0 := State.at_kept _ hk
  have h3 : Kept im r₀ s3 := Kept.ite (State.put_kept _ _ h0) h0
  have h4 : Kept im r₀ s4 := State.put_kept _ _ (State.put_kept _ _ h3)
  have h5 : Kept im r₀ s5 := Kept.ite (State.putB_kept _ _ (State.put_kept _ _ h0)) (Kept.ite (State.putB_kept _ _ h0) (Kept.ite (State.putB_kept _ _
      (State.put_kept _ _ (State.putB_kept _ _ h4))) h4))
  clear_value s0 s3 s4 s5
  exact keeps_okIf h5
theorem execCqCfgWrite_keeps (fc n v) (hk : Kept im r₀ s) : Keeps im r₀ (execCqCfgWrite fc n v s) := by
  unfold execCqCfgWrite
  extract_lets -merge s0 x1 x2 x3 f4 s6 s7 s8 s9
  have h0 : Kept im r₀ s0 := State.at_kept _ hk
  have h4 : ∀ a0, Kept im r₀ a0 → Kept im r₀ (f4 a0) := by
    intro a0 ha
    unfold f4
    extract_lets -merge s5
    have h5 : Kept im r₀ s5 := State.put_kept _ _ (State.put_kept _ _ ha)
    clear_value s5
    exact State.put_kept _ _ (State.put_kept _ _ h5)
  have h6 : Kept im r₀ s6 := Kept.ite (State.put_kept _ _ h0) h0
  have h7 : Kept im r₀ s7 := h4 _ h6
  have h8 : Kept im r₀ s8 := State.put_kept _ _ (State.put_kept _ _ (State.putB_kept _ _ h7))
  have h9 : Kept im r₀ s9 := Kept.ite (Kept.ite h0 (State.putB_kept _ _ (h4 _ h0))) (Kept.ite (State.setCoal_kept _ _ h8) h7)
  clear_value s0 f4 s6 s7 s8 s9
  exact keeps_okIf h9
theorem execPause_keeps (fc on) (hk : Kept im r₀ s) : Keeps im r₀ (execPause fc on s) := by
  unfold execPause
  exact keeps_next (State.putB_kept _ _ (State.at_kept _ hk))
theorem execCoalesceTimeout_keeps (fc cq) (hk : Kept im r₀ s) : Keeps im r₀ (execCoalesceTimeout fc cq s) := by
  unfold execCoalesceTimeout
  extract_lets -merge s0 x1 s2
  have h0 : Kept im r₀ s0 := State.at_kept _ hk
  have h2 : Kept im r₀ s2 := by
    unfold s2
    split
    · exact h0
    · exact Kept.ite (State.cqMessage_kept _ h0) h0
  clear_value s0 s2
  exact keeps_okIf h2
theorem execHeldCompletionDelivery_keeps (fc) (hk : Kept im r₀ s) : Keeps im r₀ (execHeldCompletionDelivery fc s) := by
  unfold execHeldCompletionDelivery
  extract_lets -merge s0 x1
  have h0 : Kept im r₀ s0 := State.at_kept _ hk
  clear_value s0
  split
  · exact keeps_next h0
  · exact keeps_next (State.writeCpl_kept _ (State.setHif_kept _ h0))
theorem execOrphanDiscard_keeps (fc) (hk : Kept im r₀ s) : Keeps im r₀ (execOrphanDiscard fc s) := by
  unfold execOrphanDiscard
  extract_lets -merge s0 x1
  have h0 : Kept im r₀ s0 := State.at_kept _ hk
  clear_value s0
  exact keeps_next (State.setHif_kept _ h0)
theorem execTrapClear_keeps (fc) (hk : Kept im r₀ s) : Keeps im r₀ (execTrapClear fc s) := by
  unfold execTrapClear
  extract_lets -merge s0
  have h0 : Kept im r₀ s0 := State.at_kept _ hk
  clear_value s0
  exact keeps_next (Kept.ite h0 (State.putB_kept _ _ (State.putB_kept _ _ h0)))
theorem State.linkGoesDown_kept (abort) (hk : Kept im r₀ s) : Kept im r₀ (State.linkGoesDown s abort) := by
  unfold State.linkGoesDown
  extract_lets -merge s0 s1 x2 s3 x4 s5
  have h0 : Kept im r₀ s0 := State.put_kept _ _ (State.put_kept _ _ (State.putB_kept _ _ hk))
  have h1 : Kept im r₀ s1 := State.live_kept _ _ (State.raise_kept _ (State.bump_kept _ _ h0))
  have h3 : Kept im r₀ s3 := State.setHif_kept _ h1
  have h5 : Kept im r₀ s5 := by
    unfold s5
    split
    · extract_lets -merge x6
      exact Kept.ite (State.tick_kept (State.link_kept _ h3)) h3
    · exact State.setHif_kept _ h1
  clear_value s0 s1 s3 s5
  refine Kept.ite hk ?_
  refine Kept.ite ?_ h5
  refine Kept.each h5 (fun t a h7 => ?_)
  extract_lets -merge s8 s9
  have h8 : Kept im r₀ s8 := State.dropXfer_kept _ h7
  have h9 : Kept im r₀ s9 := by
    unfold s9
    split
    · exact State.freeCapture_kept _ h8
    · exact h8
  clear_value s8 s9
  exact State.completeAt_kept _ _ _ _ _ _ _ _ h9
theorem execHifLinkDown_keeps (fc) (hk : Kept im r₀ s) : Keeps im r₀ (execHifLinkDown fc s) := by
  unfold execHifLinkDown
  exact keeps_next (State.linkGoesDown_kept _ (State.at_kept _ hk))
theorem execLinkUp_keeps (fc speed width) (hk : Kept im r₀ s) : Keeps im r₀ (execLinkUp fc speed width s) := by
  unfold execLinkUp
  extract_lets -merge s0 s1
  have h0 : Kept im r₀ s0 := State.at_kept _ hk
  have h1 : Kept im r₀ s1 := Kept.ite h0 (State.choose_kept (State.live_kept _ _ (State.put_kept _ _ (State.put_kept _ _ (State.putB_kept _ _ h0)))))
  clear_value s0 s1
  exact keeps_okIf h1
theorem State.endDescriptors_kept (unit hold) (hk : Kept true r₀ s) : Kept true r₀ (State.endDescriptors s unit hold) := by
  unfold State.endDescriptors
  extract_lets -merge x0 s0 x1 x2 x3 x4 x5 x6 s7 s8 x9 s9
  have h0 : Kept true r₀ s0 := by
    unfold s0
    split
    · exact State.unitEnd_kept _ _ (State.setHif_kept _ hk)
    · exact hk
  have h7 : Kept true r₀ s7 := State.put_kept _ _ (State.put_kept _ _ h0)
  clear_value s0 s7
  have h8 : Kept true r₀ s8 := by
    refine Kept.each h7 (fun t a h => ?_)
    extract_lets -merge x8
    refine Kept.ite (State.writeCpl_kept _ h) (Kept.ite (Kept.ite (State.post_kept _ h) ?_) (State.bump_kept _ _ h))
    exact State.bump_kept _ _ (State.post_kept _ h)
  have h9 : Kept true r₀ s9 := State.setHif_kept _ h8
  exact State.emit_kept _ _ _ _ h9
theorem State.dropGains_kept (hk : Kept im r₀ s) : Kept im r₀ (State.dropGains s) := by
  unfold State.dropGains
  extract_lets -merge x0 x1 x2
  exact hk.to rfl
theorem State.endOperations_kept (hk : Kept im r₀ s) : Kept im r₀ (State.endOperations s) := by
  unfold State.endOperations
  extract_lets -merge x0 s1 s2 x3 s4 x5 s6 x7 s8 x9 x10 x11 s12 x13 x14 s15 x16
  have h1 : Kept im r₀ s1 := State.putB_kept _ _ (Kept.plan hk rfl)
  have h2 : Kept im r₀ s2 := by
    unfold s2
    split
    · exact Kept.ite (Kept.ite h1 (State.put_kept _ _ h1)) hk
    · exact hk
  have h4 : Kept im r₀ s4 := by
    unfold s4
    split
    · exact Kept.plan h2 rfl
    · exact h2
  have h6 : Kept im r₀ s6 := by
    unfold s6
    split
    · exact Kept.plan h4 rfl
    · exact h4
  have h8 : Kept im r₀ s8 := State.dropGains_kept (State.setHif_kept _ h6)
  have h12 : Kept im r₀ s12 := h8.to rfl
  have h15 : Kept im r₀ s15 := h12.to rfl
  clear_value s1 s2 s4 s6 s8 s12 s15
  split
  · exact Kept.ite (h15.to rfl) h15
  · exact h15
theorem State.resetHif_kept (hk : Kept im r₀ s) : Kept im r₀ (State.resetHif s) := by
  unfold State.resetHif
  extract_lets -merge s0 x1
  have h0 : Kept im r₀ s0 := hk.to rfl
  clear_value s0
  exact State.setHif_kept _ h0
theorem State.hifBlockReset_kept (unit) (hk : Kept true r₀ s) : Kept true r₀ (State.hifBlockReset s unit) := by
  unfold State.hifBlockReset
  exact State.resetHif_kept (State.endOperations_kept (State.endDescriptors_kept _ _ hk))
theorem execHifBlockReset_keeps (fc unit) (hk : Kept true r₀ s) : Keeps true r₀ (execHifBlockReset fc unit s) := by
  unfold execHifBlockReset
  exact keeps_next (State.hifBlockReset_kept _ (State.at_kept _ hk))
theorem execPerstNAssert_keeps (fc unit) (hk : Kept true r₀ s) : Keeps true r₀ (execPerstNAssert fc unit s) := by
  unfold execPerstNAssert
  extract_lets -merge s0 s1 x2
  have h0 : Kept true r₀ s0 := State.at_kept _ hk
  have h1 : Kept true r₀ s1 := State.awake_kept h0 (State.hifBlockReset_kept _ (State.linkGoesDown_kept _ h0))
  clear_value s0 s1
  exact keeps_next (State.setHif_kept _ h1)
theorem execPerstNRelease_keeps (fc) (hk : Kept im r₀ s) : Keeps im r₀ (execPerstNRelease fc s) := by
  unfold execPerstNRelease
  extract_lets -merge s0 x1
  have h0 : Kept im r₀ s0 := State.at_kept _ hk
  clear_value s0
  exact keeps_next (State.setHif_kept _ h0)
theorem execNop_keeps (fc sq idx) (hk : Kept im r₀ s) : Keeps im r₀ (execNop fc sq idx s) := by
  unfold execNop
  exact keeps_next (Kept.withDesc hk (fun d t h0 => (State.done_kept _ _ h0)))
theorem execFence_keeps (fc sq idx) (hk : Kept im r₀ s) : Keeps im r₀ (execFence fc sq idx s) := by
  unfold execFence
  exact keeps_next (Kept.withDesc hk (fun d t h0 => (State.settleFences_kept _ h0)))
theorem execLogRead_keeps (fc sq idx) (hk : Kept im r₀ s) : Keeps im r₀ (execLogRead fc sq idx s) := by
  unfold execLogRead
  exact keeps_next (Kept.withDesc hk (fun d t h0 => (Kept.ite (State.done_kept _ _ h0) (State.addXfer_kept _ _ _ _ h0))))
theorem execCounterRead_keeps (fc sq idx) (hk : Kept im r₀ s) : Keeps im r₀ (execCounterRead fc sq idx s) := by
  unfold execCounterRead
  exact keeps_next (Kept.withDesc hk (fun d t h0 => (h0.to rfl)))
theorem execGaugeRead_keeps (fc sq idx) (hk : Kept im r₀ s) : Keeps im r₀ (execGaugeRead fc sq idx s) := by
  unfold execGaugeRead
  exact keeps_next (Kept.withDesc hk (fun d t h0 => (h0.to rfl)))

end Sys2Proof.Machine
end

