-- ==== Sys2Proof/Laws/KeptChuck.lean ====
section
/-! SUPPORT. The operations and meanings of Machine/Chuck.lean keep what their argument keeps (Laws/Frame.lean). -/
namespace Sys2Proof.Machine

variable {im : Bool} {r₀ s : State}

theorem State.secFlag_kept (f) (hk : Kept im r₀ s) : Kept im r₀ (State.secFlag s f) := by
  unfold State.secFlag
  extract_lets -merge x0 s1
  have h1 : Kept im r₀ s1 := State.putB_kept _ _ hk
  clear_value s1
  exact Kept.ite (State.irq_kept _ h1) h1
theorem State.verdict_kept (op reason) (hk : Kept im r₀ s) : Kept im r₀ (State.verdict s op reason) := by
  unfold State.verdict
  exact State.secFlag_kept _ (State.put_kept _ _ (State.put_kept _ _ hk))
theorem State.authFail_kept (op reason) (hk : Kept im r₀ s) : Kept im r₀ (State.authFail s op reason) := by
  unfold State.authFail
  exact State.emit_kept _ _ _ _ (State.raise_kept _ hk)
theorem State.noteLifecycle_kept (old) (hk : Kept im r₀ s) : Kept im r₀ (State.noteLifecycle s old) := by
  unfold State.noteLifecycle
  exact Kept.ite hk (State.emit_kept _ _ _ _ hk)
theorem State.endSession_kept (cause) (hk : Kept im r₀ s) : Kept im r₀ (State.endSession s cause) := by
  unfold State.endSession
  extract_lets -merge x0 x1 s2 s3 x4 x5 x6 s7 s8
  have h2 : Kept im r₀ s2 := Kept.sec hk rfl rfl
  have h3 : Kept im r₀ s3 := State.releaseHalt_kept h2
  have h7 : Kept im r₀ s7 := State.choose_kept (State.setHif_kept _ h3)
  have h8 : Kept im r₀ s8 := State.secFlag_kept _ (State.emit_kept _ _ _ _ h7)
  clear_value s2 s3 s7 s8
  split
  · exact hk
  · exact State.noteLifecycle_kept _ h8
theorem State.settleJtag_kept (hk : Kept im r₀ s) : Kept im r₀ (State.settleJtag s) := by
  unfold State.settleJtag
  exact Kept.ite hk (Kept.sec hk rfl rfl)
theorem State.dropChallenge_kept (hk : Kept im r₀ s) : Kept im r₀ (State.dropChallenge s) := by
  unfold State.dropChallenge
  extract_lets -merge x0
  exact Kept.sec hk rfl rfl
theorem State.eraseTokens_kept (hk : Kept im r₀ s) : Kept im r₀ (State.eraseTokens s) := by
  unfold State.eraseTokens
  extract_lets -merge x0
  exact Kept.sec hk rfl rfl
theorem State.popOp_kept (hk : Kept im r₀ s) : Kept im r₀ (State.popOp s) := by
  unfold State.popOp
  extract_lets -merge x0
  exact Kept.sec hk rfl rfl
theorem State.flashToken_kept (fl reason) (hk : Kept im r₀ s) : Kept im r₀ (State.flashToken s fl reason) := by
  unfold State.flashToken
  extract_lets -merge x0 s1
  have h1 : Kept im r₀ s1 := hk.to rfl
  clear_value s1
  split
  · exact hk
  · exact Kept.ite (State.bump_kept _ _ h1) (State.emit_kept _ _ _ _ h1)
theorem State.rejectToken_kept (b d fl reason) (hk : Kept im r₀ s) : Kept im r₀ (State.rejectToken s b d fl reason) := by
  unfold State.rejectToken
  extract_lets -merge s0 s1 s2 s3 s4 x5 s6
  have h0 : Kept im r₀ s0 := State.popOp_kept hk
  have h1 : Kept im r₀ s1 := State.emit_kept _ _ _ _ h0
  have h2 : Kept im r₀ s2 := Kept.ite (State.emit_kept _ _ _ _ h1) h1
  have h3 : Kept im r₀ s3 := State.bump_kept _ _ h2
  have h4 : Kept im r₀ s4 := Kept.ite (State.authFail_kept _ _ h3) h3
  have h6 : Kept im r₀ s6 := Kept.ite (Kept.sec h4 rfl rfl) h4
  clear_value s0 s1 s2 s3 s4 s6
  exact State.failedOpt_kept _ _ _ (State.flashToken_kept _ _ (State.verdict_kept _ _ h6))
theorem State.acceptToken_kept (b d fl) (hk : Kept im r₀ s) : Kept im r₀ (State.acceptToken s b d fl) := by
  unfold State.acceptToken
  extract_lets -merge x0 s1 x2 x3 x4 x5 s6 s7 s8
  have h1 : Kept im r₀ s1 := State.popOp_kept hk
  have h6 : Kept im r₀ s6 := Kept.sec h1 rfl rfl
  have h7 : Kept im r₀ s7 := State.emit_kept _ _ _ _ h6
  have h8 : Kept im r₀ s8 := State.verdict_kept _ _ (State.bump_kept _ _ h7)
  clear_value s1 s6 s7 s8
  exact State.doneOpt_kept _ _ (State.flashToken_kept _ _ h8)
theorem execTokenVerdict_keeps (fc) (hk : Kept im r₀ s) : Keeps im r₀ (execTokenVerdict fc s) := by
  unfold execTokenVerdict
  extract_lets -merge s0 x1
  have h0 : Kept im r₀ s0 := State.at_kept _ hk
  clear_value s0
  split
  · extract_lets -merge x2
    exact Keeps.ite (keeps_next h0) (Keeps.ite (keeps_next (State.rejectToken_kept _ _ _ _ h0)) (Keeps.ite (keeps_next (Kept.sec h0 rfl rfl))
        (keeps_next (State.acceptToken_kept _ _ _ h0))))
  · exact keeps_next h0
theorem execTokenSubmit_keeps (fc sq idx) (hk : Kept im r₀ s) : Keeps im r₀ (execTokenSubmit fc sq idx s) := by
  unfold execTokenSubmit
  exact keeps_next (Kept.withDesc hk (fun d t h0 => (State.addXfer_kept _ _ _ _ h0)))
theorem execTokenRelease_keeps (fc index) (hk : Kept im r₀ s) : Keeps im r₀ (execTokenRelease fc index s) := by
  unfold execTokenRelease
  extract_lets -merge s0 x1 s2
  have h0 : Kept im r₀ s0 := State.put_kept _ _ (State.at_kept _ hk)
  have h2 : Kept im r₀ s2 := by
    unfold s2
    split
    · exact h0
    · exact Kept.ite (State.bump_kept _ _ h0) (Kept.sec h0 rfl rfl)
  clear_value s0 s2
  exact keeps_okIf h2
theorem execProvGo_keeps (fc) (hk : Kept im r₀ s) : Keeps im r₀ (execProvGo fc s) := by
  unfold execProvGo
  extract_lets -merge s0 x1
  have h0 : Kept im r₀ s0 := State.at_kept _ hk
  clear_value s0
  exact keeps_next (Kept.ite h0 (Kept.sec h0 rfl rfl))
theorem execGetChallenge_keeps (fc sq idx) (hk : Kept im r₀ s) : Keeps im r₀ (execGetChallenge fc sq idx s) := by
  unfold execGetChallenge
  refine keeps_next ?_
  refine Kept.withDesc hk (fun d t h0 => ?_)
  extract_lets -merge x1 x2 x3 s4
  have h4 : Kept im r₀ s4 := Kept.sec h0 rfl rfl
  clear_value s4
  exact Kept.ite h0 (Kept.ite (State.failed_kept _ _ _ h0) (State.addXfer_kept _ _ _ _ h4))
theorem execRespond_keeps (fc sq idx) (hk : Kept im r₀ s) : Keeps im r₀ (execRespond fc sq idx s) := by
  unfold execRespond
  exact keeps_next (Kept.withDesc hk (fun d t h0 => (Kept.ite h0 (State.addXfer_kept _ _ _ _ h0))))
theorem execEndSession_keeps (fc sq idx) (hk : Kept im r₀ s) : Keeps im r₀ (execEndSession fc sq idx s) := by
  unfold execEndSession
  exact keeps_next (Kept.withDesc hk (fun d t h0 => (Kept.ite h0 (State.done_kept _ _ (State.endSession_kept _ (State.dropChallenge_kept h0))))))
theorem execRespondVerdict_keeps (fc) (hk : Kept im r₀ s) : Keeps im r₀ (execRespondVerdict fc s) := by
  unfold execRespondVerdict
  extract_lets -merge s0 s1 x2 x3 x4 s5 s6
  have h0 : Kept im r₀ s0 := State.at_kept _ hk
  have h1 : Kept im r₀ s1 := State.dropChallenge_kept (State.popOp_kept h0)
  have h5 : Kept im r₀ s5 := State.put_kept _ _ h1
  have h6 : Kept im r₀ s6 := Kept.ite (State.putB_kept _ _ h5) h5
  clear_value s0 s1 s5 s6
  split
  · extract_lets -merge x7 s8 s9
    have h8 : Kept im r₀ s8 := Kept.sec h1 rfl rfl
    have h9 : Kept im r₀ s9 := State.emit_kept _ _ _ _ (State.put_kept _ _ h8)
    clear_value s8 s9
    exact Keeps.ite (keeps_next (State.doneOpt_kept _ _ (State.verdict_kept _ _ (State.noteLifecycle_kept _ h9)))) (keeps_next (State.failedOpt_kept
        _ _ _ (State.verdict_kept _ _ (State.authFail_kept _ _ h6))))
  · exact keeps_next h0
theorem execChallengeExpiry_keeps (fc) (hk : Kept im r₀ s) : Keeps im r₀ (execChallengeExpiry fc s) := by
  unfold execChallengeExpiry
  extract_lets -merge s0
  have h0 : Kept im r₀ s0 := State.at_kept _ hk
  clear_value s0
  split
  · exact keeps_next h0
  · exact keeps_next (Kept.ite (State.dropChallenge_kept h0) h0)
theorem execSessionExpiry_keeps (fc) (hk : Kept im r₀ s) : Keeps im r₀ (execSessionExpiry fc s) := by
  unfold execSessionExpiry
  extract_lets -merge s0
  have h0 : Kept im r₀ s0 := State.at_kept _ hk
  clear_value s0
  split
  · exact keeps_next h0
  · exact keeps_next (Kept.ite (State.endSession_kept _ (State.dropChallenge_kept h0)) h0)
theorem execJtagInstruction_keeps (fc k code) (hk : Kept im r₀ s) : Keeps im r₀ (execJtagInstruction fc k code s) := by
  unfold execJtagInstruction
  extract_lets -merge s0 x1 x2
  have h0 : Kept im r₀ s0 := State.at_kept _ hk
  clear_value s0
  exact Keeps.ite (keeps_next h0) (Keeps.ite (keeps_next (Kept.sec h0 rfl rfl)) (keeps_next (State.emit_kept _ _ _ _ (Kept.sec h0 rfl rfl))))
theorem execSecTamper_keeps (fc mesh rail osc) (hk : Kept im r₀ s) : Keeps im r₀ (execSecTamper fc mesh rail osc s) := by
  unfold execSecTamper
  extract_lets -merge s0 x1 x2 x3 s4 s5 s6 s7 s8
  have h0 : Kept im r₀ s0 := State.at_kept _ hk
  have h4 : Kept im r₀ s4 := State.putB_kept _ _ (State.putB_kept _ _ (State.putB_kept _ _ h0))
  have h5 : Kept im r₀ s5 := State.live_kept _ _ (State.raise_kept _ (State.bump_kept _ _ h4))
  have h6 : Kept im r₀ s6 := State.safeCause_kept _ h5
  have h7 : Kept im r₀ s7 := State.emit_kept _ _ _ _ h6
  have h8 : Kept im r₀ s8 := State.endSession_kept _ (State.dropChallenge_kept (State.eraseTokens_kept h7))
  clear_value s0 s4 s5 s6 s7 s8
  exact Keeps.ite (keeps_next h0) (keeps_next (State.secFlag_kept _ (State.putB_kept _ _ h8)))
theorem execTamperEnd_keeps (fc) (hk : Kept im r₀ s) : Keeps im r₀ (execTamperEnd fc s) := by
  unfold execTamperEnd
  extract_lets -merge s0
  have h0 : Kept im r₀ s0 := State.putB_kept _ _ (State.putB_kept _ _ (State.at_kept _ hk))
  clear_value s0
  exact keeps_next (State.live_kept _ _ (State.putB_kept _ _ h0))

end Sys2Proof.Machine
end

