-- ==== Sys2Proof/Laws/KeptConverters.lean ====
section
/-! SUPPORT. The operations and meanings of Machine/Converters.lean keep what their argument keeps (Laws/Frame.lean). -/
namespace Sys2Proof.Machine

variable {im : Bool} {r₀ s : State}

theorem State.setCva_kept (c) (hk : Kept im r₀ s) : Kept im r₀ (State.setCva s c) := by
  unfold State.setCva
  exact hk.to rfl
theorem State.setFab_kept (f) (hk : Kept im r₀ s) : Kept im r₀ (State.setFab s f) := by
  unfold State.setFab
  exact hk.to rfl
theorem State.setPwr_kept (p) (hk : Kept im r₀ s) : Kept im r₀ (State.setPwr s p) := by
  unfold State.setPwr
  exact hk.to rfl
theorem State.setSynthX_kept (w x) (hk : Kept im r₀ s) : Kept im r₀ (State.setSynthX s w x) := by
  unfold State.setSynthX
  extract_lets -merge x0
  exact State.setCva_kept _ hk
theorem State.syncSlips_kept (hk : Kept im r₀ s) : Kept im r₀ (State.syncSlips s) := by
  unfold State.syncSlips
  extract_lets -merge x0 s1
  have h1 : Kept im r₀ s1 := State.put_kept _ _ hk
  clear_value s1
  exact State.live_kept _ _ h1
theorem State.dirtyDie_kept (w) (hk : Kept im r₀ s) : Kept im r₀ (State.dirtyDie s w) := by
  unfold State.dirtyDie
  extract_lets -merge x0
  exact Kept.ite hk (State.setCva_kept _ hk)
theorem State.clockDie_kept (w on) (hk : Kept im r₀ s) : Kept im r₀ (State.clockDie s w on) := by
  unfold State.clockDie
  extract_lets -merge x0 x1
  exact Kept.ite (State.setCva_kept _ hk) (Kept.ite hk (State.dirtyDie_kept _ (State.setCva_kept _ hk)))
theorem State.setSynth_kept (w st) (hk : Kept im r₀ s) : Kept im r₀ (State.setSynth s w st) := by
  unfold State.setSynth
  extract_lets -merge s0
  have h0 : Kept im r₀ s0 := State.live_kept _ _ (State.putB_kept _ _ (State.put_kept _ _ hk))
  clear_value s0
  exact State.syncSlips_kept (State.clockDie_kept _ _ h0)
theorem State.acquireOn_kept (w band lost) (hk : Kept im r₀ s) : Kept im r₀ (State.acquireOn s w band lost) := by
  unfold State.acquireOn
  extract_lets -merge s0
  have h0 : Kept im r₀ s0 := State.setSynthX_kept _ _ hk
  clear_value s0
  exact State.setSynth_kept _ _ (State.put_kept _ _ (State.put_kept _ _ h0))
theorem State.acquire_kept (w) (hk : Kept im r₀ s) : Kept im r₀ (State.acquire s w) := by
  unfold State.acquire
  exact State.acquireOn_kept _ _ _ hk
theorem State.relock_kept (w) (hk : Kept im r₀ s) : Kept im r₀ (State.relock s w) := by
  unfold State.relock
  exact State.acquireOn_kept _ _ _ hk
theorem State.reacquire_kept (w lost) (hk : Kept im r₀ s) : Kept im r₀ (State.reacquire s w lost) := by
  unfold State.reacquire
  extract_lets -merge x0
  exact Kept.ite (State.setSynth_kept _ _ (State.setSynthX_kept _ _ hk)) (State.acquireOn_kept _ _ _ hk)
theorem State.synthOff_kept (w) (hk : Kept im r₀ s) : Kept im r₀ (State.synthOff s w) := by
  unfold State.synthOff
  extract_lets -merge x0
  exact State.setSynth_kept _ _ (State.setSynthX_kept _ _ hk)
theorem State.synthFails_kept (w) (hk : Kept im r₀ s) : Kept im r₀ (State.synthFails s w) := by
  unfold State.synthFails
  extract_lets -merge x0 s1
  have h1 : Kept im r₀ s1 := State.setSynthX_kept _ _ hk
  clear_value s1
  exact State.raise_kept _ (State.setSynth_kept _ _ (State.put_kept _ _ h1))
theorem State.synthLock_kept (w) (hk : Kept im r₀ s) : Kept im r₀ (State.synthLock s w) := by
  unfold State.synthLock
  extract_lets -merge x0
  exact State.setSynth_kept _ _ (State.setSynthX_kept _ _ hk)
theorem State.syncDac_kept (boundary n) (hk : Kept im r₀ s) : Kept im r₀ (State.syncDac s boundary n) := by
  unfold State.syncDac
  extract_lets -merge x0 x1 s2 s3 s4 x5 x6 s7
  have h2 : Kept im r₀ s2 := State.putB_kept _ _ (State.putB_kept _ _ (State.putB_kept _ _ hk))
  have h3 : Kept im r₀ s3 := State.putB_kept _ _ (State.putB_kept _ _ (State.putB_kept _ _ h2))
  have h4 : Kept im r₀ s4 := State.putB_kept _ _ h3
  have h7 : Kept im r₀ s7 := Kept.ite h4 (State.setCva_kept _ h4)
  clear_value s2 s3 s4 s7
  exact Kept.ite (State.putB_kept _ _ h7) (Kept.ite (State.putB_kept _ _ h7) h7)
theorem State.muteDacs_kept (hk : Kept im r₀ s) : Kept im r₀ (State.muteDacs s) := by
  unfold State.muteDacs
  exact Kept.each hk (fun t a h0 => (State.syncDac_kept _ _ h0))
theorem State.boundaryDacs_kept (hk : Kept im r₀ s) : Kept im r₀ (State.boundaryDacs s) := by
  unfold State.boundaryDacs
  exact Kept.each hk (fun t a h0 => (State.syncDac_kept _ _ h0))
theorem State.convTurn_kept (hk : Kept im r₀ s) : Kept im r₀ (State.convTurn s) := by
  unfold State.convTurn
  extract_lets -merge x0 x1 x2
  exact State.setCva_kept _ hk
theorem State.ovrTurn_kept (st n) (hk : Kept im r₀ s) : Kept im r₀ (State.ovrTurn s st n) := by
  unfold State.ovrTurn
  extract_lets -merge x0 x1 x2 x3 x4 x5 x6 s7 s8 s9 s10
  have h7 : Kept im r₀ s7 := State.setCva_kept _ hk
  have h8 : Kept im r₀ s8 := State.putBit_kept _ _ _ (State.put_kept _ _ h7)
  have h9 : Kept im r₀ s9 := State.putB_kept _ _ h8
  have h10 : Kept im r₀ s10 := Kept.ite (State.bump_kept _ _ h9) h9
  clear_value s7 s8 s9 s10
  exact Kept.ite (State.raise_kept _ h10) h10
theorem State.ovrBoundary_kept (st) (hk : Kept im r₀ s) : Kept im r₀ (State.ovrBoundary s st) := by
  unfold State.ovrBoundary
  extract_lets -merge s0
  have h0 : Kept im r₀ s0 := Kept.each hk (fun t a h1 => (State.ovrTurn_kept _ _ h1))
  clear_value s0
  exact State.live_kept _ _ h0
theorem State.showFactors_kept (f) (hk : Kept im r₀ s) : Kept im r₀ (State.showFactors s f) := by
  unfold State.showFactors
  exact Kept.each hk (fun t a h0 => (State.puti_kept _ _ (State.put_kept _ _ (State.put_kept _ _ h0))))
theorem State.commitStamp_kept (hk : Kept im r₀ s) : Kept im r₀ (State.commitStamp s) := by
  unfold State.commitStamp
  exact State.put_kept _ _ (State.put_kept _ _ hk)
theorem State.loadStore_kept (hk : Kept im r₀ s) : Kept im r₀ (State.loadStore s) := by
  unfold State.loadStore
  extract_lets -merge x0
  split
  · exact hk
  · split
    · extract_lets -merge s1
      have h1 : Kept im r₀ s1 := State.showFactors_kept _ (State.setCva_kept _ hk)
      clear_value s1
      exact State.commitStamp_kept (State.put_kept _ _ h1)
theorem State.calStart_kept (code adc dac synth desc) (hk : Kept im r₀ s) : Kept im r₀ (State.calStart s code adc dac synth desc) := by
  unfold State.calStart
  extract_lets -merge x0 x1 s2 s3 s4
  have h2 : Kept im r₀ s2 := State.setCva_kept _ hk
  have h3 : Kept im r₀ s3 := State.put_kept _ _ (State.put_kept _ _ (State.putB_kept _ _ h2))
  have h4 : Kept im r₀ s4 := Kept.each h3 (fun t a h5 => (Kept.ite (State.setSynth_kept _ _ h5) h5))
  clear_value s2 s3 s4
  exact State.muteDacs_kept h4
theorem State.calStepTo_kept (step) (hk : Kept im r₀ s) : Kept im r₀ (State.calStepTo s step) := by
  unfold State.calStepTo
  split
  · extract_lets -merge s0
    have h0 : Kept im r₀ s0 := by
      unfold s0
      refine Kept.ite ?_ hk
      refine Kept.each hk (fun t a h1 => ?_)
      extract_lets -merge x2
      exact Kept.ite h1 (Kept.ite (State.synthFails_kept _ h1) (State.synthLock_kept _ (State.put_kept _ _ (State.setSynthX_kept _ _ h1))))
    clear_value s0
    exact Kept.ite hk (State.put_kept _ _ h0)
  · exact hk
theorem State.calLast_kept (code outcome cause) (hk : Kept im r₀ s) : Kept im r₀ (State.calLast s code outcome cause) := by
  unfold State.calLast
  extract_lets -merge s0
  have h0 : Kept im r₀ s0 := State.put_kept _ _ (State.put_kept _ _ (State.put_kept _ _ hk))
  clear_value s0
  exact State.emit_kept _ _ _ _ h0
theorem State.calIdle_kept (hk : Kept im r₀ s) : Kept im r₀ (State.calIdle s) := by
  unfold State.calIdle
  extract_lets -merge x0
  exact State.put_kept _ _ (State.put_kept _ _ (State.putB_kept _ _ (State.setCva_kept _ hk)))
theorem State.calAbort_kept (cause) (hk : Kept im r₀ s) : Kept im r₀ (State.calAbort s cause) := by
  unfold State.calAbort
  extract_lets -merge s0
  have h0 : Kept im r₀ s0 := State.calIdle_kept hk
  clear_value s0
  split
  · exact hk
  · extract_lets -merge s1 s2 s3 s5
    have h1 : Kept im r₀ s1 := Kept.ite (State.put_kept _ _ h0) h0
    have h2 : Kept im r₀ s2 := State.calLast_kept _ _ _ h1
    have h3 : Kept im r₀ s3 := Kept.each h2 (fun t a h4 => (Kept.ite (State.reacquire_kept _ _ h4) h4))
    have h5 : Kept im r₀ s5 := by
      unfold s5
      split
      · exact h3
      · exact Kept.ite (State.failed_kept _ _ _ h3) (Kept.ite (State.failed_kept _ _ _ h3) (State.completeAt_kept _ _ _ _ _ _ _ _ h3))
    clear_value s1 s2 s3 s5
    exact State.muteDacs_kept h5
theorem execCalEnd_keeps (fc new fails) (hk : Kept im r₀ s) : Keeps im r₀ (execCalEnd fc new fails s) := by
  unfold execCalEnd
  extract_lets -merge s0 x1 x2
  have h0 : Kept im r₀ s0 := State.at_kept _ hk
  clear_value s0
  split
  · exact keeps_next h0
  · extract_lets -merge x3 x4 x5 x6 s7 s8 s11 s13 s15 s16 s17 s18
    have h7 : Kept im r₀ s7 := State.setCva_kept _ h0
    have h8 : Kept im r₀ s8 := by
      unfold s8
      refine Kept.each h7 (fun t a h9 => ?_)
      extract_lets -merge x10
      exact Kept.ite h9 (Kept.ite (Kept.ite (State.synthFails_kept _ h9) h9) (State.setSynthX_kept _ _ h9))
    have h11 : Kept im r₀ s11 := by
      unfold s11
      refine Kept.each h8 (fun t a h12 => ?_)
      refine Kept.ite h12 ?_
      split
      · exact State.put_kept _ _ (State.putBit_kept _ _ _ h12)
      · exact Kept.ite h12 (State.put_kept _ _ (State.putBit_kept _ _ _ h12))
    have h13 : Kept im r₀ s13 := Kept.each h11 (fun t a h14 => (Kept.ite h14 (Kept.ite (State.putBit_kept _ _ _ h14) (Kept.ite h14 (State.putBit_kept
        _ _ _ h14)))))
    have h15 : Kept im r₀ s15 := State.live_kept _ _ h13
    have h16 : Kept im r₀ s16 := Kept.ite (State.raise_kept _ h15) h15
    have h17 : Kept im r₀ s17 := State.calLast_kept _ _ _ h16
    have h18 : Kept im r₀ s18 := by
      unfold s18
      split
      · exact Kept.ite (State.failed_kept _ _ _ h17) h17
      · exact h17
    clear_value s7 s8 s11 s13 s15 s16 s17 s18
    exact Keeps.ite (keeps_next h0) (keeps_next (State.muteDacs_kept h18))
theorem State.calCommit_kept (hk : Kept im r₀ s) : Kept im r₀ (State.calCommit s) := by
  unfold State.calCommit
  extract_lets -merge x0 x1 x2
  split
  · exact hk
  · split
    · exact State.bump_kept _ _ hk
    · extract_lets -merge x3 x4 x5 s6 s7 s8 s11
      have h6 : Kept im r₀ s6 := State.showFactors_kept _ (State.setCva_kept _ hk)
      have h7 : Kept im r₀ s7 := Kept.ite (State.put_kept _ _ h6) h6
      have h8 : Kept im r₀ s8 := by
        unfold s8
        refine Kept.each h7 (fun t a h9 => ?_)
        extract_lets -merge s10
        have h10 : Kept im r₀ s10 := State.put_kept _ _ h9
        clear_value s10
        exact Kept.ite (Kept.ite (State.synthLock_kept _ h10) h10) h9
      have h11 : Kept im r₀ s11 := State.calIdle_kept (State.commitStamp_kept h8)
      clear_value s6 s7 s8 s11
      split
      · exact State.doneBoundary_kept _ _ h11
      · exact h11
theorem execCalRun_keeps (fc sq idx) (hk : Kept im r₀ s) : Keeps im r₀ (execCalRun fc sq idx s) := by
  unfold execCalRun
  refine keeps_next ?_
  refine Kept.withDesc hk (fun d t h0 => ?_)
  extract_lets -merge x1 x2
  exact Kept.ite (State.failed_kept _ _ _ h0) (Kept.ite (State.failed_kept _ _ _ h0) (State.stage_kept _ _ h0))
theorem execTrackUpdate_keeps (fc adc f) (hk : Kept im r₀ s) : Keeps im r₀ (execTrackUpdate fc adc f s) := by
  unfold execTrackUpdate
  extract_lets -merge s0 x1 x2 x3 x4 x5 s6
  have h0 : Kept im r₀ s0 := State.at_kept _ hk
  have h6 : Kept im r₀ s6 := Kept.ite h0 (State.put_kept _ _ (State.setCva_kept _ h0))
  clear_value s0 s6
  exact keeps_okIf h6
theorem execConverterEnableSettle_keeps (fc) (hk : Kept im r₀ s) : Keeps im r₀ (execConverterEnableSettle fc s) := by
  unfold execConverterEnableSettle
  extract_lets -merge s0 x1 x2
  have h0 : Kept im r₀ s0 := State.at_kept _ hk
  clear_value s0
  exact keeps_next (State.awake_kept h0 (Kept.ite (State.boundaryDacs_kept (State.setCva_kept _ h0)) h0))
theorem State.oscRetries_kept (l) (hk : Kept im r₀ s) : Kept im r₀ (State.oscRetries s l) := by
  unfold State.oscRetries
  refine Kept.each hk (fun t a h0 => ?_)
  extract_lets -merge x1
  exact Kept.ite (State.setSynth_kept _ _ (State.put_kept _ _ (State.setSynthX_kept _ _ h0))) h0
theorem State.realign_kept (l) (hk : Kept im r₀ s) : Kept im r₀ (State.realign s l) := by
  unfold State.realign
  refine State.syncSlips_kept ?_
  refine Kept.each hk (fun t a h0 => ?_)
  extract_lets -merge x1
  exact Kept.ite (State.setSynthX_kept _ _ h0) h0

end Sys2Proof.Machine
end

