-- ==== Sys2Proof/Laws/KeptSlots.lean ====
section
/-! SUPPORT. The operations and meanings of Machine/Slots.lean keep what their argument keeps (Laws/Frame.lean). -/
namespace Sys2Proof.Machine

variable {im : Bool} {r₀ s : State}

theorem State.setGrd_kept (g) (hk : Kept im r₀ s) : Kept im r₀ (State.setGrd s g) := by
  unfold State.setGrd
  exact hk.to rfl
theorem State.setGd_kept (sl x) (hk : Kept im r₀ s) : Kept im r₀ (State.setGd s sl x) := by
  unfold State.setGd
  extract_lets -merge x0
  exact State.setGrd_kept _ hk
theorem State.syncSpares_kept (hk : Kept im r₀ s) : Kept im r₀ (State.syncSpares s) := by
  unfold State.syncSpares
  exact State.live_kept _ _ hk
theorem State.syncMuted_kept (sl) (hk : Kept im r₀ s) : Kept im r₀ (State.syncMuted s sl) := by
  unfold State.syncMuted
  exact State.putB_kept _ _ hk
theorem State.muteNow_kept (f sl) (hk : Kept im r₀ s) : Kept im r₀ (State.muteNow s f sl) := by
  unfold State.muteNow
  extract_lets -merge x0 s1
  have h1 : Kept im r₀ s1 := Kept.ite hk (State.setFab_kept _ hk)
  clear_value s1
  exact Kept.ite hk (State.syncMuted_kept _ (State.putB_kept _ _ h1))
theorem State.chuckSlot_kept (sl) (hk : Kept im r₀ s) : Kept im r₀ (State.chuckSlot s sl) := by
  unfold State.chuckSlot
  split
  · exact State.puti_kept _ _ (State.put_kept _ _ (State.putB_kept _ _ (State.putB_kept _ _ hk)))
  · exact State.puti_kept _ _ (State.put_kept _ _ (State.putB_kept _ _ (State.putB_kept _ _ hk)))
theorem State.boundarySlot_kept (sl) (hk : Kept im r₀ s) : Kept im r₀ (State.boundarySlot s sl) := by
  unfold State.boundarySlot
  extract_lets -merge s0 s1 s2 s3 s4 s5 s6
  have h0 : Kept im r₀ s0 := State.chuckSlot_kept _ hk
  have h1 : Kept im r₀ s1 := State.putB_kept _ _ h0
  have h2 : Kept im r₀ s2 := State.putB_kept _ _ h1
  have h3 : Kept im r₀ s3 := State.putB_kept _ _ h2
  have h4 : Kept im r₀ s4 := State.putB_kept _ _ (State.putB_kept _ _ hk)
  have h5 : Kept im r₀ s5 := State.putB_kept _ _ (State.putB_kept _ _ h4)
  have h6 : Kept im r₀ s6 := State.putB_kept _ _ (State.putB_kept _ _ h5)
  clear_value s0 s1 s2 s3 s4 s5 s6
  exact Kept.ite (State.syncMuted_kept _ (State.putB_kept _ _ h3)) (State.syncMuted_kept _ (State.puti_kept _ _ (State.putB_kept _ _ h6)))
theorem State.boundaryMutes_kept (hk : Kept im r₀ s) : Kept im r₀ (State.boundaryMutes s) := by
  unfold State.boundaryMutes
  exact Kept.each hk (fun t a h0 => (State.boundarySlot_kept _ h0))
theorem State.setWant_kept (sl g) (hk : Kept im r₀ s) : Kept im r₀ (State.setWant s sl g) := by
  unfold State.setWant
  extract_lets -merge x0
  exact State.setFab_kept _ hk
theorem State.stageCap_kept (sl) (hk : Kept im r₀ s) : Kept im r₀ (State.stageCap s sl) := by
  unfold State.stageCap
  extract_lets -merge x0
  split
  · exact hk
  · extract_lets -merge x1 s2
    have h2 : Kept im r₀ s2 := Kept.sec hk rfl rfl
    clear_value s2
    exact State.puti_kept _ _ h2
theorem execSlotGain_keeps (fc sq idx) (hk : Kept im r₀ s) : Keeps im r₀ (execSlotGain fc sq idx s) := by
  unfold execSlotGain
  refine keeps_next ?_
  refine Kept.withDesc hk (fun d t h0 => ?_)
  extract_lets -merge x1 x2 x3
  exact Kept.ite (State.failed_kept _ _ _ h0) (Kept.ite (State.failed_kept _ _ _ h0) (State.setFab_kept _ h0))
theorem State.stageGains_kept (hk : Kept im r₀ s) : Kept im r₀ (State.stageGains s) := by
  unfold State.stageGains
  extract_lets -merge x0 x1 x2 s3 s4
  have h3 : Kept im r₀ s3 := State.setFab_kept _ hk
  have h4 : Kept im r₀ s4 := Kept.each h3 (fun t a h5 => (State.setWant_kept _ _ h5))
  clear_value s3 s4
  refine Kept.each h4 (fun t a h6 => ?_)
  extract_lets -merge s7 x8 x9
  have h7 : Kept im r₀ s7 := State.stageCap_kept _ (State.setWant_kept _ _ h6)
  clear_value s7
  exact State.setFab_kept _ h7
theorem State.applyGains_kept (hk : Kept im r₀ s) : Kept im r₀ (State.applyGains s) := by
  unfold State.applyGains
  extract_lets -merge s0 x2 x3 s4
  have h0 : Kept im r₀ s0 := Kept.each hk (fun t a h1 => (Kept.ite (State.puti_kept _ _ h1) h1))
  have h4 : Kept im r₀ s4 := State.setFab_kept _ h0
  clear_value s0 s4
  exact Kept.each h4 (fun t a h5 => (State.doneBoundary_kept _ _ h5))
theorem State.discardGains_kept (hk : Kept im r₀ s) : Kept im r₀ (State.discardGains s) := by
  unfold State.discardGains
  extract_lets -merge x0 x1 s2
  have h2 : Kept im r₀ s2 := State.setFab_kept _ hk
  clear_value s2
  exact Kept.each h2 (fun t a h3 => (State.completeAt_kept _ _ _ _ _ _ _ _ h3))
theorem State.markSlot_kept (sl from_ upto ovr) (hk : Kept im r₀ s) : Kept im r₀ (State.markSlot s sl from_ upto ovr) := by
  unfold State.markSlot
  extract_lets -merge x0
  exact State.setFab_kept _ hk
theorem State.markWord_kept (sl t ovr) (hk : Kept im r₀ s) : Kept im r₀ (State.markWord s sl t ovr) := by
  unfold State.markWord
  exact State.markSlot_kept _ _ _ _ hk
theorem State.startFill_kept (sl) (hk : Kept im r₀ s) : Kept im r₀ (State.startFill s sl) := by
  unfold State.startFill
  extract_lets -merge x0 s1 x2 s3
  have h1 : Kept im r₀ s1 := State.setGd_kept _ _ hk
  have h3 : Kept im r₀ s3 := State.setFab_kept _ h1
  clear_value s1 s3
  exact State.putB_kept _ _ (State.markSlot_kept _ _ _ _ h3)
theorem execFillEnd_keeps (fc sl) (hk : Kept im r₀ s) : Keeps im r₀ (execFillEnd fc sl s) := by
  unfold execFillEnd
  extract_lets -merge s0 x1 s2
  have h0 : Kept im r₀ s0 := State.at_kept _ hk
  have h2 : Kept im r₀ s2 := by
    unfold s2
    split
    · exact h0
    · exact Kept.ite (State.putB_kept _ _ (State.setFab_kept _ h0)) h0
  clear_value s0 s2
  exact keeps_okIf h2
theorem State.tileFail_kept (t) (hk : Kept im r₀ s) : Kept im r₀ (State.tileFail s t) := by
  unfold State.tileFail
  extract_lets -merge s0 x1 s2
  have h0 : Kept im r₀ s0 := State.raise_kept _ (State.putBit_kept _ _ _ hk)
  have h2 : Kept im r₀ s2 := by
    unfold s2
    split
    · exact h0
    · extract_lets -merge x3 x4 x5 s6 x7 x8
      have h6 : Kept im r₀ s6 := State.live_kept _ _ (State.setFab_kept _ h0)
      clear_value s6
      exact Kept.ite (State.muteNow_kept _ _ (State.setFab_kept _ h6)) (State.muteNow_kept _ _ (State.setFab_kept _ h6))
  clear_value s0 s2
  exact Kept.ite hk (State.syncSpares_kept (State.live_kept _ _ h2))
theorem execFabTileFail_keeps (fc tile) (hk : Kept im r₀ s) : Keeps im r₀ (execFabTileFail fc tile s) := by
  unfold execFabTileFail
  extract_lets -merge s0
  have h0 : Kept im r₀ s0 := State.at_kept _ hk
  clear_value s0
  exact keeps_okIf (State.awake_kept h0 (State.tileFail_kept _ h0))
theorem State.migrateTile_kept (bad m) (hk : Kept im r₀ s) : Kept im r₀ (State.migrateTile s bad m) := by
  unfold State.migrateTile
  extract_lets -merge x0 f1 x3 s4 x5 x6 x7
  have h1 : ∀ a0 a1, Kept im r₀ a0 → Kept im r₀ (f1 a0 a1) := by
    intro a0 a1 ha
    unfold f1
    extract_lets -merge x2
    exact State.setFab_kept _ ha
  have h4 : Kept im r₀ s4 := State.setFab_kept _ hk
  clear_value f1 s4
  split
  · refine Kept.ite hk ?_
    split
    · exact State.boundarySlot_kept _ h4
    · extract_lets -merge s8
      have h8 : Kept im r₀ s8 := h1 _ _ hk
      clear_value s8
      exact Kept.ite (State.raise_kept _ h8) h8
  · extract_lets -merge s9 s10 s11
    have h9 : Kept im r₀ s9 := State.setFab_kept _ hk
    have h10 : Kept im r₀ s10 := State.putB_kept _ _ h9
    have h11 : Kept im r₀ s11 := Kept.ite (State.startFill_kept _ h10) h10
    clear_value s9 s10 s11
    exact Kept.ite (h1 _ _ hk) (Kept.ite (h1 _ _ (State.setFab_kept _ hk)) (State.boundarySlot_kept _ h11))
theorem execSpareMigrationStep_keeps (fc bad) (hk : Kept im r₀ s) : Keeps im r₀ (execSpareMigrationStep fc bad s) := by
  unfold execSpareMigrationStep
  extract_lets -merge s0 x1 s2
  have h0 : Kept im r₀ s0 := State.at_kept _ hk
  have h2 : Kept im r₀ s2 := Kept.each h0 (fun t a h3 => (State.migrateTile_kept _ _ h3))
  clear_value s0 s2
  exact keeps_next (State.syncSpares_kept (State.live_kept _ _ h2))
theorem State.badWord_kept (port lost) (hk : Kept im r₀ s) : Kept im r₀ (State.badWord s port lost) := by
  unfold State.badWord
  extract_lets -merge x0 s1
  have h1 : Kept im r₀ s1 := State.setFab_kept _ hk
  clear_value s1
  exact Kept.each h1 (fun t a h2 => (State.markWord_kept _ _ _ h2))
theorem execFabEcc_keeps (fc e single) (hk : Kept im r₀ s) : Keeps im r₀ (execFabEcc fc e single s) := by
  unfold execFabEcc
  extract_lets -merge s0 s1 s2
  have h0 : Kept im r₀ s0 := State.at_kept _ hk
  have h1 : Kept im r₀ s1 := State.raise_kept _ (State.bump_kept _ _ h0)
  have h2 : Kept im r₀ s2 := by
    unfold s2
    split
    · exact Kept.ite h0 (State.badWord_kept _ _ (State.raise_kept _ h0))
    · refine Kept.ite (State.raise_kept _ (State.bump_kept _ _ h0)) ?_
      split
      · extract_lets -merge s3 x4 x5 s6
        have h3 : Kept im r₀ s3 := by
          unfold s3
          split
          · exact State.markWord_kept _ _ _ h1
          · exact h1
        have h6 : Kept im r₀ s6 := State.setFab_kept _ h3
        clear_value s3 s6
        exact Kept.ite (State.tileFail_kept _ h6) h6
      · exact State.badWord_kept _ _ h1
      · exact h1
  clear_value s0 s1 s2
  exact keeps_okIf (State.awake_kept h0 h2)
theorem execChzCoefParity_keeps (fc sl) (hk : Kept im r₀ s) : Keeps im r₀ (execChzCoefParity fc sl s) := by
  unfold execChzCoefParity
  extract_lets -merge s0 s1 x2 s3
  have h0 : Kept im r₀ s0 := State.at_kept _ hk
  have h1 : Kept im r₀ s1 := State.raise_kept _ h0
  have h3 : Kept im r₀ s3 := by
    unfold s3
    split
    · exact h1
    · exact State.muteNow_kept _ _ (State.setFab_kept _ (State.live_kept _ _ h1))
  clear_value s0 s1 s3
  exact keeps_okIf (State.awake_kept h0 h3)
theorem State.coefBoundary_kept (readBack) (hk : Kept im r₀ s) : Kept im r₀ (State.coefBoundary s readBack) := by
  unfold State.coefBoundary
  extract_lets -merge x0 x1 s2 s3
  have h2 : Kept im r₀ s2 := State.setFab_kept _ hk
  have h3 : Kept im r₀ s3 := by
    unfold s3
    refine Kept.each h2 (fun t a h4 => ?_)
    split
    · exact State.tileFail_kept _ h4
    · exact h4
  clear_value s2 s3
  exact State.live_kept _ _ h3
theorem execDovetailSlip_keeps (fc o) (hk : Kept im r₀ s) : Keeps im r₀ (execDovetailSlip fc o s) := by
  unfold execDovetailSlip
  extract_lets -merge s0 s1 x2 s3 s4
  have h0 : Kept im r₀ s0 := State.at_kept _ hk
  have h1 : Kept im r₀ s1 := State.raise_kept _ (State.bump_kept _ _ (State.putBit_kept _ _ _ h0))
  have h3 : Kept im r₀ s3 := State.setFab_kept _ h1
  have h4 : Kept im r₀ s4 := Kept.ite h0 (State.syncSlips_kept (Kept.ite (State.dirtyDie_kept _ h3) h3))
  clear_value s0 s1 s3 s4
  exact keeps_okIf (State.awake_kept h0 h4)
theorem State.slipBoundary_kept (hk : Kept im r₀ s) : Kept im r₀ (State.slipBoundary s) := by
  unfold State.slipBoundary
  extract_lets -merge x0
  exact State.syncSlips_kept (State.setFab_kept _ hk)
theorem execMergeMismatch_keeps (fc m) (hk : Kept im r₀ s) : Keeps im r₀ (execMergeMismatch fc m s) := by
  unfold execMergeMismatch
  extract_lets -merge s0 s1 x2 s3 s4
  have h0 : Kept im r₀ s0 := State.at_kept _ hk
  have h1 : Kept im r₀ s1 := State.raise_kept _ (State.bump_kept _ _ (State.putB_kept _ _ h0))
  have h3 : Kept im r₀ s3 := State.setFab_kept _ h1
  have h4 : Kept im r₀ s4 := Kept.ite h0 (State.syncSlips_kept (Kept.ite (State.markSlot_kept _ _ _ _ h3) h3))
  clear_value s0 s1 s3 s4
  exact keeps_okIf (State.awake_kept h0 h4)
theorem State.mergeBoundary_kept (hk : Kept im r₀ s) : Kept im r₀ (State.mergeBoundary s) := by
  unfold State.mergeBoundary
  extract_lets -merge x0 x1 x2 s3 s4
  have h3 : Kept im r₀ s3 := State.setFab_kept _ hk
  have h4 : Kept im r₀ s4 := Kept.each h3 (fun t a h5 => (State.tileFail_kept _ h5))
  clear_value s3 s4
  exact State.syncSlips_kept h4
theorem State.fabricMeas_kept (fill) (hk : Kept im r₀ s) : Kept im r₀ (State.fabricMeas s fill) := by
  unfold State.fabricMeas
  extract_lets -merge x0 s1
  have h1 : Kept im r₀ s1 := State.puti_kept _ _ (State.puti_kept _ _ (State.puti_kept _ _ hk))
  clear_value s1
  exact State.puti_kept _ _ h1

end Sys2Proof.Machine
end

