-- ==== Sys2Proof/Laws/KeptPaths.lean ====
section
/-! SUPPORT. The operations and meanings of Machine/Paths.lean keep what their argument keeps (Laws/Frame.lean). -/
namespace Sys2Proof.Machine

variable {im : Bool} {r₀ s : State}

theorem State.setSeq_kept (q) (hk : Kept im r₀ s) : Kept im r₀ (State.setSeq s q) := by
  unfold State.setSeq
  exact hk.to rfl
theorem State.setSg_kept (g x) (hk : Kept im r₀ s) : Kept im r₀ (State.setSg s g x) := by
  unfold State.setSg
  extract_lets -merge x0
  exact State.setSeq_kept _ hk
theorem State.moved_kept (g h old v t) (hk : Kept im r₀ s) : Kept im r₀ (State.moved s g h old v t) := by
  unfold State.moved
  extract_lets -merge x0 x1
  exact Kept.ite hk (State.setSg_kept _ _ hk)
theorem State.putHalf_kept (g h v t) (hk : Kept im r₀ s) : Kept im r₀ (State.putHalf s g h v t) := by
  unfold State.putHalf
  extract_lets -merge s0
  have h0 : Kept im r₀ s0 := State.moved_kept _ _ _ _ _ hk
  clear_value s0
  exact Kept.ite (State.put_kept _ _ (State.put_kept _ _ h0)) (State.put_kept _ _ h0)
theorem State.setGouge_kept (g) (hk : Kept im r₀ s) : Kept im r₀ (State.setGouge s g) := by
  unfold State.setGouge
  exact hk.to rfl
theorem State.setGg_kept (sl x) (hk : Kept im r₀ s) : Kept im r₀ (State.setGg s sl x) := by
  unfold State.setGg
  extract_lets -merge x0
  exact State.setGouge_kept _ hk
theorem State.sourceMarks_kept (st sl) (hk : Kept im r₀ s) : Kept im r₀ (State.sourceMarks s st sl) := by
  unfold State.sourceMarks
  extract_lets -merge x0 x1 s2
  have h2 : Kept im r₀ s2 := by
    unfold s2
    split
    · exact Kept.ite (State.markSlot_kept _ _ _ _ hk) hk
    · exact hk
  clear_value s2
  exact Kept.each h2 (fun t a h3 => (State.markWord_kept _ _ _ h3))
theorem State.runPath_kept (st sl) (hk : Kept im r₀ s) : Kept im r₀ (State.runPath s st sl) := by
  unfold State.runPath
  extract_lets -merge x0 x1 x2 x3 x4 x5 x6
  split
  · extract_lets -merge x7 x8
    split
    · extract_lets -merge x9
      exact State.setGg_kept _ _ (State.setFab_kept _ hk)
theorem State.runPaths_kept (st) (hk : Kept im r₀ s) : Kept im r₀ (State.runPaths s st) := by
  unfold State.runPaths
  extract_lets -merge s0 s2
  have h0 : Kept im r₀ s0 := Kept.each hk (fun t a h1 => (State.sourceMarks_kept _ _ h1))
  have h2 : Kept im r₀ s2 := Kept.each h0 (fun t a h3 => (State.runPath_kept _ _ h3))
  clear_value s0 s2
  exact Kept.each h2 (fun t a h4 => (State.bump_kept _ _ h4))
theorem State.newTurnPaths_kept (hk : Kept im r₀ s) : Kept im r₀ (State.newTurnPaths s) := by
  unfold State.newTurnPaths
  extract_lets -merge x0
  exact State.setFab_kept _ hk
theorem State.levelSlot_kept (sl) (hk : Kept im r₀ s) : Kept im r₀ (State.levelSlot s sl) := by
  unfold State.levelSlot
  extract_lets -merge f0 x1 x2
  have h0 : ∀ a0, Kept im r₀ a0 → Kept im r₀ (f0 a0) := by
    intro a0 ha
    unfold f0
    exact State.putB_kept _ _ (State.put_kept _ _ (State.puti_kept _ _ (State.puti_kept _ _ (State.puti_kept _ _ ha))))
  clear_value f0
  exact Kept.ite (h0 _ hk) (State.putB_kept _ _ (State.put_kept _ _ (State.puti_kept _ _ (State.puti_kept _ _ (State.puti_kept _ _ hk)))))
theorem State.levelsBoundary_kept (hk : Kept im r₀ s) : Kept im r₀ (State.levelsBoundary s) := by
  unfold State.levelsBoundary
  exact Kept.each hk (fun t a h0 => (State.levelSlot_kept _ h0))

end Sys2Proof.Machine
end

