-- ==== Sys2Proof/Laws/KeptGouge.lean ====
section
/-! SUPPORT. The operations and meanings of Machine/Gouge.lean keep what their argument keeps (Laws/Frame.lean). -/
namespace Sys2Proof.Machine

variable {im : Bool} {r₀ s : State}

theorem State.setPhase_kept (sl p) (hk : Kept im r₀ s) : Kept im r₀ (State.setPhase s sl p) := by
  unfold State.setPhase
  exact State.put_kept _ _ hk
theorem State.report_kept (sl c h) (hk : Kept im r₀ s) : Kept im r₀ (State.report s sl c h) := by
  unfold State.report
  extract_lets -merge x0
  split
  · extract_lets -merge x1 s2
    have h2 : Kept im r₀ s2 := State.put_kept _ _ (State.put_kept _ _ hk)
    clear_value s2
    exact State.setGg_kept _ _ (State.putB_kept _ _ h2)
theorem State.firstRecord_kept (sl first) (hk : Kept im r₀ s) : Kept im r₀ (State.firstRecord s sl first) := by
  unfold State.firstRecord
  extract_lets -merge x0
  exact Kept.ite (State.setGg_kept _ _ hk) hk
theorem State.startLane_kept (sl taps delay guard first) (hk : Kept im r₀ s) : Kept im r₀ (State.startLane s sl taps delay guard first) := by
  unfold State.startLane
  extract_lets -merge x0 x1 x2 x3 s4 s5 s6 s7
  have h4 : Kept im r₀ s4 := State.setPhase_kept _ _ (State.setGg_kept _ _ hk)
  have h5 : Kept im r₀ s5 := State.putB_kept _ _ (State.put_kept _ _ h4)
  have h6 : Kept im r₀ s6 := State.putB_kept _ _ (State.putB_kept _ _ h5)
  have h7 : Kept im r₀ s7 := Kept.ite h6 (State.putB_kept _ _ h6)
  clear_value s4 s5 s6 s7
  exact State.firstRecord_kept _ _ (State.report_kept _ _ _ h7)
theorem State.startZero_kept (sl) (hk : Kept im r₀ s) : Kept im r₀ (State.startZero s sl) := by
  unfold State.startZero
  exact State.startLane_kept _ _ _ _ _ hk
theorem State.noLane_kept (sl first) (hk : Kept im r₀ s) : Kept im r₀ (State.noLane s sl first) := by
  unfold State.noLane
  extract_lets -merge x0 s1
  have h1 : Kept im r₀ s1 := State.setPhase_kept _ _ (State.setGg_kept _ _ hk)
  clear_value s1
  exact State.firstRecord_kept _ _ (State.report_kept _ _ _ h1)
theorem State.startFromPlan_kept (sl first) (hk : Kept im r₀ s) : Kept im r₀ (State.startFromPlan s sl first) := by
  unfold State.startFromPlan
  refine Kept.ite (State.noLane_kept _ _ hk) ?_
  split
  · exact State.startLane_kept _ _ _ _ _ hk
  · exact State.startLane_kept _ _ _ _ _ hk
theorem State.stopLane_kept (sl) (hk : Kept im r₀ s) : Kept im r₀ (State.stopLane s sl) := by
  unfold State.stopLane
  extract_lets -merge x0 s1
  have h1 : Kept im r₀ s1 := State.setPhase_kept _ _ (State.setGg_kept _ _ hk)
  clear_value s1
  exact State.putB_kept _ _ (State.put_kept _ _ h1)
theorem State.freezeSlot_kept (sl) (hk : Kept im r₀ s) : Kept im r₀ (State.freezeSlot s sl) := by
  unfold State.freezeSlot
  extract_lets -merge x0 x1 x2 x3 x4 x5 x6 x7 x8 s9 s10 s11 s12 x13 x14
  have h9 : Kept im r₀ s9 := State.putB_kept _ _ (State.putB_kept _ _ hk)
  have h10 : Kept im r₀ s10 := State.putB_kept _ _ (State.putB_kept _ _ h9)
  have h11 : Kept im r₀ s11 := State.putB_kept _ _ (State.putB_kept _ _ h10)
  have h12 : Kept im r₀ s12 := State.putB_kept _ _ (State.putB_kept _ _ h11)
  clear_value s9 s10 s11 s12
  exact Kept.ite (State.setGg_kept _ _ h12) (State.setGg_kept _ _ h12)
theorem State.applyLane_kept (sl) (hk : Kept im r₀ s) : Kept im r₀ (State.applyLane s sl) := by
  unfold State.applyLane
  extract_lets -merge x0 x1
  refine Kept.ite (Kept.ite (State.startZero_kept _ hk) (State.setGg_kept _ _ hk)) ?_
  split
  · extract_lets -merge x2
    exact Kept.ite (State.setGg_kept _ _ hk) (State.startLane_kept _ _ _ _ _ hk)
  · split
    · exact State.setGg_kept _ _ hk
    · exact hk
theorem State.gougeBoundary_kept (hk : Kept im r₀ s) : Kept im r₀ (State.gougeBoundary s) := by
  unfold State.gougeBoundary
  extract_lets -merge s0 s2 s5 s7 x9
  have h0 : Kept im r₀ s0 := Kept.each hk (fun t a h1 => (State.freezeSlot_kept _ h1))
  have h2 : Kept im r₀ s2 := by
    unfold s2
    refine Kept.each h0 (fun t a h3 => ?_)
    extract_lets -merge x4
    exact State.setGg_kept _ _ h3
  have h5 : Kept im r₀ s5 := Kept.each h2 (fun t a h6 => (State.applyLane_kept _ h6))
  have h7 : Kept im r₀ s7 := Kept.each h5 (fun t a h8 => (State.report_kept _ _ _ h8))
  clear_value s0 s2 s5 s7
  exact State.setGouge_kept _ h7
theorem State.lateRestarts_kept (hk : Kept im r₀ s) : Kept im r₀ (State.lateRestarts s) := by
  unfold State.lateRestarts
  extract_lets -merge x0 x1 s2
  have h2 : Kept im r₀ s2 := State.setGouge_kept _ hk
  clear_value s2
  refine Kept.each h2 (fun t a h3 => ?_)
  extract_lets -merge s4
  have h4 : Kept im r₀ s4 := Kept.ite (State.startFill_kept _ h3) h3
  clear_value s4
  exact Kept.ite (State.startFromPlan_kept _ _ h4) h4
theorem State.stageRecord_kept (sl h) (hk : Kept im r₀ s) : Kept im r₀ (State.stageRecord s sl h) := by
  unfold State.stageRecord
  extract_lets -merge x0 x1 x2
  exact Kept.ite (State.report_kept _ _ _ (State.putB_kept _ _ hk)) (State.report_kept _ _ _ (State.putB_kept _ _ hk))
theorem State.adapt_kept (sl) (hk : Kept im r₀ s) : Kept im r₀ (State.adapt s sl) := by
  unfold State.adapt
  extract_lets -merge x0 x1 x2 x3 x4 x5 x6 x7 x8 x9 x10 x11 x12 x13 x14 x15 x16 x17 s18 x19 s20 s21 s22 s23
  have h18 : Kept im r₀ s18 := hk.to rfl
  have h20 : Kept im r₀ s20 := State.bump_kept _ _ (State.raise_kept _ h18)
  have h21 : Kept im r₀ s21 := State.put_kept _ _ (State.putB_kept _ _ h20)
  have h22 : Kept im r₀ s22 := State.put_kept _ _ h18
  have h23 : Kept im r₀ s23 := State.put_kept _ _ h22
  clear_value s18 s20 s21 s22 s23
  exact Kept.ite hk (Kept.ite (State.stageRecord_kept _ _ hk) (Kept.ite hk (Kept.ite (State.setGg_kept _ _ h21) (State.stageRecord_kept _ _
      (State.setGg_kept _ _ h23)))))
theorem execGougeAdaptationStep_keeps (fc l) (hk : Kept im r₀ s) : Keeps im r₀ (execGougeAdaptationStep fc l s) := by
  unfold execGougeAdaptationStep
  extract_lets -merge s0 x1
  have h0 : Kept im r₀ s0 := State.at_kept _ hk
  clear_value s0
  exact keeps_okIf (Kept.ite h0 (Kept.each h0 (fun t a h2 => (State.once_kept h2 fun _ _ h => State.adapt_kept _ h))))
theorem State.enterTrack_kept (sl) (hk : Kept im r₀ s) : Kept im r₀ (State.enterTrack s sl) := by
  unfold State.enterTrack
  extract_lets -merge x0 x1 s2
  have h2 : Kept im r₀ s2 := State.putB_kept _ _ (State.setPhase_kept _ _ (State.setGg_kept _ _ hk))
  clear_value s2
  exact State.putB_kept _ _ h2
theorem State.probeFailed_kept (sl) (hk : Kept im r₀ s) : Kept im r₀ (State.probeFailed s sl) := by
  unfold State.probeFailed
  extract_lets -merge x0 s1 x2 x3 s4
  have h1 : Kept im r₀ s1 := State.put_kept _ _ hk
  have h4 : Kept im r₀ s4 := State.setGg_kept _ _ h1
  clear_value s1 s4
  exact Kept.ite (State.enterTrack_kept _ (State.emit_kept _ _ _ _ (State.putB_kept _ _ h1))) (State.setPhase_kept _ _ h4)
theorem execDelaySearchEnd_keeps (fc sl lag peak iso) (hk : Kept im r₀ s) : Keeps im r₀ (execDelaySearchEnd fc sl lag peak iso s) := by
  unfold execDelaySearchEnd
  extract_lets -merge s0 x1 x2 s3 s4
  have h0 : Kept im r₀ s0 := State.at_kept _ hk
  have h3 : Kept im r₀ s3 := State.setPhase_kept _ _ (State.setGg_kept _ _ h0)
  have h4 : Kept im r₀ s4 := Kept.ite h0 (Kept.ite (State.probeFailed_kept _ h0) (State.putB_kept _ _ h3))
  clear_value s0 s3 s4
  exact keeps_okIf h4
theorem execProbePhaseEnd_keeps (fc sl) (hk : Kept im r₀ s) : Keeps im r₀ (execProbePhaseEnd fc sl s) := by
  unfold execProbePhaseEnd
  extract_lets -merge s0 s1
  have h0 : Kept im r₀ s0 := State.at_kept _ hk
  have h1 : Kept im r₀ s1 := Kept.ite h0 (Kept.ite (State.enterTrack_kept _ h0) (State.probeFailed_kept _ h0))
  clear_value s0 s1
  exact keeps_okIf h1
theorem execCheckpoint_keeps (fc sl) (hk : Kept im r₀ s) : Keeps im r₀ (execCheckpoint fc sl s) := by
  unfold execCheckpoint
  extract_lets -merge s0 x1 x2 x3 x4 x5 x6 s7 s8
  have h0 : Kept im r₀ s0 := State.at_kept _ hk
  have h7 : Kept im r₀ s7 := State.setGg_kept _ _ h0
  have h8 : Kept im r₀ s8 := Kept.ite h0 (Kept.ite (State.setGg_kept _ _ h0) (State.put_kept _ _ (State.putB_kept _ _ h7)))
  clear_value s0 s7 s8
  exact keeps_okIf h8
theorem State.laneFail_kept (lane) (hk : Kept im r₀ s) : Kept im r₀ (State.laneFail s lane) := by
  unfold State.laneFail
  extract_lets -merge s0 x1 s2
  have h0 : Kept im r₀ s0 := State.raise_kept _ (State.putBit_kept _ _ _ hk)
  have h2 : Kept im r₀ s2 := by
    unfold s2
    clear_value x1
    split
    · exact h0
    · extract_lets -merge x3 s4 x5 x6 x7 x8 x9
      have h4 : Kept im r₀ s4 := State.put_kept _ _ (State.setGg_kept _ _ h0)
      clear_value s4
      exact Kept.ite (State.muteNow_kept _ _ (State.setGouge_kept _ h4)) (State.muteNow_kept _ _ (State.setGouge_kept _ h4))
  clear_value s0 s2
  exact Kept.ite hk (State.syncSpares_kept (State.live_kept _ _ h2))
theorem execLaneFail_keeps (fc lane) (hk : Kept im r₀ s) : Keeps im r₀ (execLaneFail fc lane s) := by
  unfold execLaneFail
  extract_lets -merge s0
  have h0 : Kept im r₀ s0 := State.at_kept _ hk
  clear_value s0
  exact keeps_okIf (State.awake_kept h0 (State.laneFail_kept _ h0))
theorem State.refWordBad_kept (sl w) (hk : Kept im r₀ s) : Kept im r₀ (State.refWordBad s sl w) := by
  unfold State.refWordBad
  extract_lets -merge x0 x1 x2
  exact State.setFab_kept _ hk
theorem execGougeTapEcc_keeps (fc kind at_ single) (hk : Kept im r₀ s) : Keeps im r₀ (execGougeTapEcc fc kind at_ single s) := by
  unfold execGougeTapEcc
  extract_lets -merge s0 s1 x2 x3 x4 s5 s6 s9
  have h0 : Kept im r₀ s0 := State.at_kept _ hk
  have h1 : Kept im r₀ s1 := State.raise_kept _ (State.bump_kept _ _ h0)
  have h5 : Kept im r₀ s5 := State.setGouge_kept _ h1
  have h6 : Kept im r₀ s6 := by
    unfold s6
    split
    · extract_lets -merge x7 s8
      have h8 : Kept im r₀ s8 := State.put_kept _ _ (State.put_kept _ _ h5)
      clear_value s8
      exact State.setGg_kept _ _ h8
    · exact h5
  have h9 : Kept im r₀ s9 := by
    unfold s9
    refine Kept.ite (State.raise_kept _ (State.bump_kept _ _ h0)) ?_
    split
    · exact Kept.ite h1 (State.put_kept _ _ (State.setGg_kept _ _ h1))
    · exact State.putB_kept _ _ h1
    · exact State.refWordBad_kept _ _ h1
    · exact Kept.ite (State.laneFail_kept _ h6) h6
  clear_value s0 s1 s5 s6 s9
  exact keeps_okIf (State.awake_kept h0 h9)
theorem State.migrateLane_kept (bad m) (hk : Kept im r₀ s) : Kept im r₀ (State.migrateLane s bad m) := by
  unfold State.migrateLane
  extract_lets -merge x0 f1 x3 s4 x5
  have h1 : ∀ a0 a1, Kept im r₀ a0 → Kept im r₀ (f1 a0 a1) := by
    intro a0 a1 ha
    unfold f1
    extract_lets -merge x2
    exact State.setGouge_kept _ ha
  have h4 : Kept im r₀ s4 := State.setGouge_kept _ hk
  clear_value f1 s4
  split
  · refine Kept.ite hk ?_
    split
    · exact State.boundarySlot_kept _ h4
    · extract_lets -merge s6
      have h6 : Kept im r₀ s6 := h1 _ _ hk
      clear_value s6
      exact Kept.ite (State.raise_kept _ h6) h6
  · extract_lets -merge s7
    have h7 : Kept im r₀ s7 := State.setGouge_kept _ hk
    clear_value s7
    exact Kept.ite (h1 _ _ (State.putBit_kept _ _ _ hk)) (Kept.ite hk (State.boundarySlot_kept _ (State.putB_kept _ _ h7)))
theorem execLaneMigrationStep_keeps (fc bad) (hk : Kept im r₀ s) : Keeps im r₀ (execLaneMigrationStep fc bad s) := by
  unfold execLaneMigrationStep
  extract_lets -merge s0 x1 s2
  have h0 : Kept im r₀ s0 := State.at_kept _ hk
  have h2 : Kept im r₀ s2 := Kept.each h0 (fun t a h3 => (State.migrateLane_kept _ _ h3))
  clear_value s0 s2
  exact keeps_next (State.syncSpares_kept (State.live_kept _ _ h2))
theorem execFreeze_keeps (fc sl on) (hk : Kept im r₀ s) : Keeps im r₀ (execFreeze fc sl on s) := by
  unfold execFreeze
  extract_lets -merge s0
  have h0 : Kept im r₀ s0 := State.at_kept _ hk
  clear_value s0
  exact keeps_okIf (Kept.ite (State.putB_kept _ _ h0) h0)
theorem execReprobe_keeps (fc sl zero) (hk : Kept im r₀ s) : Keeps im r₀ (execReprobe fc sl zero s) := by
  unfold execReprobe
  extract_lets -merge s0 x1
  have h0 : Kept im r₀ s0 := State.at_kept _ hk
  clear_value s0
  exact keeps_okIf (Kept.ite h0 (State.setGg_kept _ _ h0))
theorem execGougeSnapshot_keeps (fc sq idx) (hk : Kept im r₀ s) : Keeps im r₀ (execGougeSnapshot fc sq idx s) := by
  unfold execGougeSnapshot
  refine keeps_next ?_
  refine Kept.withDesc hk (fun d t h0 => ?_)
  extract_lets -merge x1 x2 x3
  exact Kept.ite (State.failed_kept _ _ _ h0) (Kept.ite (State.failed_kept _ _ _ h0) (State.setGouge_kept _ h0))
theorem execSnapshotCopy_keeps (fc) (hk : Kept im r₀ s) : Keeps im r₀ (execSnapshotCopy fc s) := by
  unfold execSnapshotCopy
  extract_lets -merge s0 x1 s2
  have h0 : Kept im r₀ s0 := State.at_kept _ hk
  have h2 : Kept im r₀ s2 := State.setGouge_kept _ h0
  clear_value s0 s2
  split
  · exact keeps_next h0
  · extract_lets -merge x3 x4 x5
    refine Keeps.ite (keeps_next h0) ?_
    split
    · exact keeps_next h2
    · exact keeps_next (Kept.ite (State.failed_kept _ _ _ h2) (State.addXfer_kept _ _ _ _ h2))

end Sys2Proof.Machine
end

