-- ==== Sys2Proof/Laws/KeptGuard.lean ====
section
/-! SUPPORT. The operations and meanings of Machine/Guard.lean keep what their argument keeps (Laws/Frame.lean). -/
namespace Sys2Proof.Machine

variable {im : Bool} {r₀ s : State}

theorem State.syncGuard_kept (sl) (hk : Kept im r₀ s) : Kept im r₀ (State.syncGuard s sl) := by
  unfold State.syncGuard
  extract_lets -merge x0 s1
  have h1 : Kept im r₀ s1 := State.putB_kept _ _ (State.put_kept _ _ hk)
  clear_value s1
  exact State.putB_kept _ _ (State.putB_kept _ _ (State.putB_kept _ _ h1))
theorem State.syncGuardLive_kept (hk : Kept im r₀ s) : Kept im r₀ (State.syncGuardLive s) := by
  unfold State.syncGuardLive
  extract_lets -merge x0 x1 s2
  have h2 : Kept im r₀ s2 := State.live_kept _ _ (State.live_kept _ _ hk)
  clear_value s2
  exact State.live_kept _ _ (State.live_kept _ _ h2)
theorem State.syncGuardAll_kept (hk : Kept im r₀ s) : Kept im r₀ (State.syncGuardAll s) := by
  unfold State.syncGuardAll
  exact State.syncGuardLive_kept (Kept.each hk (fun t a h0 => (State.syncGuard_kept _ h0)))
theorem State.guardIrq_kept (hk : Kept im r₀ s) : Kept im r₀ (State.guardIrq s) := by
  unfold State.guardIrq
  extract_lets -merge x0
  exact Kept.ite hk (State.irq_kept _ (State.setGrd_kept _ hk))
theorem State.firstLimit_kept (sl) (hk : Kept im r₀ s) : Kept im r₀ (State.firstLimit s sl) := by
  unfold State.firstLimit
  exact State.puti_kept _ _ hk
theorem State.begins_kept (sl) (hk : Kept im r₀ s) : Kept im r₀ (State.begins s sl) := by
  unfold State.begins
  extract_lets -merge x0
  exact State.setGrd_kept _ hk
theorem State.trigger_kept (sl bit_ src) (hk : Kept im r₀ s) : Kept im r₀ (State.trigger s sl bit_ src) := by
  unfold State.trigger
  extract_lets -merge x0 s1 s2
  have h1 : Kept im r₀ s1 := State.setGd_kept _ _ hk
  have h2 : Kept im r₀ s2 := State.bump_kept _ _ (State.bump_kept _ _ h1)
  clear_value s1 s2
  exact Kept.ite hk (Kept.ite h2 (State.raise_kept _ h2))
theorem State.stageStep2_kept (sl) (hk : Kept im r₀ s) : Kept im r₀ (State.stageStep2 s sl) := by
  unfold State.stageStep2
  extract_lets -merge x0
  exact Kept.ite hk (State.setGd_kept _ _ hk)
theorem State.oscVerdict_kept (sl) (hk : Kept im r₀ s) : Kept im r₀ (State.oscVerdict s sl) := by
  unfold State.oscVerdict
  extract_lets -merge x0 s1 s2
  have h1 : Kept im r₀ s1 := State.putB_kept _ _ (State.put_kept _ _ hk)
  have h2 : Kept im r₀ s2 := State.raise_kept _ (State.bump_kept _ _ h1)
  clear_value s1 s2
  exact Kept.ite hk (State.setGd_kept _ _ h2)
theorem State.stageLimit_kept (sl) (hk : Kept im r₀ s) : Kept im r₀ (State.stageLimit s sl) := by
  unfold State.stageLimit
  exact State.puti_kept _ _ hk
theorem State.persist_kept (sl b src lim cnt present) (hk : Kept im r₀ s) : Kept im r₀ (s.persist sl b src lim cnt present).1 := by
  unfold State.persist
  extract_lets -merge x0 x1
  exact Kept.ite_fst (State.setGd_kept _ _ hk) (Kept.ite_fst hk (Kept.ite (State.stageStep2_kept _ hk) (State.trigger_kept _ _ _ hk)))
theorem State.warning_kept (sl l) (hk : Kept im r₀ s) : Kept im r₀ (s.warning sl l).1 := by
  unfold State.warning
  extract_lets -merge x0 x1 x2 s3 x4
  have h3 : Kept im r₀ s3 := State.tick_kept (State.puti_kept _ _ hk)
  clear_value s3
  exact Kept.ite_fst hk (State.setGd_kept _ _ (State.persist_kept _ _ _ _ _ _ h3))
theorem State.noiseRise_kept (sl l) (hk : Kept im r₀ s) : Kept im r₀ (s.noiseRise sl l).1 := by
  unfold State.noiseRise
  extract_lets -merge x0 x1 x2 x3 x4 s5 x6
  have h5 : Kept im r₀ s5 := State.tick_kept (State.puti_kept _ _ hk)
  clear_value s5
  exact Kept.ite_fst hk (Kept.ite_fst (State.setGd_kept _ _ hk)
    (State.setGd_kept _ _ (State.persist_kept _ _ _ _ _ _ (State.setGd_kept _ _ h5))))
theorem State.donorLoss_kept (sl l) (hk : Kept im r₀ s) : Kept im r₀ (s.donorLoss sl l).1 := by
  unfold State.donorLoss
  extract_lets -merge x0 x1 x2 x3 x4 s5
  have h5 : Kept im r₀ s5 := State.setGd_kept _ _ hk
  clear_value s5
  exact Kept.ite_fst hk (Kept.ite_fst hk (Kept.ite_fst (Kept.ite_fst (State.setGd_kept _ _ hk) (State.setGd_kept _ _ hk))
    (Kept.ite_fst (State.setGd_kept _ _ hk) (State.raise_kept _ (State.setGrd_kept _ h5)))))
theorem State.guardSlot_kept (sl) (hk : Kept im r₀ s) : Kept im r₀ (State.guardSlot s sl) := by
  unfold State.guardSlot
  extract_lets -merge x0 x1 s2 x3 x4 s5
  have h2 : Kept im r₀ s2 := State.putB_kept _ _ hk
  have h5 : Kept im r₀ s5 := Kept.ite (State.oscVerdict_kept _ h2) h2
  clear_value s2 s5
  exact Kept.ite hk (State.stageLimit_kept _ (State.setGd_kept _ _
    (State.donorLoss_kept _ _ (State.noiseRise_kept _ _ (State.warning_kept _ _ h5)))))
theorem State.emSlot_kept (sl pers reached) (hk : Kept im r₀ s) : Kept im r₀ (State.emSlot s sl pers reached) := by
  unfold State.emSlot
  extract_lets -merge x0
  exact Kept.ite (State.setGd_kept _ _ hk) (Kept.ite (State.setGd_kept _ _ (State.persist_kept sl 2 13 pers x0.emCnt true hk))
    (Kept.ite (State.trigger_kept _ _ _ (State.setGd_kept _ _ hk)) hk))
theorem State.emission_kept (m) (hk : Kept im r₀ s) : Kept im r₀ (s.emission m).1 := by
  unfold State.emission
  extract_lets -merge x0 x1 x2 s3
  have h3 : Kept im r₀ s3 := hk.to rfl
  clear_value s3
  refine Kept.ite_fst hk ?_
  split
  refine State.setGrd_kept _ ?_
  refine Kept.ite (State.bump_kept _ _ ?_) ?_ <;>
    exact State.putB_kept _ _ (State.put_kept _ _ (State.putB_kept _ _ (State.put_kept _ _ (State.putB_kept _ _ h3))))
theorem State.emissions_kept (l) (hk : Kept im r₀ s) : Kept im r₀ (State.emissions s l) := by
  have hf : ∀ (l : List EmMeas) (a : State × List (Nat × Nat × Bool)), Kept im r₀ a.1 →
      Kept im r₀ (l.foldl (fun a m => ((a.1.emission m).1, a.2 ++ (a.1.emission m).2)) a).1 := by
    intro l
    induction l with
    | nil => exact fun _ h => h
    | cons m l ih => exact fun _ h => ih _ (State.emission_kept m h)
  unfold State.emissions
  refine Kept.each (hf l (s, []) hk) fun t sl h => ?_
  extract_lets -merge x0 s1
  have h1 : Kept im r₀ s1 := State.emSlot_kept _ _ _ h
  exact Kept.ite (State.stageLimit_kept _ h1) h1
theorem execGuardEvaluation_keeps (fc l em) (hk : Kept im r₀ s) : Keeps im r₀ (execGuardEvaluation fc l em s) := by
  unfold execGuardEvaluation
  extract_lets -merge s0 x1
  have h0 : Kept im r₀ s0 := State.at_kept _ hk
  clear_value s0
  exact keeps_okIf (Kept.ite h0 (State.syncGuardLive_kept (Kept.each (State.emissions_kept _ h0) (fun t a h2 => (State.once_kept h2 fun _ _ h =>
      State.guardSlot_kept _ h)))))
theorem State.guardMutesNow_kept (hk : Kept im r₀ s) : Kept im r₀ (State.guardMutesNow s) := by
  unfold State.guardMutesNow
  exact Kept.each hk (fun t a h0 => (Kept.ite (State.muteNow_kept _ _ h0) h0))
theorem State.beginMutes_kept (hk : Kept im r₀ s) : Kept im r₀ (State.beginMutes s) := by
  unfold State.beginMutes
  refine Kept.each hk (fun t a h0 => ?_)
  extract_lets -merge x1
  split
  · exact h0
  · extract_lets -merge s2
    have h2 : Kept im r₀ s2 := State.setGd_kept _ _ h0
    clear_value s2
    exact State.guardIrq_kept (State.bump_kept _ _ (State.bump_kept _ _ (State.begins_kept _ h2)))
theorem State.escalateDir_kept (ul) (hk : Kept im r₀ s) : Kept im r₀ (State.escalateDir s ul) := by
  unfold State.escalateDir
  extract_lets -merge x0 s1 s2
  have h1 : Kept im r₀ s1 := State.setGrd_kept _ hk
  have h2 : Kept im r₀ s2 := Kept.each h1 (fun t a h3 => (State.begins_kept _ h3))
  clear_value s1 s2
  exact Kept.ite hk (State.guardIrq_kept (State.putB_kept _ _ h2))
theorem State.escalateAll_kept (hk : Kept im r₀ s) : Kept im r₀ (State.escalateAll s) := by
  unfold State.escalateAll
  extract_lets -merge x0 x1 x2 s3 s4
  have h3 : Kept im r₀ s3 := State.setGrd_kept _ hk
  have h4 : Kept im r₀ s4 := Kept.each h3 (fun t a h5 => (State.begins_kept _ h5))
  clear_value s3 s4
  exact Kept.ite hk (State.guardIrq_kept (State.putB_kept _ _ h4))
theorem State.latch_kept (cause) (hk : Kept im r₀ s) : Kept im r₀ (State.latch s cause) := by
  unfold State.latch
  extract_lets -merge x0 x1 s2 s3 s4 x6 s7
  have h2 : Kept im r₀ s2 := State.put_kept _ _ (State.put_kept _ _ (State.putB_kept _ _ hk))
  have h3 : Kept im r₀ s3 := State.put_kept _ _ h2
  have h4 : Kept im r₀ s4 := Kept.each h3 (fun t a h5 => (State.put_kept _ _ h5))
  have h7 : Kept im r₀ s7 := State.setGrd_kept _ h4
  clear_value s2 s3 s4 s7
  exact Kept.ite hk (State.guardIrq_kept (State.emit_kept _ _ _ _ (Kept.each h7 (fun t a h8 => (State.begins_kept _ h8)))))
theorem State.escalateLatch_kept (hk : Kept im r₀ s) : Kept im r₀ (State.escalateLatch s) := by
  unfold State.escalateLatch
  extract_lets -merge x0 x1
  exact Kept.ite (State.tick_kept (State.latch_kept _ hk)) (Kept.ite (State.latch_kept _ hk) (Kept.ite (State.latch_kept _ hk) hk))
theorem State.muteEffect_kept (hk : Kept im r₀ s) : Kept im r₀ (State.muteEffect s) := by
  unfold State.muteEffect
  extract_lets -merge s1 s2 s3 s7
  have h1 : Kept im r₀ s1 := State.beginMutes_kept hk
  have h2 : Kept im r₀ s2 := State.escalateLatch_kept (State.escalateAll_kept (State.escalateDir_kept _ (State.escalateDir_kept _ h1)))
  have h3 : Kept im r₀ s3 := by
    unfold s3
    refine Kept.each h2 (fun t a h4 => ?_)
    extract_lets -merge s5 x6
    have h5 : Kept im r₀ s5 := Kept.ite (State.putB_kept _ _ h4) h4
    clear_value s5
    exact Kept.ite (State.putB_kept _ _ h5) h5
  have h7 : Kept im r₀ s7 := Kept.ite (State.guardIrq_kept h3) h3
  clear_value s1 s2 s3 s7
  exact State.guardMutesNow_kept (State.syncGuardAll_kept h7)
theorem execGuardMuteEffect_keeps (hk : Kept im r₀ s) : Keeps im r₀ (execGuardMuteEffect s) :=
  keeps_next (State.onceATurn_kept (State.at_kept _ hk) fun _ h => State.muteEffect_kept h)
theorem State.guardBoundarySlot_kept (sl) (hk : Kept im r₀ s) : Kept im r₀ (State.guardBoundarySlot s sl) := by
  unfold State.guardBoundarySlot
  extract_lets -merge x0 x1 x2 x3 x4 s5 s6 s7
  have h5 : Kept im r₀ s5 := State.setGd_kept _ _ hk
  have h6 : Kept im r₀ s6 := Kept.ite (State.guardIrq_kept (State.begins_kept _ h5)) h5
  have h7 : Kept im r₀ s7 := State.putB_kept _ _ h6
  clear_value s5 s6 s7
  exact Kept.ite (State.putB_kept _ _ h7) h7
theorem State.decideClear_kept (hk : Kept im r₀ s) : Kept im r₀ (State.decideClear s) := by
  unfold State.decideClear
  extract_lets -merge x0 s1 x2 x3 x4
  have h1 : Kept im r₀ s1 := State.setGrd_kept _ hk
  clear_value s1
  exact Kept.ite hk (Kept.ite h1 (Kept.ite (State.setGrd_kept _ (State.putB_kept _ _ h1)) (State.emit_kept _ _ _ _ (State.bump_kept _ _ h1))))
theorem State.guardBoundary_kept (hk : Kept im r₀ s) : Kept im r₀ (State.guardBoundary s) := by
  unfold State.guardBoundary
  extract_lets -merge s0
  have h0 : Kept im r₀ s0 := State.decideClear_kept hk
  clear_value s0
  exact State.syncGuardAll_kept (Kept.each h0 (fun t a h1 => (State.guardBoundarySlot_kept _ h1)))
theorem State.releaseSlot_kept (sl) (hk : Kept im r₀ s) : Kept im r₀ (State.releaseSlot s sl) := by
  unfold State.releaseSlot
  extract_lets -merge x0 x1 x2 s3 s4 s5 s6 s7 x8 s9
  have h3 : Kept im r₀ s3 := State.puti_kept _ _ hk
  have h4 : Kept im r₀ s4 := State.puti_kept _ _ h3
  have h5 : Kept im r₀ s5 := Kept.ite hk (Kept.ite (State.putB_kept _ _ h4) h4)
  have h6 : Kept im r₀ s6 := State.setGd_kept _ _ h5
  have h7 : Kept im r₀ s7 := State.guardIrq_kept (State.bump_kept _ _ (State.bump_kept _ _ (State.begins_kept _ h6)))
  have h9 : Kept im r₀ s9 := Kept.ite (State.startLane_kept _ _ _ _ _ h7) h7
  clear_value s3 s4 s5 s6 s7 s9
  exact h9
theorem State.releaseFrom_kept (before) (hk : Kept im r₀ s) : Kept im r₀ (State.releaseFrom s before) := by
  unfold State.releaseFrom
  extract_lets -merge x0 s1
  have h1 : Kept im r₀ s1 := State.syncGuardAll_kept (Kept.each hk (fun t a h2 => (State.releaseSlot_kept _ h2)))
  clear_value s1
  exact Kept.each h1 (fun t a h3 => (State.boundarySlot_kept _ h3))
theorem execGuardHoldExpiry_keeps (fc) (hk : Kept im r₀ s) : Keeps im r₀ (execGuardHoldExpiry fc s) := by
  unfold execGuardHoldExpiry
  extract_lets -merge s0 x1 s2 x7 x8 s9 s10 s11
  have h0 : Kept im r₀ s0 := State.at_kept _ hk
  have h2 : Kept im r₀ s2 := by
    unfold s2
    refine Kept.each h0 (fun t a h3 => ?_)
    extract_lets -merge x4 x5 x6
    exact State.setGd_kept _ _ h3
  have h9 : Kept im r₀ s9 := State.setGrd_kept _ h2
  have h10 : Kept im r₀ s10 := State.putB_kept _ _ (State.putB_kept _ _ h9)
  have h11 : Kept im r₀ s11 := State.putB_kept _ _ h10
  clear_value s0 s2 s9 s10 s11
  exact keeps_next (State.releaseFrom_kept _ h11)
theorem State.leaveCleared_kept (hk : Kept im r₀ s) : Kept im r₀ (State.leaveCleared s) := by
  unfold State.leaveCleared
  extract_lets -merge x0 x1 s2 s3
  have h2 : Kept im r₀ s2 := State.setGrd_kept _ hk
  have h3 : Kept im r₀ s3 := by
    unfold s3
    refine Kept.each h2 (fun t a h4 => ?_)
    extract_lets -merge x5
    exact State.setGd_kept _ _ h4
  clear_value s2 s3
  exact Kept.ite hk (State.releaseFrom_kept _ h3)
theorem execGrdLatchClear_keeps (fc) (hk : Kept im r₀ s) : Keeps im r₀ (execGrdLatchClear fc s) := by
  unfold execGrdLatchClear
  extract_lets -merge s0 x1
  have h0 : Kept im r₀ s0 := State.at_kept _ hk
  clear_value s0
  exact keeps_next (Kept.ite (State.setGrd_kept _ h0) h0)
theorem State.guardOverrun_kept (sl) (hk : Kept im r₀ s) : Kept im r₀ (State.guardOverrun s sl) := by
  unfold State.guardOverrun
  extract_lets -merge x0 x1
  exact State.setGd_kept _ _ hk
theorem State.killLive_kept (hk : Kept im r₀ s) : Kept im r₀ (State.killLive s) := by
  unfold State.killLive
  exact State.live_kept _ _ (State.putB_kept _ _ (State.putB_kept _ _ hk))

end Sys2Proof.Machine
end

