-- ==== Sys2Proof/Laws/KeptGauge.lean ====
section
/-! SUPPORT. The operations and meanings of Machine/Gauge.lean keep what their argument keeps (Laws/Frame.lean). -/
namespace Sys2Proof.Machine

variable {im : Bool} {r₀ s : State}

theorem State.setGau_kept (n x) (hk : Kept im r₀ s) : Kept im r₀ (State.setGau s n x) := by
  unfold State.setGau
  exact hk.to rfl
theorem State.syncGau_kept (n) (hk : Kept im r₀ s) : Kept im r₀ (State.syncGau s n) := by
  unfold State.syncGau
  extract_lets -merge x0 x1 s2 s3
  have h2 : Kept im r₀ s2 := State.put_kept _ _ hk
  have h3 : Kept im r₀ s3 := State.putBit_kept _ _ _ h2
  clear_value s2 s3
  exact State.putBit_kept _ _ _ h3
theorem State.convStart_kept (n e t) (hk : Kept im r₀ s) : Kept im r₀ (State.convStart s n e t) := by
  unfold State.convStart
  extract_lets -merge x0 x1 x2 x3 s4
  have h4 : Kept im r₀ s4 := State.setGau_kept _ _ hk
  clear_value s4
  exact State.put_kept _ _ h4
theorem State.seqStart_kept (n) (hk : Kept im r₀ s) : Kept im r₀ (State.seqStart s n) := by
  unfold State.seqStart
  extract_lets -merge x0 s1
  have h1 : Kept im r₀ s1 := Kept.ite (Kept.each hk (fun t a h2 => (State.put_kept _ _ h2))) hk
  clear_value s1
  exact State.syncGau_kept _ (State.convStart_kept _ _ _ (State.setGau_kept _ _ h1))
theorem execGaugeTrigger_keeps (fc n) (hk : Kept im r₀ s) : Keeps im r₀ (execGaugeTrigger fc n s) := by
  unfold execGaugeTrigger
  extract_lets -merge s0 x1 x2 f3
  have h0 : Kept im r₀ s0 := State.at_kept _ hk
  have h3 : ∀ a0, Kept im r₀ a0 → Kept im r₀ (f3 a0) := by
    intro a0 ha
    unfold f3
    extract_lets -merge s4 x5
    have h4 : Kept im r₀ s4 := State.setGau_kept _ _ ha
    clear_value s4
    exact Kept.ite h4 (Kept.ite (State.bump_kept _ _ h4) (State.syncGau_kept _ (State.setGau_kept _ _ h4)))
  clear_value s0 f3
  exact keeps_okIf (Kept.ite (h3 _ h0) h0)
theorem execGaugeDelayEnd_keeps (fc n) (hk : Kept im r₀ s) : Keeps im r₀ (execGaugeDelayEnd fc n s) := by
  unfold execGaugeDelayEnd
  extract_lets -merge s0 x1
  have h0 : Kept im r₀ s0 := State.at_kept _ hk
  clear_value s0
  refine keeps_okIf ?_
  split
  · exact Kept.ite h0 (Kept.ite (State.syncGau_kept _ (State.bump_kept _ _ (State.setGau_kept _ _ h0))) (Kept.ite (State.setGau_kept _ _ h0)
      (State.seqStart_kept _ h0)))
  · exact h0
theorem State.loopSample_kept (n e sum k ovr) (hk : Kept im r₀ s) : Kept im r₀ (State.loopSample s n e sum k ovr) := by
  unfold State.loopSample
  extract_lets -merge x0 x1
  exact hk.to rfl
theorem State.accumulate_kept (n e code ovr settling) (hk : Kept im r₀ s) : Kept im r₀ (State.accumulate s n e code ovr settling) := by
  unfold State.accumulate
  extract_lets -merge x0 x1 x2 s3 s4
  have h3 : Kept im r₀ s3 := State.setGau_kept _ _ hk
  have h4 : Kept im r₀ s4 := Kept.ite (State.putB_kept _ _ h3) h3
  clear_value s3 s4
  split
  · split
    · extract_lets -merge s5 s6 s7
      have h5 : Kept im r₀ s5 := State.putB_kept _ _ (State.putB_kept _ _ (State.put_kept _ _ h4))
      have h6 : Kept im r₀ s6 := State.put_kept _ _ (State.put_kept _ _ (State.putB_kept _ _ h5))
      have h7 : Kept im r₀ s7 := State.put_kept _ _ h6
      clear_value s5 s6 s7
      exact Kept.ite (State.put_kept _ _ (State.setGau_kept _ _ hk)) (State.loopSample_kept _ _ _ _ _ h7)
theorem State.window_kept (n e code ovr) (hk : Kept im r₀ s) : Kept im r₀ (State.window s n e code ovr) := by
  unfold State.window
  extract_lets -merge x0
  refine Kept.ite hk ?_
  split
  · extract_lets -merge s1 x2 s3
    have h1 : Kept im r₀ s1 := State.put_kept _ _ hk
    have h3 : Kept im r₀ s3 := Kept.ite (State.putBit_kept _ _ _ h1) h1
    clear_value s1 s3
    exact Kept.ite (State.irq_kept _ h3) h3
theorem State.syncGauOvr_kept (hk : Kept im r₀ s) : Kept im r₀ (State.syncGauOvr s) := by
  unfold State.syncGauOvr
  exact State.live_kept _ _ hk
theorem State.gauResult_kept (n e code ovr settling) (hk : Kept im r₀ s) : Kept im r₀ (State.gauResult s n e code ovr settling) := by
  unfold State.gauResult
  extract_lets -merge s0 s1 s2 s3
  have h0 : Kept im r₀ s0 := State.accumulate_kept _ _ _ _ _ hk
  have h1 : Kept im r₀ s1 := State.put_kept _ _ (State.put_kept _ _ h0)
  have h2 : Kept im r₀ s2 := State.window_kept _ _ _ _ h1
  have h3 : Kept im r₀ s3 := Kept.ite (State.raise_kept _ h2) h2
  clear_value s0 s1 s2 s3
  exact State.syncGauOvr_kept (State.putB_kept _ _ (State.putB_kept _ _ h3))
theorem execConversionEnd_keeps (fc n v) (hk : Kept im r₀ s) : Keeps im r₀ (execConversionEnd fc n v s) := by
  unfold execConversionEnd
  extract_lets -merge s0 x1 f2 s4
  have h0 : Kept im r₀ s0 := State.at_kept _ hk
  have h2 : ∀ a0 a1, Kept im r₀ a0 → Kept im r₀ (f2 a0 a1) := by
    intro a0 a1 ha
    unfold f2
    split
    · extract_lets -merge s3
      have h3 : Kept im r₀ s3 := State.setGau_kept _ _ ha
      clear_value s3
      exact Kept.ite h3 (State.gauResult_kept _ _ _ _ _ h3)
  have h4 : Kept im r₀ s4 := State.setGau_kept _ _ h0
  clear_value s0 f2 s4
  refine keeps_okIf ?_
  refine Kept.ite h0 ?_
  split
  · extract_lets -merge s5 x6 s7
    have h5 : Kept im r₀ s5 := h2 _ _ h0
    have h7 : Kept im r₀ s7 := State.setGau_kept _ _ h5
    clear_value s5 s7
    exact Kept.ite (State.seqStart_kept _ h7) (State.syncGau_kept _ h7)
  · refine Kept.ite (Kept.ite (State.seqStart_kept _ h4) (State.syncGau_kept _ h4)) ?_
    split
    · extract_lets -merge s8 x9 x10
      have h8 : Kept im r₀ s8 := h2 _ _ h0
      clear_value s8
      exact Kept.ite (State.syncGau_kept _ (State.convStart_kept _ _ _ (State.setGau_kept _ _ h8))) (State.syncGau_kept _ (State.setGau_kept _ _ h8))
    · exact h0
theorem State.injDrop_kept (n) (hk : Kept im r₀ s) : Kept im r₀ (State.injDrop s n) := by
  unfold State.injDrop
  exact State.raise_kept _ (State.bump_kept _ _ hk)
theorem State.inject_kept (n e) (hk : Kept im r₀ s) : Kept im r₀ (State.inject s n e) := by
  unfold State.inject
  extract_lets -merge x0
  exact Kept.ite (State.injDrop_kept _ hk) (Kept.ite hk (Kept.ite (State.injDrop_kept _ hk) (State.syncGau_kept _ (State.convStart_kept _ _ _
      (State.setGau_kept _ _ hk)))))
theorem execInjGo_keeps (fc n e) (hk : Kept im r₀ s) : Keeps im r₀ (execInjGo fc n e s) := by
  unfold execInjGo
  extract_lets -merge s0
  have h0 : Kept im r₀ s0 := State.at_kept _ hk
  clear_value s0
  exact keeps_okIf (State.inject_kept _ _ (State.put_kept _ _ h0))
theorem State.gauCal_kept (n start) (hk : Kept im r₀ s) : Kept im r₀ (State.gauCal s n start) := by
  unfold State.gauCal
  extract_lets -merge x0 s1
  have h1 : Kept im r₀ s1 := State.setGau_kept _ _ hk
  clear_value s1
  exact Kept.ite hk (State.syncGau_kept _ (Kept.ite (State.injDrop_kept _ h1) h1))
theorem execSelfCal_keeps (fc n) (hk : Kept im r₀ s) : Keeps im r₀ (execSelfCal fc n s) := by
  unfold execSelfCal
  extract_lets -merge s0
  have h0 : Kept im r₀ s0 := State.at_kept _ hk
  clear_value s0
  exact keeps_okIf (Kept.ite (State.gauCal_kept _ _ h0) h0)
theorem State.gauCalAll_kept (hk : Kept im r₀ s) : Kept im r₀ (State.gauCalAll s) := by
  unfold State.gauCalAll
  exact Kept.each hk (fun t a h0 => (State.gauCal_kept _ _ h0))
theorem execGaugeSelfCalEnd_keeps (fc n offset gain) (hk : Kept im r₀ s) : Keeps im r₀ (execGaugeSelfCalEnd fc n offset gain s) := by
  unfold execGaugeSelfCalEnd
  extract_lets -merge s0 x1 x2 f3
  have h0 : Kept im r₀ s0 := State.at_kept _ hk
  have h3 : ∀ a0, Kept im r₀ a0 → Kept im r₀ (f3 a0) := by
    intro a0 ha
    unfold f3
    extract_lets -merge s4 s5 s6
    have h4 : Kept im r₀ s4 := State.syncGau_kept _ (State.setGau_kept _ _ ha)
    have h5 : Kept im r₀ s5 := State.putB_kept _ _ (State.put_kept _ _ (State.puti_kept _ _ h4))
    have h6 : Kept im r₀ s6 := Kept.ite (State.putB_kept _ _ (State.putBit_kept _ _ _ h5)) (State.raise_kept _ (State.putB_kept _ _ h4))
    clear_value s4 s5 s6
    exact State.live_kept _ _ h6
  clear_value s0 f3
  refine keeps_okIf ?_
  split
  · exact Kept.ite (h3 _ h0) h0
  · exact h0
theorem State.clearEntry_kept (n i) (hk : Kept im r₀ s) : Kept im r₀ (State.clearEntry s n i) := by
  unfold State.clearEntry
  exact Kept.each hk (fun t a h0 => (State.put_kept _ _ h0))
theorem State.gaugeSwap_kept (old) (hk : Kept im r₀ s) : Kept im r₀ (State.gaugeSwap s old) := by
  unfold State.gaugeSwap
  extract_lets -merge s0
  have h0 : Kept im r₀ s0 := by
    unfold s0
    refine Kept.each hk (fun t a h1 => ?_)
    extract_lets -merge x2 s3
    have h3 : Kept im r₀ s3 := State.setGau_kept _ _ h1
    clear_value s3
    exact Kept.ite h1 (State.syncGau_kept _ (Kept.each h3 (fun t a h4 => (State.clearEntry_kept _ _ h4))))
  clear_value s0
  exact State.syncGauOvr_kept h0
theorem State.gauHold_kept (hk : Kept im r₀ s) : Kept im r₀ (State.gauHold s) := by
  unfold State.gauHold
  extract_lets -merge s0 s6
  have h0 : Kept im r₀ s0 := by
    unfold s0
    refine Kept.each hk (fun t a h1 => ?_)
    extract_lets -merge s2 s4
    have h2 : Kept im r₀ s2 := Kept.each h1 (fun t a h3 => (State.clearEntry_kept _ _ h3))
    have h4 : Kept im r₀ s4 := Kept.each h2 (fun t a h5 => (State.put_kept _ _ h5))
    clear_value s2 s4
    exact State.setGau_kept _ _ h4
  have h6 : Kept im r₀ s6 := Kept.each h0 (fun t a h7 => (State.put_kept _ _ h7))
  clear_value s0 s6
  exact State.live_kept _ _ (State.live_kept _ _ h6)

end Sys2Proof.Machine
end

