-- ==== Sys2Proof/Laws/KeptPwm.lean ====
section
/-! SUPPORT. The operations and meanings of Machine/Pwm.lean keep what their argument keeps (Laws/Frame.lean). -/
namespace Sys2Proof.Machine

variable {im : Bool} {r₀ s : State}

theorem State.setOut_kept (o x) (hk : Kept im r₀ s) : Kept im r₀ (State.setOut s o x) := by
  unfold State.setOut
  extract_lets -merge x0
  exact State.setPwm_kept _ hk
theorem State.setPwmPair_kept (n x) (hk : Kept im r₀ s) : Kept im r₀ (State.setPwmPair s n x) := by
  unfold State.setPwmPair
  extract_lets -merge x0
  exact State.setPwm_kept _ hk
theorem State.level_kept (o b) (hk : Kept im r₀ s) : Kept im r₀ (State.level s o b) := by
  unfold State.level
  extract_lets -merge x0
  exact Kept.ite (State.setOut_kept _ _ hk) (State.setOut_kept _ _ hk)
theorem State.settleFall_kept (o) (hk : Kept im r₀ s) : Kept im r₀ (State.settleFall s o) := by
  unfold State.settleFall
  extract_lets -merge x0
  split
  · exact Kept.ite hk (State.setOut_kept _ _ hk)
  · exact hk
theorem State.fallAt_kept (o t) (hk : Kept im r₀ s) : Kept im r₀ (State.fallAt s o t) := by
  unfold State.fallAt
  extract_lets -merge x0 x1
  exact Kept.ite (State.settleFall_kept _ (State.setOut_kept _ _ hk)) (State.setOut_kept _ _ hk)
theorem State.settleFalls_kept (hk : Kept im r₀ s) : Kept im r₀ (State.settleFalls s) := by
  unfold State.settleFalls
  exact Kept.each hk (fun t a h0 => (State.settleFall_kept _ h0))
theorem State.settleRise_kept (o) (hk : Kept im r₀ s) : Kept im r₀ (State.settleRise s o) := by
  unfold State.settleRise
  extract_lets -merge s0 x1
  have h0 : Kept im r₀ s0 := State.settleFall_kept _ hk
  clear_value s0
  split
  · exact Kept.ite h0 (Kept.ite (State.setOut_kept _ _ h0) (State.level_kept _ _ h0))
  · exact h0
theorem State.riseAt_kept (o t) (hk : Kept im r₀ s) : Kept im r₀ (State.riseAt s o t) := by
  unfold State.riseAt
  extract_lets -merge x0
  exact Kept.ite hk (State.settleRise_kept _ (State.setOut_kept _ _ hk))
theorem State.drive_kept (o) (hk : Kept im r₀ s) : Kept im r₀ (State.drive s o) := by
  unfold State.drive
  refine Kept.ite (State.level_kept _ _ hk) ?_
  refine Kept.ite (State.level_kept _ _ hk) ?_
  refine Kept.ite (State.level_kept _ _ hk) ?_
  refine Kept.ite hk ?_
  refine Kept.ite (State.level_kept _ _ hk) ?_
  refine Kept.ite (State.level_kept _ _ hk) ?_
  split
  · exact State.level_kept _ _ hk
  · exact State.riseAt_kept _ _ hk
  · exact hk
theorem State.driveAll_kept (hk : Kept im r₀ s) : Kept im r₀ (State.driveAll s) := by
  unfold State.driveAll
  extract_lets -merge s0 s2 s4
  have h0 : Kept im r₀ s0 := Kept.each hk (fun t a h1 => (State.drive_kept _ h1))
  have h2 : Kept im r₀ s2 := Kept.each h0 (fun t a h3 => (State.drive_kept _ h3))
  have h4 : Kept im r₀ s4 := State.put_kept _ _ h2
  clear_value s0 s2 s4
  exact State.live_kept _ _ h4
theorem State.pRise_kept (n notBefore) (hk : Kept im r₀ s) : Kept im r₀ (State.pRise s n notBefore) := by
  unfold State.pRise
  extract_lets -merge x0 s1 x2 x3 x4 s5 x6 s7
  have h1 : Kept im r₀ s1 := State.setPwmPair_kept _ _ hk
  have h5 : Kept im r₀ s5 := Kept.ite (State.fallAt_kept _ _ h1) h1
  have h7 : Kept im r₀ s7 := State.setOut_kept _ _ h5
  clear_value s1 s5 s7
  exact Kept.ite h5 (State.riseAt_kept _ _ h7)
theorem State.pFall_kept (n) (hk : Kept im r₀ s) : Kept im r₀ (State.pFall s n) := by
  unfold State.pFall
  extract_lets -merge x0 x1 s2 x3 x4 s5 x6 s7
  have h2 : Kept im r₀ s2 := State.setPwmPair_kept _ _ hk
  have h5 : Kept im r₀ s5 := Kept.ite (State.fallAt_kept _ _ h2) h2
  have h7 : Kept im r₀ s7 := State.setOut_kept _ _ h5
  clear_value s2 s5 s7
  exact Kept.ite h5 (Kept.ite h7 (State.riseAt_kept _ _ h7))
theorem State.pwmIrqEvent_kept (hk : Kept im r₀ s) : Kept im r₀ (State.pwmIrqEvent s) := by
  unfold State.pwmIrqEvent
  extract_lets -merge x0 x1 x2 s3
  have h3 : Kept im r₀ s3 := State.setPwm_kept _ hk
  clear_value s3
  exact Kept.ite (State.setPwm_kept _ hk) (Kept.ite (State.bump_kept _ _ (State.putB_kept _ _ h3)) (State.irq_kept _ (State.putB_kept _ _ h3)))
theorem State.lineEvent_kept (l) (hk : Kept im r₀ s) : Kept im r₀ (State.lineEvent s l) := by
  unfold State.lineEvent
  extract_lets -merge x0
  split
  · exact State.bump_kept _ _ hk
  · extract_lets -merge x1
    exact State.setPwm_kept _ hk
theorem State.pwmEvent_kept (kind pair) (hk : Kept im r₀ s) : Kept im r₀ (State.pwmEvent s kind pair) := by
  unfold State.pwmEvent
  extract_lets -merge x0 x1 s2 x3
  have h2 : Kept im r₀ s2 := Kept.ite (State.pwmIrqEvent_kept hk) hk
  clear_value s2
  exact Kept.each h2 (fun t a h4 => (State.lineEvent_kept _ h4))
theorem execPwmTriggerLine_keeps (fc l) (hk : Kept im r₀ s) : Keeps im r₀ (execPwmTriggerLine fc l s) := by
  unfold execPwmTriggerLine
  extract_lets -merge s0 x1
  have h0 : Kept im r₀ s0 := State.at_kept _ hk
  clear_value s0
  refine keeps_okIf ?_
  split
  · extract_lets -merge s2 x3 s4
    have h2 : Kept im r₀ s2 := State.setPwm_kept _ h0
    have h4 : Kept im r₀ s4 := State.setPwm_kept _ h2
    clear_value s2 s4
    refine Kept.ite h0 ?_
    refine Kept.ite h2 ?_
    refine Kept.each h4 (fun t a h5 => ?_)
    extract_lets -merge x6
    exact Kept.ite (State.setGau_kept _ _ h5) h5
  · exact h0
theorem State.useCfg_kept (l) (hk : Kept im r₀ s) : Kept im r₀ (State.useCfg s l) := by
  unfold State.useCfg
  refine Kept.each hk (fun t a h0 => ?_)
  extract_lets -merge x1 x2
  exact State.setPwmPair_kept _ _ h0
theorem State.takeCfg_kept (hk : Kept im r₀ s) : Kept im r₀ (State.takeCfg s) := by
  unfold State.takeCfg
  exact State.useCfg_kept _ hk
theorem State.pwmSample_kept (q) (hk : Kept im r₀ s) : Kept im r₀ (State.pwmSample s q) := by
  unfold State.pwmSample
  extract_lets -merge x0
  exact Kept.ite hk (State.setPwm_kept _ hk)
theorem State.clampPair_kept (n) (hk : Kept im r₀ s) : Kept im r₀ (State.clampPair s n) := by
  unfold State.clampPair
  extract_lets -merge x0 x1 x2 x3 s4 s5
  have h4 : Kept im r₀ s4 := State.setPwmPair_kept _ _ hk
  have h5 : Kept im r₀ s5 := State.put_kept _ _ (State.put_kept _ _ h4)
  clear_value s4 s5
  exact Kept.ite h4 (State.bump_kept _ _ (State.putBit_kept _ _ _ h5))
theorem State.pwmLoad_kept (hk : Kept im r₀ s) : Kept im r₀ (State.pwmLoad s) := by
  unfold State.pwmLoad
  extract_lets -merge x0 x1 x2 s3 s4 x5 s6 s7 s12
  have h3 : Kept im r₀ s3 := State.put_kept _ _ (State.setPwm_kept _ hk)
  have h4 : Kept im r₀ s4 := State.useCfg_kept _ h3
  have h6 : Kept im r₀ s6 := Kept.ite (State.put_kept _ _ h4) h4
  have h7 : Kept im r₀ s7 := by
    unfold s7
    refine Kept.each h6 (fun t a h8 => ?_)
    extract_lets -merge x9 s10
    have h10 : Kept im r₀ s10 := State.setPwmPair_kept _ _ h8
    clear_value s10
    exact Kept.each h10 (fun t a h11 => (State.put_kept _ _ h11))
  have h12 : Kept im r₀ s12 := by
    unfold s12
    refine Kept.ite h7 ?_
    refine Kept.each h7 (fun t a h13 => ?_)
    extract_lets -merge x14
    exact State.setPwmPair_kept _ _ h13
  clear_value s3 s4 s6 s7 s12
  exact Kept.ite h4 (Kept.each h12 (fun t a h15 => (State.clampPair_kept _ h15)))
theorem State.periodStart_kept (n) (hk : Kept im r₀ s) : Kept im r₀ (State.periodStart s n) := by
  unfold State.periodStart
  extract_lets -merge x0 x1 x2 x3 x4 s5 s6 x7 x8 x9 s10 x11 x12 x13 s14
  have h5 : Kept im r₀ s5 := Kept.ite hk (State.bump_kept _ _ (State.putBit_kept _ _ _ hk))
  have h6 : Kept im r₀ s6 := State.setPwmPair_kept _ _ h5
  have h10 : Kept im r₀ s10 := State.setPwm_kept _ h6
  have h14 : Kept im r₀ s14 := Kept.ite (State.level_kept _ _ h10) h10
  clear_value s5 s6 s10 s14
  exact Kept.ite (Kept.ite h10 (State.pRise_kept _ _ h10)) (Kept.ite (State.pFall_kept _ h10) (Kept.ite (Kept.ite h14 (State.level_kept _ _ h14))
      (Kept.ite (State.riseAt_kept _ _ h14) h14)))
theorem State.endTrips_kept (hk : Kept im r₀ s) : Kept im r₀ (State.endTrips s) := by
  unfold State.endTrips
  extract_lets -merge x0 x1 s2 s3
  have h2 : Kept im r₀ s2 := State.setPwm_kept _ hk
  have h3 : Kept im r₀ s3 := by
    unfold s3
    refine Kept.each h2 (fun t a h4 => ?_)
    extract_lets -merge x5
    exact State.setOut_kept _ _ h4
  clear_value s2 s3
  exact State.driveAll_kept h3
theorem State.pwmIdle_kept (hk : Kept im r₀ s) : Kept im r₀ (State.pwmIdle s) := by
  unfold State.pwmIdle
  refine Kept.each hk (fun t a h0 => ?_)
  extract_lets -merge x1
  exact State.setPwmPair_kept _ _ h0
theorem execCarrierZero_keeps (fc) (hk : Kept im r₀ s) : Keeps im r₀ (execCarrierZero fc s) := by
  unfold execCarrierZero
  extract_lets -merge s0 s1 x2 x3 s4 x5 x6 x7 x8 x9 s10 s11
  have h0 : Kept im r₀ s0 := State.at_kept _ hk
  have h1 : Kept im r₀ s1 := State.pwmLoad_kept (State.endTrips_kept (State.useCfg_kept _ (State.settleFalls_kept h0)))
  have h4 : Kept im r₀ s4 := State.setPwm_kept _ h1
  have h10 : Kept im r₀ s10 := State.setPwm_kept _ h4
  have h11 : Kept im r₀ s11 := by
    unfold s11
    refine Kept.each h10 (fun t a h12 => ?_)
    extract_lets -merge x13
    exact Kept.ite (State.periodStart_kept _ h12) (State.setPwmPair_kept _ _ h12)
  clear_value s0 s1 s4 s10 s11
  exact Keeps.ite (keeps_next h0) (Keeps.ite (keeps_next (State.putB_kept _ _ (State.pwmIdle_kept (State.setPwm_kept _ h4)))) (keeps_next
      (State.pwmEvent_kept _ _ (State.driveAll_kept h11))))
theorem execCarrierTop_keeps (fc) (hk : Kept im r₀ s) : Keeps im r₀ (execCarrierTop fc s) := by
  unfold execCarrierTop
  extract_lets -merge s0 x1
  have h0 : Kept im r₀ s0 := State.at_kept _ hk
  clear_value s0
  split
  · exact Keeps.ite (keeps_next h0) (keeps_next (State.pwmEvent_kept _ _ (State.setPwm_kept _ h0)))
  · exact keeps_next h0
theorem execCompareMatch_keeps (fc n isB) (hk : Kept im r₀ s) : Keeps im r₀ (execCompareMatch fc n isB s) := by
  unfold execCompareMatch
  extract_lets -merge s0 x1
  have h0 : Kept im r₀ s0 := State.at_kept _ hk
  clear_value s0
  refine keeps_okIf ?_
  split
  · exact h0
  · extract_lets -merge s2 x3 s4 s5
    have h2 : Kept im r₀ s2 := State.setPwm_kept _ h0
    have h4 : Kept im r₀ s4 := State.settleFalls_kept h2
    have h5 : Kept im r₀ s5 := Kept.ite h4 (Kept.ite (State.pFall_kept _ h4) (State.pRise_kept _ _ h4))
    clear_value s2 s4 s5
    exact Kept.ite h0 (Kept.ite (State.pwmEvent_kept _ _ h5) h5)
theorem execDeadTimeEnd_keeps (fc o) (hk : Kept im r₀ s) : Keeps im r₀ (execDeadTimeEnd fc o s) := by
  unfold execDeadTimeEnd
  extract_lets -merge s0
  have h0 : Kept im r₀ s0 := State.at_kept _ hk
  clear_value s0
  exact keeps_okIf (State.settleRise_kept _ (State.settleFall_kept _ h0))
theorem State.settleMask_kept (o) (hk : Kept im r₀ s) : Kept im r₀ (State.settleMask s o) := by
  unfold State.settleMask
  extract_lets -merge x0 x1 s2
  have h2 : Kept im r₀ s2 := State.setOut_kept _ _ hk
  clear_value s2
  split
  · exact Kept.ite hk (Kept.ite (State.setOut_kept _ _ hk) (State.drive_kept _ (State.drive_kept _ h2)))
  · exact hk
theorem State.unmask_kept (o) (hk : Kept im r₀ s) : Kept im r₀ (State.unmask s o) := by
  unfold State.unmask
  extract_lets -merge x0 x1 s2 x3
  have h2 : Kept im r₀ s2 := State.setOut_kept _ _ hk
  clear_value s2
  exact Kept.ite (State.setOut_kept _ _ h2) h2
theorem State.setMask_kept (m on) (hk : Kept im r₀ s) : Kept im r₀ (State.setMask s m on) := by
  unfold State.setMask
  extract_lets -merge s0 x1
  have h0 : Kept im r₀ s0 := State.putBit_kept _ _ _ hk
  clear_value s0
  refine Kept.ite hk ?_
  refine Kept.ite ?_ (Kept.each h0 (fun t a h4 => (State.unmask_kept _ h4)))
  refine Kept.each h0 (fun t a h2 => ?_)
  extract_lets -merge x3
  exact State.settleMask_kept _ (State.setOut_kept _ _ h2)
theorem execMinIntervalReached_keeps (fc o) (hk : Kept im r₀ s) : Keeps im r₀ (execMinIntervalReached fc o s) := by
  unfold execMinIntervalReached
  extract_lets -merge s0
  have h0 : Kept im r₀ s0 := State.at_kept _ hk
  clear_value s0
  exact keeps_okIf (State.settleRise_kept _ (State.settleMask_kept _ h0))
theorem execTripActive_keeps (fc k) (hk : Kept im r₀ s) : Keeps im r₀ (execTripActive fc k s) := by
  unfold execTripActive
  extract_lets -merge s0 f1
  have h0 : Kept im r₀ s0 := State.at_kept _ hk
  have h1 : ∀ a0, Kept im r₀ a0 → Kept im r₀ (f1 a0) := by
    intro a0 ha
    unfold f1
    extract_lets -merge s2 s3 s4 x5
    have h2 : Kept im r₀ s2 := State.putBit_kept _ _ _ (State.putBit_kept _ _ _ ha)
    have h3 : Kept im r₀ s3 := State.raise_kept _ (State.put_kept _ _ h2)
    have h4 : Kept im r₀ s4 := Kept.ite (State.putBit_kept _ _ _ h3) h3
    clear_value s2 s3 s4
    exact State.driveAll_kept (State.setPwm_kept _ h4)
  clear_value s0 f1
  exact keeps_okIf (Kept.ite h0 (h1 _ h0))
theorem execTripInactive_keeps (fc k) (hk : Kept im r₀ s) : Keeps im r₀ (execTripInactive fc k s) := by
  unfold execTripInactive
  extract_lets -merge s0
  have h0 : Kept im r₀ s0 := State.at_kept _ hk
  clear_value s0
  exact keeps_okIf (State.driveAll_kept (State.putBit_kept _ _ _ h0))
theorem execTripClear_keeps (fc m) (hk : Kept im r₀ s) : Keeps im r₀ (execTripClear fc m s) := by
  unfold execTripClear
  extract_lets -merge s0
  have h0 : Kept im r₀ s0 := State.at_kept _ hk
  clear_value s0
  exact keeps_next (State.driveAll_kept (Kept.each h0 (fun t a h1 => (Kept.ite (State.bump_kept _ _ h1) (State.putBit_kept _ _ _ h1)))))
theorem State.arm_kept (m) (hk : Kept im r₀ s) : Kept im r₀ (State.arm s m) := by
  unfold State.arm
  extract_lets -merge x0
  exact State.setPwm_kept _ (State.put_kept _ _ hk)
theorem execLoadAll_keeps (fc m) (hk : Kept im r₀ s) : Keeps im r₀ (execLoadAll fc m s) := by
  unfold execLoadAll
  extract_lets -merge s0 x1 s2
  have h0 : Kept im r₀ s0 := State.pwmSample_kept _ (State.at_kept _ hk)
  have h2 : Kept im r₀ s2 := Kept.each h0 (fun t a h3 => (State.bump_kept _ _ h3))
  clear_value s0 s2
  exact keeps_next (State.arm_kept _ h2)
theorem State.pwmStart_kept (hk : Kept im r₀ s) : Kept im r₀ (State.pwmStart s) := by
  unfold State.pwmStart
  extract_lets -merge s0 x1
  have h0 : Kept im r₀ s0 := State.putB_kept _ _ (State.takeCfg_kept hk)
  clear_value s0
  exact State.driveAll_kept (State.pwmIdle_kept (State.setPwm_kept _ h0))
theorem State.pwmStandby_kept (hk : Kept im r₀ s) : Kept im r₀ (State.pwmStandby s) := by
  unfold State.pwmStandby
  extract_lets -merge x0
  exact State.driveAll_kept (State.setPwm_kept _ hk)
theorem State.pwmClockLoss_kept (hk : Kept im r₀ s) : Kept im r₀ (State.pwmClockLoss s) := by
  unfold State.pwmClockLoss
  exact State.driveAll_kept (State.putB_kept _ _ (State.putB_kept _ _ (State.freezePwm_kept hk)))
theorem State.pwmClockBack_kept (hk : Kept im r₀ s) : Kept im r₀ (State.pwmClockBack s) := by
  unfold State.pwmClockBack
  extract_lets -merge x0 s1 x2 s3 s4
  have h1 : Kept im r₀ s1 := State.putB_kept _ _ (State.putB_kept _ _ hk)
  have h3 : Kept im r₀ s3 := State.setPwm_kept _ h1
  have h4 : Kept im r₀ s4 := State.pwmIdle_kept h3
  clear_value s1 s3 s4
  refine Kept.ite hk ?_
  refine State.driveAll_kept ?_
  refine Kept.each h4 (fun t a h5 => ?_)
  extract_lets -merge x6
  exact State.setOut_kept _ _ h5
theorem State.pwmSwap_kept (old) (hk : Kept im r₀ s) : Kept im r₀ (State.pwmSwap s old) := by
  unfold State.pwmSwap
  extract_lets -merge x0 s1 s2 s3 s8 s14
  have h1 : Kept im r₀ s1 := State.pwmSample_kept _ hk
  have h2 : Kept im r₀ s2 := Kept.ite h1 (State.arm_kept _ (State.put_kept _ _ h1))
  have h3 : Kept im r₀ s3 := by
    unfold s3
    refine Kept.each h2 (fun t a h4 => ?_)
    extract_lets -merge x5 x6
    exact Kept.ite (State.arm_kept _ (Kept.each h4 (fun t a h7 => (State.put_kept _ _ h7)))) h4
  have h8 : Kept im r₀ s8 := by
    unfold s8
    refine Kept.each h3 (fun t a h9 => ?_)
    extract_lets -merge s10 x11 s12
    have h10 : Kept im r₀ s10 := State.putBit_kept _ _ _ h9
    have h12 : Kept im r₀ s12 := State.setPwm_kept _ h10
    clear_value s10 s12
    exact Kept.ite (Kept.each h12 (fun t a h13 => (State.unmask_kept _ h13))) h9
  have h14 : Kept im r₀ s14 := by
    unfold s14
    refine Kept.each h8 (fun t a h15 => ?_)
    extract_lets -merge x16
    exact Kept.ite (State.setPwm_kept _ h15) h15
  clear_value s1 s2 s3 s8 s14
  exact State.driveAll_kept (Kept.ite h14 (State.takeCfg_kept h14))
theorem State.pwmBoundary_kept (hk : Kept im r₀ s) : Kept im r₀ (State.pwmBoundary s) := by
  unfold State.pwmBoundary
  extract_lets -merge x0
  exact State.setPwm_kept _ (State.put_kept _ _ hk)

end Sys2Proof.Machine
end

