-- ==== Sys2Proof/Laws/KeptControl.lean ====
section
/-! SUPPORT. The operations and meanings of Machine/Control.lean keep what their argument keeps (Laws/Frame.lean). -/
namespace Sys2Proof.Machine

variable {im : Bool} {r₀ s : State}

theorem State.setCtl_kept (c) (hk : Kept im r₀ s) : Kept im r₀ (State.setCtl s c) := by
  unfold State.setCtl
  exact hk.to rfl
theorem State.setLoop_kept (n l) (hk : Kept im r₀ s) : Kept im r₀ (State.setLoop s n l) := by
  unfold State.setLoop
  extract_lets -merge x0
  exact State.setCtl_kept _ hk
theorem State.syncLoops_kept (hk : Kept im r₀ s) : Kept im r₀ (State.syncLoops s) := by
  unfold State.syncLoops
  extract_lets -merge s0
  have h0 : Kept im r₀ s0 := by
    unfold s0
    refine Kept.each hk (fun t a h1 => ?_)
    extract_lets -merge x2 x3 s4
    have h4 : Kept im r₀ s4 := State.putB_kept _ _ (State.putB_kept _ _ h1)
    clear_value s4
    exact State.putBit_kept _ _ _ (State.putBit_kept _ _ _ h4)
  clear_value s0
  exact State.live_kept _ _ (State.live_kept _ _ h0)
theorem State.loopStart_kept (n y) (hk : Kept im r₀ s) : Kept im r₀ (State.loopStart s n y) := by
  unfold State.loopStart
  extract_lets -merge x0
  split
  · split
    · extract_lets -merge x1 s2 x3
      have h2 : Kept im r₀ s2 := State.tick_kept (State.setLoop_kept _ _ hk)
      clear_value s2
      exact State.put_kept _ _ (State.put_kept _ _ h2)
theorem State.plausible_kept (n y) (hk : Kept im r₀ s) : Kept im r₀ (State.plausible s n y) := by
  unfold State.plausible
  extract_lets -merge x0 x1 x2
  refine Kept.ite hk ?_
  split
  · split
    · extract_lets -merge x3 x4 x5 x6 s7 s8 s9 s10
      have h7 : Kept im r₀ s7 := State.setLoop_kept _ _ hk
      have h8 : Kept im r₀ s8 := h7.to rfl
      have h9 : Kept im r₀ s9 := State.putBit_kept _ _ _ (State.putB_kept _ _ h8)
      have h10 : Kept im r₀ s10 := Kept.ite h8 (Kept.ite (State.putB_kept _ _ h8) (Kept.ite (State.raise_kept _ (State.bump_kept _ _ h9)) h8))
      clear_value s7 s8 s9 s10
      exact h10
theorem State.loopLaw_kept (n y r) (hk : Kept im r₀ s) : Kept im r₀ (State.loopLaw s n y r) := by
  unfold State.loopLaw
  extract_lets -merge x0 x1 x2 x3 x4 x5 x6 x7 x8 x9 x10
  split
  · extract_lets -merge x11 x12 x13 x14 x15 x16 x17 x18 x19 s20 s21 x22 s23 s24 s25 s26 s27
    have h20 : Kept im r₀ s20 := State.setLoop_kept _ _ hk
    have h21 : Kept im r₀ s21 := h20.to rfl
    have h23 : Kept im r₀ s23 := State.pwmSample_kept _ h21
    have h24 : Kept im r₀ s24 := State.arm_kept _ (State.put_kept _ _ (State.put_kept _ _ h23))
    have h25 : Kept im r₀ s25 := State.putB_kept _ _ (State.putB_kept _ _ (State.putB_kept _ _ h24))
    have h26 : Kept im r₀ s26 := State.put_kept _ _ h25
    have h27 : Kept im r₀ s27 := Kept.ite (State.raise_kept _ (State.bump_kept _ _ (State.putBit_kept _ _ _ h26))) h26
    clear_value s20 s21 s23 s24 s25 s26 s27
    exact State.putB_kept _ _ h27
theorem State.loopInject_kept (n) (hk : Kept im r₀ s) : Kept im r₀ (State.loopInject s n) := by
  unfold State.loopInject
  exact Kept.ite (State.inject_kept _ _ hk) hk
theorem State.loopRun_kept (n sum k) (hk : Kept im r₀ s) : Kept im r₀ (State.loopRun s n sum k) := by
  unfold State.loopRun
  extract_lets -merge x0 s1 s2 x3 s4 s5
  have h1 : Kept im r₀ s1 := State.put_kept _ _ hk
  have h2 : Kept im r₀ s2 := Kept.ite (State.plausible_kept _ _ h1) (State.loopStart_kept _ _ h1)
  have h4 : Kept im r₀ s4 := State.loopLaw_kept _ _ _ (State.put_kept _ _ h2)
  have h5 : Kept im r₀ s5 := State.put_kept _ _ h4
  clear_value s1 s2 s4 s5
  exact State.putB_kept _ _ (State.putB_kept _ _ h5)
theorem State.loopSkip_kept (n) (hk : Kept im r₀ s) : Kept im r₀ (State.loopSkip s n) := by
  unfold State.loopSkip
  exact State.putB_kept _ _ (State.bump_kept _ _ (State.putB_kept _ _ hk))
theorem State.loopOne_kept (n) (hk : Kept im r₀ s) : Kept im r₀ (State.loopOne s n) := by
  unfold State.loopOne
  extract_lets -merge x0 s1
  have h1 : Kept im r₀ s1 := State.loopInject_kept _ (State.setLoop_kept _ _ hk)
  clear_value s1
  split
  · exact Kept.ite (State.loopSkip_kept _ h1) (State.syncLoops_kept (State.loopRun_kept _ _ _ h1))
  · exact hk
theorem execSupplyLoopRun_keeps (fc n) (hk : Kept im r₀ s) : Keeps im r₀ (execSupplyLoopRun fc n s) := by
  unfold execSupplyLoopRun
  extract_lets -merge s0
  have h0 : Kept im r₀ s0 := State.at_kept _ hk
  clear_value s0
  exact keeps_okIf (Kept.ite h0 (State.loopOne_kept _ h0))
theorem execSupplyLoopMiss_keeps (fc n) (hk : Kept im r₀ s) : Keeps im r₀ (execSupplyLoopMiss fc n s) := by
  unfold execSupplyLoopMiss
  extract_lets -merge s0 x1
  have h0 : Kept im r₀ s0 := State.at_kept _ hk
  clear_value s0
  refine keeps_okIf ?_
  refine Kept.ite h0 ?_
  split
  · extract_lets -merge s2 s3 s4
    have h2 : Kept im r₀ s2 := State.loopInject_kept _ (State.setLoop_kept _ _ h0)
    have h3 : Kept im r₀ s3 := State.bump_kept _ _ (State.putBit_kept _ _ _ h2)
    have h4 : Kept im r₀ s4 := State.putB_kept _ _ (State.bump_kept _ _ h3)
    clear_value s2 s3 s4
    exact Kept.ite (State.loopSkip_kept _ h2) (State.raise_kept _ (State.putB_kept _ _ h4))
  · exact h0
theorem execSupplySetpoint_keeps (fc sq idx) (hk : Kept im r₀ s) : Keeps im r₀ (execSupplySetpoint fc sq idx s) := by
  unfold execSupplySetpoint
  refine keeps_next ?_
  refine Kept.withDesc hk (fun d t h0 => ?_)
  extract_lets -merge x1 x2 x3
  exact Kept.ite (State.failed_kept _ _ _ h0) (Kept.ite (State.failed_kept _ _ _ h0) (State.stage_kept _ _ h0))
theorem State.takeSetpoint_kept (n t) (hk : Kept im r₀ s) : Kept im r₀ (State.takeSetpoint s n t) := by
  unfold State.takeSetpoint
  extract_lets -merge x0 s1
  have h1 : Kept im r₀ s1 := State.setLoop_kept _ _ hk
  clear_value s1
  exact State.syncLoops_kept (Kept.ite h1 (State.put_kept _ _ h1))
theorem State.loopsSafe_kept (hk : Kept im r₀ s) : Kept im r₀ (State.loopsSafe s) := by
  unfold State.loopsSafe
  exact State.syncLoops_kept (Kept.each hk (fun t a h0 => (State.put_kept _ _ h0)))
theorem State.loopsLeaveSafe_kept (hk : Kept im r₀ s) : Kept im r₀ (State.loopsLeaveSafe s) := by
  unfold State.loopsLeaveSafe
  exact State.syncLoops_kept (Kept.each hk (fun t a h0 => (State.put_kept _ _ h0)))
theorem State.loopsStop_kept (hk : Kept im r₀ s) : Kept im r₀ (State.loopsStop s) := by
  unfold State.loopsStop
  refine State.syncLoops_kept ?_
  refine Kept.each hk (fun t a h0 => ?_)
  extract_lets -merge x1
  exact State.setLoop_kept _ _ h0
theorem State.loopsFinish_kept (old) (hk : Kept im r₀ s) : Kept im r₀ (State.loopsFinish s old) := by
  unfold State.loopsFinish
  extract_lets -merge x0 x1
  have key : ∀ t, Kept im { s with active := old } t → Kept im r₀ { t with active := s.active } := by
    intro t h
    refine ⟨?_, fun g => h.2 (hk.2 g), fun g => h.3 (hk.3 g), fun e => (h.4 e).trans (hk.4 e)⟩
    have e := h.1
    rw [← hk.1]
    simp only [State.core, Prod.mk.injEq] at e ⊢
    exact ⟨e.1, e.2.1, e.2.2.1, e.2.2.2.1, e.2.2.2.2.1, e.2.2.2.2.2.1, e.2.2.2.2.2.2.1, trivial⟩
  exact Kept.ite hk (key _ (Kept.each (Kept.refl _) fun t a h3 => State.loopOne_kept _ h3))
theorem State.loopsSwap_kept (old) (hk : Kept im r₀ s) : Kept im r₀ (State.loopsSwap s old) := by
  unfold State.loopsSwap
  extract_lets -merge s0
  have h0 : Kept im r₀ s0 := by
    unfold s0
    refine Kept.each hk (fun t a h1 => ?_)
    extract_lets -merge x2 s3 x4 x5 s6
    have h3 : Kept im r₀ s3 := State.setLoop_kept _ _ h1
    have h6 : Kept im r₀ s6 := Kept.ite (State.setLoop_kept _ _ h3) h3
    clear_value s3 s6
    exact Kept.ite h6 (Kept.ite (State.put_kept _ _ h6) (Kept.ite (State.put_kept _ _ h6) h6))
  clear_value s0
  exact State.syncLoops_kept h0
theorem execHalt_keeps (fc on) (hk : Kept im r₀ s) : Keeps im r₀ (execHalt fc on s) := by
  unfold execHalt
  extract_lets -merge s0 x1
  have h0 : Kept im r₀ s0 := State.at_kept _ hk
  clear_value s0
  exact Keeps.ite (keeps_next (State.releaseHalt_kept h0)) (Keeps.ite (keeps_next (State.bump_kept _ _ h0)) (keeps_next (State.setCtl_kept _
      (State.putB_kept _ _ h0))))
theorem execStep_keeps (fc) (hk : Kept im r₀ s) : Keeps im r₀ (execStep fc s) := by
  unfold execStep
  extract_lets -merge s0 x1
  have h0 : Kept im r₀ s0 := State.at_kept _ hk
  clear_value s0
  exact Keeps.ite (keeps_next (State.setCtl_kept _ h0)) (keeps_next (State.bump_kept _ _ h0))
theorem State.haltNow_kept (hk : Kept im r₀ s) : Kept im r₀ (State.haltNow s) := by
  unfold State.haltNow
  extract_lets -merge s0
  have h0 : Kept im r₀ s0 := State.freezePwm_kept (State.putB_kept _ _ hk)
  clear_value s0
  refine Kept.each h0 (fun t a h1 => ?_)
  extract_lets -merge x2
  exact State.setLoop_kept _ _ h1
theorem State.haltBoundary_kept (hk : Kept im r₀ s) : Kept im r₀ (State.haltBoundary s) := by
  unfold State.haltBoundary
  extract_lets -merge x0 s1
  have h1 : Kept im r₀ s1 := State.setCtl_kept _ hk
  clear_value s1
  exact Kept.ite (State.unfreeze_kept (State.putB_kept _ _ h1)) (Kept.ite (State.haltNow_kept h1) h1)
theorem State.setLvl_kept (sl x) (hk : Kept im r₀ s) : Kept im r₀ (State.setLvl s sl x) := by
  unfold State.setLvl
  extract_lets -merge x0
  exact State.setCtl_kept _ hk
theorem State.lvlStart_kept (sl) (hk : Kept im r₀ s) : Kept im r₀ (State.lvlStart s sl) := by
  unfold State.lvlStart
  extract_lets -merge x0 s1 s2
  have h1 : Kept im r₀ s1 := State.tick_kept (State.setLvl_kept _ _ hk)
  have h2 : Kept im r₀ s2 := State.put_kept _ _ (State.put_kept _ _ h1)
  clear_value s1 s2
  exact State.put_kept _ _ h2
theorem State.lvlCompute_kept (sl) (hk : Kept im r₀ s) : Kept im r₀ (State.lvlCompute s sl) := by
  unfold State.lvlCompute
  extract_lets -merge x0 x1 x2 x3 x4 x5 x6 x7 x8 x9 x10 x11 s12 s13 s14 s15
  have h12 : Kept im r₀ s12 := State.setLvl_kept _ _ hk
  have h13 : Kept im r₀ s13 := h12.to rfl
  have h14 : Kept im r₀ s14 := State.putB_kept _ _ (State.putB_kept _ _ h13)
  have h15 : Kept im r₀ s15 := State.puti_kept _ _ (State.puti_kept _ _ h14)
  clear_value s12 s13 s14 s15
  exact State.setWant_kept _ _ (State.puti_kept _ _ h15)
theorem State.lvlRun_kept (sl) (hk : Kept im r₀ s) : Kept im r₀ (State.lvlRun s sl) := by
  unfold State.lvlRun
  extract_lets -merge x0 s1 x2 s3 s4
  have h1 : Kept im r₀ s1 := Kept.ite (State.lvlStart_kept _ hk) hk
  have h3 : Kept im r₀ s3 := State.setLvl_kept _ _ h1
  have h4 : Kept im r₀ s4 := State.putB_kept _ _ (State.putB_kept _ _ h3)
  clear_value s1 s3 s4
  exact Kept.ite h1 (Kept.ite (State.lvlCompute_kept _ h1) (State.setWant_kept _ _ h4))
theorem execLevelLoopRun_keeps (fc l) (hk : Kept im r₀ s) : Keeps im r₀ (execLevelLoopRun fc l s) := by
  unfold execLevelLoopRun
  extract_lets -merge s0
  have h0 : Kept im r₀ s0 := State.at_kept _ hk
  clear_value s0
  exact keeps_okIf (Kept.ite h0 (Kept.each h0 (fun t a h1 => (State.once_kept h1 fun _ _ h => State.lvlRun_kept _ h))))
theorem State.lvlBoundary_kept (hk : Kept im r₀ s) : Kept im r₀ (State.lvlBoundary s) := by
  unfold State.lvlBoundary
  refine Kept.each hk (fun t a h0 => ?_)
  extract_lets -merge x1 s2
  have h2 : Kept im r₀ s2 := State.putB_kept _ _ (State.putB_kept _ _ h0)
  clear_value s2
  exact State.setLvl_kept _ _ h2
theorem State.lvlOverrun_kept (sl) (hk : Kept im r₀ s) : Kept im r₀ (State.lvlOverrun s sl) := by
  unfold State.lvlOverrun
  extract_lets -merge x0
  exact State.setLvl_kept _ _ hk

end Sys2Proof.Machine
end

