-- ==== Sys2Proof/Laws/KeptSequencer.lean ====
section
/-! SUPPORT. The operations and meanings of Machine/Sequencer.lean keep what their argument keeps (Laws/Frame.lean). -/
namespace Sys2Proof.Machine

variable {im : Bool} {r₀ s : State}

theorem State.syncSeq_kept (hk : Kept im r₀ s) : Kept im r₀ (State.syncSeq s) := by
  unfold State.syncSeq
  extract_lets -merge x0 s1 s4
  have h1 : Kept im r₀ s1 := by
    unfold s1
    refine Kept.each hk (fun t a h2 => ?_)
    extract_lets -merge s3
    have h3 : Kept im r₀ s3 := State.putBit_kept _ _ _ (State.putBit_kept _ _ _ h2)
    clear_value s3
    exact State.putBit_kept _ _ _ h3
  have h4 : Kept im r₀ s4 := State.live_kept _ _ h1
  clear_value s1 s4
  exact State.live_kept _ _ (State.live_kept _ _ h4)
theorem State.drivePin_kept (p b) (hk : Kept im r₀ s) : Kept im r₀ (State.drivePin s p b) := by
  unfold State.drivePin
  exact Kept.ite hk (State.bump_kept _ _ (State.putB_kept _ _ hk))
theorem State.dropEdges_kept (p) (hk : Kept im r₀ s) : Kept im r₀ (State.dropEdges s p) := by
  unfold State.dropEdges
  extract_lets -merge x0
  exact State.setSeq_kept _ hk
theorem State.settlePin_kept (p) (hk : Kept im r₀ s) : Kept im r₀ (State.settlePin s p) := by
  unfold State.settlePin
  extract_lets -merge s0
  have h0 : Kept im r₀ s0 := State.dropEdges_kept _ hk
  clear_value s0
  refine Kept.ite (State.drivePin_kept _ _ h0) ?_
  refine Kept.ite (State.drivePin_kept _ _ h0) ?_
  split
  · exact State.drivePin_kept _ _ h0
  · exact h0
theorem State.settlePins_kept (hk : Kept im r₀ s) : Kept im r₀ (State.settlePins s) := by
  unfold State.settlePins
  exact Kept.each hk (fun t a h0 => (State.settlePin_kept _ h0))
theorem State.pinEdge_kept (p b t) (hk : Kept im r₀ s) : Kept im r₀ (State.pinEdge s p b t) := by
  unfold State.pinEdge
  extract_lets -merge x0 x1 x2 x3
  exact State.setSeq_kept _ hk
theorem execFePinEdge_keeps (fc p) (hk : Kept im r₀ s) : Keeps im r₀ (execFePinEdge fc p s) := by
  unfold execFePinEdge
  extract_lets -merge s0 x1 s2
  have h0 : Kept im r₀ s0 := State.at_kept _ hk
  have h2 : Kept im r₀ s2 := by
    unfold s2
    refine Kept.ite h0 ?_
    split
    · exact State.drivePin_kept _ _ (State.setSeq_kept _ h0)
    · split
      · exact State.drivePin_kept _ _ (State.dropEdges_kept _ h0)
      · exact h0
  clear_value s0 s2
  exact keeps_okIf h2
theorem State.setBus_kept (b x) (hk : Kept im r₀ s) : Kept im r₀ (State.setBus s b x) := by
  unfold State.setBus
  extract_lets -merge x0
  exact State.setSeq_kept _ hk
theorem State.commute_kept (e t sched) (hk : Kept im r₀ s) : Kept im r₀ (State.commute s e t sched) := by
  unfold State.commute
  extract_lets -merge x0 x1 s2
  have h2 : Kept im r₀ s2 := State.setPwm_kept _ hk
  clear_value s2
  refine Kept.ite h2 ?_
  refine Kept.each h2 (fun t a h3 => ?_)
  extract_lets -merge x4 x5
  exact State.setBus_kept _ _ h3
theorem State.maskDue_kept (m on) (hk : Kept im r₀ s) : Kept im r₀ (State.maskDue s m on) := by
  unfold State.maskDue
  extract_lets -merge x0 x1 s2
  have h2 : Kept im r₀ s2 := State.setPwm_kept _ hk
  clear_value s2
  exact Kept.ite (State.setMask_kept _ _ h2) hk
theorem execMaskAssert_keeps (fc m) (hk : Kept im r₀ s) : Keeps im r₀ (execMaskAssert fc m s) := by
  unfold execMaskAssert
  exact keeps_okIf (State.maskDue_kept _ _ (State.at_kept _ hk))
theorem execMaskRelease_keeps (fc m) (hk : Kept im r₀ s) : Keeps im r₀ (execMaskRelease fc m s) := by
  unfold execMaskRelease
  exact keeps_okIf (State.maskDue_kept _ _ (State.at_kept _ hk))
theorem State.carry_kept (g h old new t sched) (hk : Kept im r₀ s) : Kept im r₀ (State.carry s g h old new t sched) := by
  unfold State.carry
  extract_lets -merge s0
  have h0 : Kept im r₀ s0 := Kept.each hk (fun t a h1 => (State.commute_kept _ _ _ h1))
  clear_value s0
  exact Kept.ite h0 (Kept.each h0 (fun t a h2 => (State.pinEdge_kept _ _ _ h2)))
theorem State.transit_kept (g h new sched) (hk : Kept im r₀ s) : Kept im r₀ (State.transit s g h new sched) := by
  unfold State.transit
  extract_lets -merge x0 x1 s2 s3 s4 x5 s6
  have h2 : Kept im r₀ s2 := Kept.ite hk (State.tick_kept hk)
  have h3 : Kept im r₀ s3 := State.putHalf_kept _ _ _ _ h2
  have h4 : Kept im r₀ s4 := Kept.ite (State.put_kept _ _ h3) h3
  have h6 : Kept im r₀ s6 := State.carry_kept _ _ _ _ _ _ (State.setSg_kept _ _ h4)
  clear_value s2 s3 s4 s6
  exact Kept.ite hk (Kept.each h6 (fun t a h7 => (Kept.ite (State.syncMuted_kept _ (State.putB_kept _ _ h7)) h7)))
theorem State.toRest_kept (g) (hk : Kept im r₀ s) : Kept im r₀ (State.toRest s g) := by
  unfold State.toRest
  exact Kept.each hk (fun t a h0 => (State.transit_kept _ _ _ _ h0))
theorem State.adoptAnchor_kept (g) (hk : Kept im r₀ s) : Kept im r₀ (State.adoptAnchor s g) := by
  unfold State.adoptAnchor
  extract_lets -merge x0 s1 x2 x3
  have h1 : Kept im r₀ s1 := State.setSg_kept _ _ hk
  clear_value s1
  split
  · exact hk
  · exact State.setSg_kept _ _ h1
theorem State.anchorRests_kept (g) (hk : Kept im r₀ s) : Kept im r₀ (State.anchorRests s g) := by
  unfold State.anchorRests
  exact Kept.ite hk (State.adoptAnchor_kept _ (State.transit_kept _ _ _ _ hk))
theorem State.seqRecheckGroup_kept (g) (hk : Kept im r₀ s) : Kept im r₀ (State.seqRecheckGroup s g) := by
  unfold State.seqRecheckGroup
  extract_lets -merge s0 s1
  have h0 : Kept im r₀ s0 := Kept.ite (State.put_kept _ _ (State.putB_kept _ _ hk)) hk
  have h1 : Kept im r₀ s1 := by
    unfold s1
    refine Kept.each h0 (fun t a h2 => ?_)
    extract_lets -merge x3
    exact Kept.ite h2 (Kept.ite (State.transit_kept _ _ _ _ h2) (Kept.ite (State.transit_kept _ _ _ _ h2) h2))
  clear_value s0 s1
  exact State.anchorRests_kept _ h1
theorem State.seqRecheck_kept (hk : Kept im r₀ s) : Kept im r₀ (State.seqRecheck s) := by
  unfold State.seqRecheck
  exact State.syncSeq_kept (Kept.each hk (fun t a h0 => (State.seqRecheckGroup_kept _ h0)))
theorem execPatternBoundary_keeps (fc g) (hk : Kept im r₀ s) : Keeps im r₀ (execPatternBoundary fc g s) := by
  unfold execPatternBoundary
  extract_lets -merge s0 f1
  have h0 : Kept im r₀ s0 := State.at_kept _ hk
  have h1 : ∀ a0, Kept im r₀ a0 → Kept im r₀ (f1 a0) := by
    intro a0 ha
    unfold f1
    extract_lets -merge x2 x3 x4 x5 s6 x7 s8 s9
    have h6 : Kept im r₀ s6 := Kept.ite (State.putB_kept _ _ (State.setSg_kept _ _ ha)) ha
    have h8 : Kept im r₀ s8 := State.transit_kept _ _ _ _ h6
    have h9 : Kept im r₀ s9 := Kept.ite (Kept.each h8 (fun t a h10 => (State.pinEdge_kept _ _ _ h10))) h8
    clear_value s6 s8 s9
    exact State.syncSeq_kept (Kept.ite (State.adoptAnchor_kept _ h9) h9)
  clear_value s0 f1
  exact keeps_okIf (Kept.ite (h1 _ h0) h0)
theorem State.loseSync_kept (g) (hk : Kept im r₀ s) : Kept im r₀ (State.loseSync s g) := by
  unfold State.loseSync
  extract_lets -merge s0 x1 s2
  have h0 : Kept im r₀ s0 := State.bump_kept _ _ (State.put_kept _ _ hk)
  have h2 : Kept im r₀ s2 := State.setSg_kept _ _ h0
  clear_value s0 s2
  exact State.seqRecheck_kept (Kept.ite (State.raise_kept _ h2) h2)
theorem execFrameStart_keeps (fc g) (hk : Kept im r₀ s) : Keeps im r₀ (execFrameStart fc g s) := by
  unfold execFrameStart
  extract_lets -merge s0 f1
  have h0 : Kept im r₀ s0 := State.at_kept _ hk
  have h1 : ∀ a0, Kept im r₀ a0 → Kept im r₀ (f1 a0) := by
    intro a0 ha
    unfold f1
    extract_lets -merge x2 x3 s4 x5 s6 x7 x8 s9
    have h4 : Kept im r₀ s4 := State.setSg_kept _ _ ha
    have h6 : Kept im r₀ s6 := State.bump_kept _ _ h4
    have h9 : Kept im r₀ s9 := Kept.ite (State.put_kept _ _ h6) h6
    clear_value s4 s6 s9
    exact Kept.ite ha (Kept.ite h4 (Kept.ite (State.loseSync_kept _ h9) (State.syncSeq_kept h9)))
  clear_value s0 f1
  exact keeps_okIf (Kept.ite (h1 _ h0) h0)
theorem State.reference_kept (g p) (hk : Kept im r₀ s) : Kept im r₀ (State.reference s g p) := by
  unfold State.reference
  extract_lets -merge x0 x1 x2 x3 x4 s5 s6 s7 x8 s9 s10 s11 x12 x13 s14 x15 s16
  have h5 : Kept im r₀ s5 := State.puti_kept _ _ (State.setSg_kept _ _ hk)
  have h6 : Kept im r₀ s6 := State.put_kept _ _ h5
  have h7 : Kept im r₀ s7 := State.bump_kept _ _ hk
  have h9 : Kept im r₀ s9 := State.setSg_kept _ _ h7
  have h10 : Kept im r₀ s10 := State.emit_kept _ _ _ _ h9
  have h11 : Kept im r₀ s11 := Kept.ite (Kept.ite (State.put_kept _ _ h6) h6) (Kept.ite (State.setSg_kept _ _ h7) (Kept.ite (State.adoptAnchor_kept _
      h10) (State.anchorRests_kept _ h10)))
  have h14 : Kept im r₀ s14 := State.put_kept _ _ (State.put_kept _ _ h11)
  have h16 : Kept im r₀ s16 := Kept.ite (Kept.ite (State.setSg_kept _ _ h11) (State.setSg_kept _ _ h14)) h11
  clear_value s5 s6 s7 s9 s10 s11 s14 s16
  exact State.seqRecheck_kept h16
theorem execSyncInEdge_keeps (fc) (hk : Kept im r₀ s) : Keeps im r₀ (execSyncInEdge fc s) := by
  unfold execSyncInEdge
  extract_lets -merge s0 x1 x2 s3
  have h0 : Kept im r₀ s0 := State.at_kept _ hk
  have h3 : Kept im r₀ s3 := State.setSeq_kept _ h0
  clear_value s0 s3
  exact Keeps.ite (keeps_next h0) (keeps_next (Kept.each h3 (fun t a h4 => (State.reference_kept _ _ h4))))
theorem State.setDivX_kept (q x) (hk : Kept im r₀ s) : Kept im r₀ (State.setDivX s q x) := by
  unfold State.setDivX
  extract_lets -merge x0
  exact State.setSeq_kept _ hk
theorem State.divBurst_kept (q even odd) (hk : Kept im r₀ s) : Kept im r₀ (State.divBurst s q even odd) := by
  unfold State.divBurst
  extract_lets -merge s0 x1 x2 x3 x4 x5 x6 s7
  have h7 : Kept im r₀ s7 := State.setDivX_kept _ _ (State.puti_kept _ _ (State.puti_kept _ _ hk))
  exact Kept.ite (State.putB_kept _ _ h7) h7
theorem execSyncBurst_keeps (fc g b levels) (hk : Kept im r₀ s) : Keeps im r₀ (execSyncBurst fc g b levels s) := by
  unfold execSyncBurst
  extract_lets -merge s0 f1
  have h0 : Kept im r₀ s0 := State.at_kept _ hk
  have h1 : ∀ a0, Kept im r₀ a0 → Kept im r₀ (f1 a0) := by
    intro a0 ha
    unfold f1
    extract_lets -merge x2 s3
    have h3 : Kept im r₀ s3 := State.reference_kept _ _ (State.tick_kept ha)
    clear_value s3
    exact Kept.each h3 (fun t a h4 => (State.divBurst_kept _ _ _ h4))
  clear_value s0 f1
  exact keeps_okIf (Kept.ite (h1 _ h0) h0)
theorem State.showDiv_kept (q) (hk : Kept im r₀ s) : Kept im r₀ (State.showDiv s q) := by
  unfold State.showDiv
  exact Kept.each hk (fun t a h0 => (State.put_kept _ _ h0))
theorem State.divSwitch_kept (q) (hk : Kept im r₀ s) : Kept im r₀ (State.divSwitch s q) := by
  unfold State.divSwitch
  extract_lets -merge s0 s1 s2
  have h0 : Kept im r₀ s0 := State.putB_kept _ _ (State.put_kept _ _ hk)
  have h1 : Kept im r₀ s1 := State.setDivX_kept _ _ (State.bump_kept _ _ h0)
  have h2 : Kept im r₀ s2 := State.showDiv_kept _ h1
  clear_value s0 s1 s2
  refine Kept.ite hk ?_
  refine Kept.each h2 (fun t a h3 => ?_)
  extract_lets -merge s4 x5
  have h4 : Kept im r₀ s4 := State.markSlot_kept _ _ _ _ h3
  clear_value s4
  exact Kept.ite (State.setGg_kept _ _ h4) h4
theorem State.dropSwitches_kept (hk : Kept im r₀ s) : Kept im r₀ (State.dropSwitches s) := by
  unfold State.dropSwitches
  refine Kept.each hk (fun t a h0 => ?_)
  extract_lets -merge x1
  exact State.putB_kept _ _ (State.setDivX_kept _ _ h0)
theorem State.txTimeout_kept (g) (hk : Kept im r₀ s) : Kept im r₀ (State.txTimeout s g) := by
  unfold State.txTimeout
  extract_lets -merge s0 x1 s2
  have h0 : Kept im r₀ s0 := State.raise_kept _ (State.bump_kept _ _ (State.putB_kept _ _ hk))
  have h2 : Kept im r₀ s2 := State.setSg_kept _ _ h0
  clear_value s0 s2
  exact State.syncSeq_kept (State.adoptAnchor_kept _ (State.transit_kept _ _ _ _ h2))
theorem execSeqTxTimeout_keeps (fc g) (hk : Kept im r₀ s) : Keeps im r₀ (execSeqTxTimeout fc g s) := by
  unfold execSeqTxTimeout
  extract_lets -merge s0 x1
  have h0 : Kept im r₀ s0 := State.at_kept _ hk
  clear_value s0
  exact keeps_okIf (Kept.ite (State.txTimeout_kept _ h0) h0)
theorem State.holdExpire_kept (g) (hk : Kept im r₀ s) : Kept im r₀ (State.holdExpire s g) := by
  unfold State.holdExpire
  extract_lets -merge s0
  have h0 : Kept im r₀ s0 := State.bump_kept _ _ (State.put_kept _ _ (State.putB_kept _ _ hk))
  clear_value s0
  exact State.syncSeq_kept (State.toRest_kept _ (State.raise_kept _ h0))
theorem execSeqHoldExpired_keeps (fc g) (hk : Kept im r₀ s) : Keeps im r₀ (execSeqHoldExpired fc g s) := by
  unfold execSeqHoldExpired
  extract_lets -merge s0
  have h0 : Kept im r₀ s0 := State.at_kept _ hk
  clear_value s0
  exact keeps_okIf (Kept.ite (State.holdExpire_kept _ h0) h0)
theorem State.fddBoundary_kept (perm g) (hk : Kept im r₀ s) : Kept im r₀ (State.fddBoundary s perm g) := by
  unfold State.fddBoundary
  refine Kept.ite hk ?_
  refine Kept.each hk (fun t a h0 => ?_)
  extract_lets -merge x1
  exact Kept.ite h0 (Kept.ite (Kept.ite (State.transit_kept _ _ _ _ h0) h0) (Kept.ite h0 (State.transit_kept _ _ _ _ h0)))
theorem State.seqMutes_kept (hk : Kept im r₀ s) : Kept im r₀ (State.seqMutes s) := by
  unfold State.seqMutes
  refine Kept.each hk (fun t a h0 => ?_)
  extract_lets -merge x1 x2
  exact State.syncMuted_kept _ (State.putB_kept _ _ h0)
theorem State.startGroup_kept (g keepSync) (hk : Kept im r₀ s) : Kept im r₀ (State.startGroup s g keepSync) := by
  unfold State.startGroup
  extract_lets -merge s0 s2 s3 s4 x5 x6 s7 s8 x9
  have h0 : Kept im r₀ s0 := Kept.each hk (fun t a h1 => (State.transit_kept _ _ _ _ h1))
  have h2 : Kept im r₀ s2 := State.put_kept _ _ (State.putB_kept _ _ (State.putB_kept _ _ h0))
  have h3 : Kept im r₀ s3 := State.put_kept _ _ (State.put_kept _ _ h2)
  have h4 : Kept im r₀ s4 := State.put_kept _ _ h3
  have h7 : Kept im r₀ s7 := State.put_kept _ _ h4
  have h8 : Kept im r₀ s8 := State.put_kept _ _ (State.put_kept _ _ h7)
  clear_value s0 s2 s3 s4 s7 s8
  exact Kept.ite (State.setSg_kept _ _ h4) (State.setSg_kept _ _ h8)
theorem State.groupsStart_kept (hk : Kept im r₀ s) : Kept im r₀ (State.groupsStart s) := by
  unfold State.groupsStart
  exact State.syncSeq_kept (State.settlePins_kept (Kept.each hk (fun t a h0 => (State.startGroup_kept _ _ h0))))
theorem State.groupsSwap_kept (old) (hk : Kept im r₀ s) : Kept im r₀ (State.groupsSwap s old) := by
  unfold State.groupsSwap
  extract_lets -merge s0 s10
  have h0 : Kept im r₀ s0 := by
    unfold s0
    refine Kept.each hk (fun t a h1 => ?_)
    extract_lets -merge s2 s4 s6 s7 x8 s9
    have h2 : Kept im r₀ s2 := Kept.each h1 (fun t a h3 => (Kept.ite h3 (State.carry_kept _ _ _ _ _ _ (State.tick_kept h3))))
    have h4 : Kept im r₀ s4 := Kept.each h2 (fun t a h5 => (State.moved_kept _ _ _ _ _ h5))
    have h6 : Kept im r₀ s6 := State.put_kept _ _ (State.put_kept _ _ h4)
    have h7 : Kept im r₀ s7 := State.startGroup_kept _ _ h6
    have h9 : Kept im r₀ s9 := Kept.ite (State.txTimeout_kept _ h1) h1
    clear_value s2 s4 s6 s7 s9
    exact Kept.ite (State.setSg_kept _ _ h7) (Kept.ite (State.holdExpire_kept _ h9) h9)
  have h10 : Kept im r₀ s10 := Kept.each h0 (fun t a h11 => (State.settlePin_kept _ h11))
  clear_value s0 s10
  exact State.syncSeq_kept h10

end Sys2Proof.Machine
end

