-- ==== Sys2Proof/Laws/KeptFront.lean ====
section
/-! SUPPORT. The operations and meanings of Machine/Front.lean keep what their argument keeps (Laws/Frame.lean). -/
namespace Sys2Proof.Machine

variable {im : Bool} {r₀ s : State}

theorem State.busStart_kept (b) (hk : Kept im r₀ s) : Kept im r₀ (State.busStart s b) := by
  unfold State.busStart
  extract_lets -merge x0
  split
  · extract_lets -merge x1 s2
    have h2 : Kept im r₀ s2 := State.putB_kept _ _ (State.setBus_kept _ _ hk)
    clear_value s2
    refine Kept.ite hk ?_
    split
    · exact Kept.ite (State.bump_kept _ _ h2) h2
    · exact h2
  · exact hk
theorem State.rffeIssue_kept (b c) (hk : Kept im r₀ s) : Kept im r₀ (State.rffeIssue s b c) := by
  unfold State.rffeIssue
  extract_lets -merge x0
  exact State.busStart_kept _ (State.setBus_kept _ _ hk)
theorem State.tunerWrite_kept (k code) (hk : Kept im r₀ s) : Kept im r₀ (State.tunerWrite s k code) := by
  unfold State.tunerWrite
  exact State.rffeIssue_kept _ _ hk
theorem execRffeScheduledCommand_keeps (fc b i) (hk : Kept im r₀ s) : Keeps im r₀ (execRffeScheduledCommand fc b i s) := by
  unfold execRffeScheduledCommand
  extract_lets -merge s0 x1 s2
  have h0 : Kept im r₀ s0 := State.at_kept _ hk
  have h2 : Kept im r₀ s2 := by
    unfold s2
    split
    · extract_lets -merge s3
      have h3 : Kept im r₀ s3 := State.setBus_kept _ _ h0
      clear_value s3
      exact Kept.ite (State.rffeIssue_kept _ _ h3) (State.busStart_kept _ h3)
    · split
      · exact State.rffeIssue_kept _ _ (State.setBus_kept _ _ h0)
      · exact h0
  clear_value s0 s2
  exact keeps_okIf h2
theorem execHostRffeCommand_keeps (fc v) (hk : Kept im r₀ s) : Keeps im r₀ (execHostRffeCommand fc v s) := by
  unfold execHostRffeCommand
  extract_lets -merge s0 x1 s2 s3 x4
  have h0 : Kept im r₀ s0 := State.at_kept _ hk
  have h2 : Kept im r₀ s2 := State.put_kept _ _ (State.put_kept _ _ (State.put_kept _ _ h0))
  have h3 : Kept im r₀ s3 := State.put_kept _ _ (State.put_kept _ _ h2)
  clear_value s0 s2 s3
  exact Keeps.ite (keeps_next h3) (keeps_next (State.rffeIssue_kept _ _ (State.putB_kept _ _ h3)))
theorem State.setMmX_kept (m x) (hk : Kept im r₀ s) : Kept im r₀ (State.setMmX s m x) := by
  unfold State.setMmX
  extract_lets -merge x0
  exact State.setSeq_kept _ hk
theorem State.syncTun_kept (k) (hk : Kept im r₀ s) : Kept im r₀ (State.syncTun s k) := by
  unfold State.syncTun
  extract_lets -merge x0
  exact State.put_kept _ _ hk
theorem State.syncTuns_kept (hk : Kept im r₀ s) : Kept im r₀ (State.syncTuns s) := by
  unfold State.syncTuns
  extract_lets -merge s0 s2
  have h0 : Kept im r₀ s0 := Kept.each hk (fun t a h1 => (State.syncTun_kept _ h1))
  have h2 : Kept im r₀ s2 := Kept.each h0 (fun t a h3 => (State.putB_kept _ _ h3))
  clear_value s0 s2
  exact State.live_kept _ _ h2
theorem State.portFails_kept (k) (hk : Kept im r₀ s) : Kept im r₀ (State.portFails s k) := by
  unfold State.portFails
  extract_lets -merge x0
  exact State.raise_kept _ (State.setSeq_kept _ hk)
theorem State.portReprobe_kept (k) (hk : Kept im r₀ s) : Kept im r₀ (State.portReprobe s k) := by
  unfold State.portReprobe
  refine Kept.each hk (fun t a h0 => ?_)
  extract_lets -merge x1
  exact State.setGg_kept _ _ h0
theorem State.searchEnds_kept (m code sum n ok) (hk : Kept im r₀ s) : Kept im r₀ (State.searchEnds s m code sum n ok) := by
  unfold State.searchEnds
  extract_lets -merge x0
  split
  · exact hk
  · extract_lets -merge x1 s2 s3 s4
    have h2 : Kept im r₀ s2 := State.setMmX_kept _ _ hk
    have h3 : Kept im r₀ s3 := State.tick_kept (State.tick_kept (State.put_kept _ _ h2))
    have h4 : Kept im r₀ s4 := Kept.ite (State.portFails_kept _ h3) (Kept.ite h3 (State.portReprobe_kept _ h3))
    clear_value s2 s3 s4
    exact State.syncTuns_kept h4
theorem State.searchNext_kept (m) (hk : Kept im r₀ s) : Kept im r₀ (State.searchNext s m) := by
  unfold State.searchNext
  extract_lets -merge x0
  split
  · exact hk
  · extract_lets -merge s1
    have h1 : Kept im r₀ s1 := State.tunerWrite_kept _ _ hk
    clear_value s1
    split
    · extract_lets -merge s2
      have h2 : Kept im r₀ s2 := State.setMmX_kept _ _ hk
      clear_value s2
      exact State.tunerWrite_kept _ _ h2
    · exact State.searchEnds_kept _ _ _ _ _ h1
theorem State.searchStart_kept (m k) (hk : Kept im r₀ s) : Kept im r₀ (State.searchStart s m k) := by
  unfold State.searchStart
  extract_lets -merge x0 x1 x2 x3 s4
  have h4 : Kept im r₀ s4 := State.setMmX_kept _ _ hk
  clear_value s4
  exact Kept.ite (State.syncTuns_kept (State.portFails_kept _ hk)) (State.syncTuns_kept (State.searchNext_kept _ (State.bump_kept _ _ h4)))
theorem State.mmTurn_kept (r) (hk : Kept im r₀ s) : Kept im r₀ (State.mmTurn s r) := by
  unfold State.mmTurn
  extract_lets -merge x0 x1 x2 x3 f4 x5 x6 x7 x8 x9 s10 x11
  have h4 : ∀ a0, Kept im r₀ a0 → Kept im r₀ (f4 a0) := by
    intro a0 ha
    unfold f4
    exact State.tick_kept (State.put_kept _ _ ha)
  have h10 : Kept im r₀ s10 := h4 _ (State.setMmX_kept _ _ hk)
  clear_value f4 s10
  refine Kept.ite hk ?_
  split
  · extract_lets -merge x12
    exact Kept.ite hk (h4 _ (State.setMmX_kept _ _ hk))
  · exact Kept.ite hk (Kept.ite (State.searchStart_kept _ _ (State.setMmX_kept _ _ h10)) h10)
theorem execTunerSearchStep_keeps (fc m) (hk : Kept im r₀ s) : Keeps im r₀ (execTunerSearchStep fc m s) := by
  unfold execTunerSearchStep
  extract_lets -merge s0 x1 x2 x3 s4
  have h0 : Kept im r₀ s0 := State.at_kept _ hk
  have h4 : Kept im r₀ s4 := by
    unfold s4
    split
    · exact h0
    · extract_lets -merge x5 x6
      exact Kept.ite (State.searchNext_kept _ h0) (Kept.ite h0 (Kept.ite (State.searchEnds_kept _ _ _ _ _ h0) (State.searchNext_kept _
          (State.setMmX_kept _ _ h0))))
  clear_value s0 s4
  exact keeps_okIf (Kept.ite h4 h0)
theorem execSearchTimeout_keeps (fc m) (hk : Kept im r₀ s) : Keeps im r₀ (execSearchTimeout fc m s) := by
  unfold execSearchTimeout
  extract_lets -merge s0 s1
  have h0 : Kept im r₀ s0 := State.at_kept _ hk
  have h1 : Kept im r₀ s1 := by
    unfold s1
    split
    · exact h0
    · exact Kept.ite h0 (State.searchEnds_kept _ _ _ _ _ (State.tunerWrite_kept _ _ h0))
  clear_value s0 s1
  exact keeps_okIf (Kept.ite h1 h0)
theorem State.observe_kept (m k) (hk : Kept im r₀ s) : Kept im r₀ (State.observe s m k) := by
  unfold State.observe
  extract_lets -merge x0 s1
  have h1 : Kept im r₀ s1 := State.setMmX_kept _ _ (State.put_kept _ _ hk)
  clear_value s1
  exact Kept.ite h1 (Kept.each h1 (fun t a h2 => (State.settlePin_kept _ h2)))
theorem execMismatchDwell_keeps (fc m) (hk : Kept im r₀ s) : Keeps im r₀ (execMismatchDwell fc m s) := by
  unfold execMismatchDwell
  extract_lets -merge s0 x1 x2 x3 s4
  have h0 : Kept im r₀ s0 := State.at_kept _ hk
  have h4 : Kept im r₀ s4 := by
    unfold s4
    clear_value x3
    split
    · exact Kept.ite h0 (State.observe_kept _ _ h0)
    · exact h0
  clear_value s0 s4
  exact keeps_okIf (Kept.ite h4 h0)
theorem execRetry_keeps (fc v) (hk : Kept im r₀ s) : Keeps im r₀ (execRetry fc v s) := by
  unfold execRetry
  extract_lets -merge s0 x1 x2
  have h0 : Kept im r₀ s0 := State.at_kept _ hk
  clear_value s0
  exact keeps_next (State.setSeq_kept _ h0)
theorem execRffeCommandEnd_keeps (fc b parity rdata) (hk : Kept im r₀ s) : Keeps im r₀ (execRffeCommandEnd fc b parity rdata s) := by
  unfold execRffeCommandEnd
  extract_lets -merge s0 x1 s2
  have h0 : Kept im r₀ s0 := State.at_kept _ hk
  have h2 : Kept im r₀ s2 := by
    unfold s2
    split
    · exact h0
    · extract_lets -merge x3 x4 f5
      have h5 : ∀ a0, Kept im r₀ a0 → Kept im r₀ (f5 a0) := by
        intro a0 ha
        unfold f5
        extract_lets -merge s6 s7 s8 s9
        have h6 : Kept im r₀ s6 := State.putB_kept _ _ (State.setBus_kept _ _ ha)
        have h7 : Kept im r₀ s7 := Kept.ite (State.raise_kept _ (State.bump_kept _ _ h6)) h6
        have h8 : Kept im r₀ s8 := State.putB_kept _ _ (State.putB_kept _ _ h7)
        have h9 : Kept im r₀ s9 := by
          unfold s9
          split
          · exact h7
          · extract_lets -merge s10
            have h10 : Kept im r₀ s10 := Kept.ite h7 (State.put_kept _ _ h7)
            clear_value s10
            split
            · exact h10
            · extract_lets -merge x11
              split
              · exact Kept.ite (State.setMmX_kept _ _ h10) h10
              · exact h10
          · exact Kept.ite (State.put_kept _ _ h8) h8
        clear_value s6 s7 s8 s9
        exact State.busStart_kept _ h9
      clear_value f5
      exact Kept.ite h0 (h5 _ h0)
  clear_value s0 s2
  exact keeps_okIf h2
theorem State.portsBoundary_kept (hk : Kept im r₀ s) : Kept im r₀ (State.portsBoundary s) := by
  unfold State.portsBoundary
  extract_lets -merge x0 x1 x2 s3 s4 s6
  have h3 : Kept im r₀ s3 := State.setSeq_kept _ hk
  have h4 : Kept im r₀ s4 := Kept.each h3 (fun t a h5 => (State.putBit_kept _ _ _ h5))
  have h6 : Kept im r₀ s6 := by
    unfold s6
    refine Kept.each h4 (fun t a h7 => ?_)
    extract_lets -merge s8
    have h8 : Kept im r₀ s8 := State.putBit_kept _ _ _ h7
    clear_value s8
    refine Kept.ite h7 ?_
    split
    · exact h8
    · exact Kept.ite (State.searchStart_kept _ _ (State.observe_kept _ _ h8)) h8
  clear_value s3 s4 s6
  exact State.syncTuns_kept h6
theorem State.searchAttn_kept (hk : Kept im r₀ s) : Kept im r₀ (State.searchAttn s) := by
  unfold State.searchAttn
  extract_lets -merge x0
  exact State.setSeq_kept _ hk
theorem State.seqBoundary_kept (perm mm) (hk : Kept im r₀ s) : Kept im r₀ (State.seqBoundary s perm mm) := by
  unfold State.seqBoundary
  extract_lets -merge s0 s2 s5 s6 s8 s10 s11
  have h0 : Kept im r₀ s0 := Kept.each hk (fun t a h1 => (Kept.ite (State.bump_kept _ _ h1) h1))
  have h2 : Kept im r₀ s2 := by
    unfold s2
    refine Kept.each h0 (fun t a h3 => ?_)
    extract_lets -merge x4
    split
    · exact Kept.ite (State.setSg_kept _ _ h3) h3
    · exact h3
  have h5 : Kept im r₀ s5 := State.seqRecheck_kept h2
  have h6 : Kept im r₀ s6 := State.syncSeq_kept (Kept.each h5 (fun t a h7 => (State.fddBoundary_kept _ _ h7)))
  have h8 : Kept im r₀ s8 := Kept.each h6 (fun t a h9 => (State.divSwitch_kept _ h9))
  have h10 : Kept im r₀ s10 := State.portsBoundary_kept (State.searchAttn_kept h8)
  have h11 : Kept im r₀ s11 := by
    unfold s11
    refine Kept.each h10 (fun t a h12 => ?_)
    split
    · exact State.mmTurn_kept _ h12
    · exact h12
  clear_value s0 s2 s5 s6 s8 s10 s11
  exact State.seqMutes_kept (State.syncTuns_kept h11)
theorem State.dropScheduled_kept (hk : Kept im r₀ s) : Kept im r₀ (State.dropScheduled s) := by
  unfold State.dropScheduled
  refine Kept.each hk (fun t a h0 => ?_)
  extract_lets -merge x1 x2
  exact State.busStart_kept _ (State.setBus_kept _ _ h0)
theorem State.mmClear_kept (m) (hk : Kept im r₀ s) : Kept im r₀ (State.mmClear s m) := by
  unfold State.mmClear
  extract_lets -merge x0
  exact State.setMmX_kept _ _ hk
theorem State.mmIdle_kept (hk : Kept im r₀ s) : Kept im r₀ (State.mmIdle s) := by
  unfold State.mmIdle
  exact State.syncTuns_kept (Kept.each hk (fun t a h0 => (State.mmClear_kept _ h0)))
theorem State.mmStart_kept (hk : Kept im r₀ s) : Kept im r₀ (State.mmStart s) := by
  unfold State.mmStart
  refine State.syncTuns_kept ?_
  refine Kept.each hk (fun t a h0 => ?_)
  split
  · exact State.observe_kept _ _ h0
  · exact h0
theorem State.seqState_kept (old) (hk : Kept im r₀ s) : Kept im r₀ (State.seqState s old) := by
  unfold State.seqState
  extract_lets -merge x0 s1 s2 s3 s4 s5
  have h1 : Kept im r₀ s1 := Kept.ite (State.dropScheduled_kept hk) hk
  have h2 : Kept im r₀ s2 := Kept.ite (State.mmIdle_kept h1) h1
  have h3 : Kept im r₀ s3 := Kept.ite (State.groupsStart_kept h2) h2
  have h4 : Kept im r₀ s4 := State.seqRecheck_kept h3
  have h5 : Kept im r₀ s5 := Kept.ite (State.settlePins_kept h4) h4
  clear_value s1 s2 s3 s4 s5
  exact Kept.ite (State.mmStart_kept h5) h5
theorem State.seqSwap_kept (old) (hk : Kept im r₀ s) : Kept im r₀ (State.seqSwap s old) := by
  unfold State.seqSwap
  extract_lets -merge x0 s1 s7 s8 s11 x13 s14 s22 s24
  have h1 : Kept im r₀ s1 := by
    unfold s1
    refine Kept.each hk (fun t a h2 => ?_)
    extract_lets -merge x3 x4 x5 x6
    exact State.busStart_kept _ (State.setBus_kept _ _ h2)
  have h7 : Kept im r₀ s7 := State.groupsSwap_kept _ h1
  have h8 : Kept im r₀ s8 := by
    unfold s8
    refine Kept.each h7 (fun t a h9 => ?_)
    extract_lets -merge x10
    exact State.showDiv_kept _ (State.putB_kept _ _ (State.setDivX_kept _ _ h9))
  have h11 : Kept im r₀ s11 := Kept.each h8 (fun t a h12 => (Kept.ite h12 (State.put_kept _ _ h12)))
  have h14 : Kept im r₀ s14 := by
    unfold s14
    refine Kept.each h11 (fun t a h15 => ?_)
    extract_lets -merge x16 x17 s18 s19
    have h18 : Kept im r₀ s18 := Kept.ite (State.setSeq_kept _ (State.putBit_kept _ _ _ h15)) h15
    have h19 : Kept im r₀ s19 := by
      unfold s19
      refine Kept.ite ?_ h18
      refine Kept.each h18 (fun t a h20 => ?_)
      extract_lets -merge x21
      split
      · exact Kept.ite (State.setMmX_kept _ _ h20) h20
      · exact h20
    clear_value s18 s19
    exact Kept.ite (State.tunerWrite_kept _ _ h19) h19
  have h22 : Kept im r₀ s22 := Kept.each h14 (fun t a h23 => (State.mmClear_kept _ h23))
  have h24 : Kept im r₀ s24 := by
    unfold s24
    refine Kept.each h22 (fun t a h25 => ?_)
    split
    · exact State.observe_kept _ _ h25
    · exact h25
  clear_value s1 s7 s8 s11 s14 s22 s24
  exact State.syncSeq_kept (State.syncTuns_kept h24)
theorem State.seqHold_kept (hk : Kept im r₀ s) : Kept im r₀ (State.seqHold s) := by
  unfold State.seqHold
  extract_lets -merge s0 x2 s3 s4
  have h0 : Kept im r₀ s0 := Kept.each hk (fun t a h1 => (State.toRest_kept _ h1))
  have h3 : Kept im r₀ s3 := State.setSeq_kept _ h0
  have h4 : Kept im r₀ s4 := State.putB_kept _ _ (State.putB_kept _ _ (State.putB_kept _ _ h3))
  clear_value s0 s3 s4
  exact State.syncSeq_kept (State.settlePins_kept (State.mmIdle_kept h4))
theorem State.seqRestart_kept (hk : Kept im r₀ s) : Kept im r₀ (State.seqRestart s) := by
  unfold State.seqRestart
  exact Kept.ite (State.mmStart_kept (State.groupsStart_kept hk)) hk

end Sys2Proof.Machine
end

