-- ==== Sys2Proof/Laws/KeptFaults.lean ====
section
/-! SUPPORT. The operations and meanings of Machine/Faults.lean keep what their argument keeps (Laws/Frame.lean). -/
namespace Sys2Proof.Machine

variable {im : Bool} {r₀ s : State}

theorem State.setFlt_kept (f) (hk : Kept im r₀ s) : Kept im r₀ (State.setFlt s f) := by
  unfold State.setFlt
  exact hk.to rfl
theorem State.setPair_kept (lo hi i b) (hk : Kept im r₀ s) : Kept im r₀ (State.setPair s lo hi i b) := by
  unfold State.setPair
  exact Kept.ite (State.putBit_kept _ _ _ hk) (State.putBit_kept _ _ _ hk)
theorem State.latchSrc_kept (i) (hk : Kept im r₀ s) : Kept im r₀ (State.latchSrc s i) := by
  unfold State.latchSrc
  extract_lets -merge x0 x1 s2 s3 s4
  have h2 : Kept im r₀ s2 := State.setFlt_kept _ hk
  have h3 : Kept im r₀ s3 := Kept.ite hk (State.put_kept _ _ (State.put_kept _ _ (State.put_kept _ _ h2)))
  have h4 : Kept im r₀ s4 := State.put_kept _ _ (State.put_kept _ _ (State.put_kept _ _ h3))
  clear_value s2 s3 s4
  exact State.setPair_kept _ _ _ _ (State.bump_kept _ _ h4)
theorem State.closeWindow_kept (i) (hk : Kept im r₀ s) : Kept im r₀ (State.closeWindow s i) := by
  unfold State.closeWindow
  extract_lets -merge x0
  exact State.setFlt_kept _ (State.put_kept _ _ (State.putB_kept _ _ hk))
theorem State.reactIrq_kept (l) (hk : Kept im r₀ s) : Kept im r₀ (State.reactIrq s l) := by
  unfold State.reactIrq
  extract_lets -merge x0 s1
  have h1 : Kept im r₀ s1 := Kept.each hk (fun t a h2 => (State.setPair_kept _ _ _ _ h2))
  clear_value s1
  exact Kept.ite hk (Kept.ite h1 (State.irq_kept _ h1))
theorem State.trap_kept (hk : Kept im r₀ s) : Kept im r₀ (State.trap s) := by
  unfold State.trap
  extract_lets -merge s0
  have h0 : Kept im r₀ s0 := State.putB_kept _ _ (State.putB_kept _ _ hk)
  clear_value s0
  exact State.sendVec_kept _ (State.bump_kept _ _ h0)
theorem State.reactPin_kept (l) (hk : Kept im r₀ s) : Kept im r₀ (State.reactPin s l) := by
  unfold State.reactPin
  extract_lets -merge x0 s1
  have h1 : Kept im r₀ s1 := Kept.each hk (fun t a h2 => (State.setPair_kept _ _ _ _ h2))
  clear_value s1
  exact Kept.ite hk (Kept.ite h1 (State.bump_kept _ _ (State.putB_kept _ _ h1)))
theorem State.reactChip_kept (l) (hk : Kept im r₀ s) : Kept im r₀ (State.reactChip s l) := by
  unfold State.reactChip
  extract_lets -merge x0 x1
  split
  · exact hk
  · exact Kept.ite hk (Kept.ite (State.setFlt_kept _ (State.bump_kept _ _ hk)) (State.setFlt_kept _ hk))
theorem State.reactBlock_kept (l) (hk : Kept im r₀ s) : Kept im r₀ (State.reactBlock s l) := by
  unfold State.reactBlock
  refine Kept.each hk (fun t a h0 => ?_)
  extract_lets -merge x1
  exact Kept.ite h0 (State.setFlt_kept _ h0)
theorem State.react_kept (rs) (hk : Kept im r₀ s) : Kept im r₀ (State.react s rs) := by
  unfold State.react
  extract_lets -merge s0 s1 s2 x3 s4
  have h0 : Kept im r₀ s0 := State.reactIrq_kept _ hk
  have h1 : Kept im r₀ s1 := Kept.ite h0 (State.trap_kept h0)
  have h2 : Kept im r₀ s2 := State.reactPin_kept _ h1
  have h4 : Kept im r₀ s4 := State.reactChip_kept _ h2
  clear_value s0 s1 s2 s4
  exact Kept.ite h4 (State.reactBlock_kept _ h4)
theorem State.classify_kept (i) (hk : Kept im r₀ s) : Kept im r₀ (s.classify i).1 := by
  unfold State.classify
  extract_lets -merge s1 x0 s2 s3 x4
  have h1 : Kept im r₀ s1 := Kept.ite (State.closeWindow_kept _ hk) hk
  have h2 : Kept im r₀ s2 := Kept.ite h1 (State.setFlt_kept _ (State.putB_kept _ _ h1))
  have h3 : Kept im r₀ s3 := State.bump_kept _ _ h2
  exact Kept.ite (State.setPair_kept _ _ _ _ h3) h3
theorem State.takeEvent_kept (i) (hk : Kept im r₀ s) : Kept im r₀ (s.takeEvent i).1 :=
  have h := State.classify_kept i (State.latchSrc_kept i hk)
  Kept.ite h (State.emit_kept _ _ _ _ h)
theorem State.takeEvents_kept (l) (hk : Kept im r₀ s) : Kept im r₀ (s.takeEvents l).1 := by
  induction l generalizing s with
  | nil => exact hk
  | cons i t ih => exact ih (State.takeEvent_kept _ hk)
theorem execFaultEvent_keeps (fc srcs) (hk : Kept im r₀ s) : Keeps im r₀ (execFaultEvent fc srcs s) :=
  keeps_next (State.react_kept _ (State.takeEvents_kept _ (State.setFlt_kept _ (State.at_kept _ hk))))
theorem execFaultWindowClose_keeps (fc i) (hk : Kept im r₀ s) : Keeps im r₀ (execFaultWindowClose fc i s) := by
  unfold execFaultWindowClose
  extract_lets -merge s0
  have h0 : Kept im r₀ s0 := State.at_kept _ hk
  clear_value s0
  exact keeps_okIf (Kept.ite (State.closeWindow_kept _ h0) h0)
theorem State.clearSrc_kept (i) (hk : Kept im r₀ s) : Kept im r₀ (State.clearSrc s i) := by
  unfold State.clearSrc
  extract_lets -merge s0 s1 s2 s3 s4
  have h0 : Kept im r₀ s0 := State.setPair_kept _ _ _ _ hk
  have h1 : Kept im r₀ s1 := State.setPair_kept _ _ _ _ h0
  have h2 : Kept im r₀ s2 := State.setPair_kept _ _ _ _ h1
  have h3 : Kept im r₀ s3 := State.put_kept _ _ (State.put_kept _ _ (State.put_kept _ _ h2))
  have h4 : Kept im r₀ s4 := State.put_kept _ _ (State.put_kept _ _ (State.put_kept _ _ h3))
  clear_value s0 s1 s2 s3 s4
  exact Kept.ite hk (Kept.ite (State.bump_kept _ _ hk) (State.put_kept _ _ h4))
theorem execFltStatusClear_keeps (fc hi v) (hk : Kept im r₀ s) : Keeps im r₀ (execFltStatusClear fc hi v s) := by
  unfold execFltStatusClear
  extract_lets -merge x0
  exact keeps_next (Kept.each (State.at_kept _ hk) (fun t a h1 => (State.clearSrc_kept _ h1)))
theorem execAliveToggle_keeps (fc) (hk : Kept im r₀ s) : Keeps im r₀ (execAliveToggle fc s) := by
  unfold execAliveToggle
  extract_lets -merge s0
  have h0 : Kept im r₀ s0 := State.at_kept _ hk
  clear_value s0
  exact Keeps.ite (keeps_next h0) (keeps_next (State.onceATurn_kept h0 fun _ h => State.putB_kept _ _ (State.put_kept _ _ h)))

end Sys2Proof.Machine
end

