-- ==== Sys2Proof/Laws/KeptRestart.lean ====
section
/-! SUPPORT. The operations and meanings of Machine/Restart.lean keep what their argument keeps (Laws/Frame.lean). -/
namespace Sys2Proof.Machine

variable {im : Bool} {r₀ s : State}

theorem State.showCap_kept (sl) (hk : Kept im r₀ s) : Kept im r₀ (State.showCap s sl) := by
  unfold State.showCap
  split
  · exact hk
  · exact State.puti_kept _ _ hk
theorem State.setGain_kept (sl g) (hk : Kept im r₀ s) : Kept im r₀ (State.setGain s sl g) := by
  unfold State.setGain
  extract_lets -merge s0
  have h0 : Kept im r₀ s0 := State.setWant_kept _ _ hk
  clear_value s0
  exact State.puti_kept _ _ h0
theorem State.restartTile_kept (sl) (hk : Kept im r₀ s) : Kept im r₀ (State.restartTile s sl) := by
  unfold State.restartTile
  extract_lets -merge x0
  exact Kept.ite (State.setFab_kept _ hk) (State.startFill_kept _ hk)
theorem State.restartSlot_kept (sl tile lane) (hk : Kept im r₀ s) : Kept im r₀ (State.restartSlot s sl tile lane) := by
  unfold State.restartSlot
  extract_lets -merge x0 s1
  have h1 : Kept im r₀ s1 := Kept.ite (State.restartTile_kept _ hk) hk
  clear_value s1
  exact Kept.ite (State.setGouge_kept _ hk) (Kept.ite (State.startFromPlan_kept _ _ h1) h1)
theorem State.startSlot_kept (sl) (hk : Kept im r₀ s) : Kept im r₀ (State.startSlot s sl) := by
  unfold State.startSlot
  extract_lets -merge x0 s1 s2 s3
  have h1 : Kept im r₀ s1 := Kept.sec hk rfl rfl
  have h2 : Kept im r₀ s2 := Kept.ite (State.restartSlot_kept _ _ _ h1) (State.startFromPlan_kept _ _ (State.restartTile_kept _ h1))
  have h3 : Kept im r₀ s3 := State.setGain_kept _ _ (State.showCap_kept _ (State.firstLimit_kept _ h2))
  clear_value s1 s2 s3
  exact Kept.ite (State.lvlStart_kept _ h3) h3
theorem State.stopSlot_kept (sl) (hk : Kept im r₀ s) : Kept im r₀ (State.stopSlot s sl) := by
  unfold State.stopSlot
  extract_lets -merge x0 s1
  have h1 : Kept im r₀ s1 := State.putB_kept _ _ (State.setFab_kept _ hk)
  clear_value s1
  exact State.stopLane_kept _ h1
theorem State.restartTaps_kept (hk : Kept im r₀ s) : Kept im r₀ (State.restartTaps s) := by
  unfold State.restartTaps
  refine Kept.each hk (fun t a h0 => ?_)
  extract_lets -merge s1
  have h1 : Kept im r₀ s1 := Kept.ite (State.restartSlot_kept _ _ _ h0) (State.restartTile_kept _ h0)
  clear_value s1
  exact Kept.ite (State.startLane_kept _ _ _ _ _ h1) h1
theorem State.restartAll_kept (hk : Kept im r₀ s) : Kept im r₀ (State.restartAll s) := by
  unfold State.restartAll
  exact Kept.each hk (fun t a h0 => (State.restartSlot_kept _ _ _ h0))
theorem State.clearBlock_kept (n keep) (hk : Kept im r₀ s) : Kept im r₀ (State.clearBlock s n keep) := by
  unfold State.clearBlock
  extract_lets -merge x0 s1
  have h1 : Kept im r₀ s1 := hk.to rfl
  clear_value s1
  exact Kept.each h1 (fun t a h2 => (State.put_kept _ _ h2))
theorem State.abortDesc_kept (k) (hk : Kept im r₀ s) : Kept im r₀ (State.abortDesc s k) := by
  unfold State.abortDesc
  split
  · exact hk
  · exact State.completeAt_kept _ _ _ _ _ _ _ _ (State.dropXfer_kept _ hk)
theorem State.convHold_kept (hk : Kept im r₀ s) : Kept im r₀ (State.convHold s) := by
  unfold State.convHold
  extract_lets -merge s0 x1 s2 x3 s4
  have h0 : Kept im r₀ s0 := State.calAbort_kept _ hk
  have h2 : Kept im r₀ s2 := State.clearBlock_kept _ _ h0
  have h4 : Kept im r₀ s4 := State.setCva_kept _ h2
  clear_value s0 s2 s4
  exact State.muteDacs_kept (State.synthOff_kept _ (State.synthOff_kept _ h4))
theorem State.convRestart_kept (hk : Kept im r₀ s) : Kept im r₀ (State.convRestart s) := by
  unfold State.convRestart
  extract_lets -merge s0
  have h0 : Kept im r₀ s0 := Kept.each hk (fun t a h1 => (Kept.ite (State.reacquire_kept _ _ h1) h1))
  clear_value s0
  exact State.muteDacs_kept h0
theorem State.fabricHold_kept (hk : Kept im r₀ s) : Kept im r₀ (State.fabricHold s) := by
  unfold State.fabricHold
  extract_lets -merge s0 s2 s4 s6 x8
  have h0 : Kept im r₀ s0 := Kept.each hk (fun t a h1 => (State.abortDesc_kept _ (State.freeCapture_kept _ h1)))
  have h2 : Kept im r₀ s2 := Kept.each h0 (fun t a h3 => (State.put_kept _ _ h3))
  have h4 : Kept im r₀ s4 := Kept.each h2 (fun t a h5 => (State.put_kept _ _ h5))
  have h6 : Kept im r₀ s6 := Kept.each h4 (fun t a h7 => (State.putB_kept _ _ (State.puti_kept _ _ (State.puti_kept _ _ (State.puti_kept _ _ h7)))))
  clear_value s0 s2 s4 s6
  exact State.live_kept _ _ (State.setFab_kept _ h6)
theorem State.fabricRestart_kept (hk : Kept im r₀ s) : Kept im r₀ (State.fabricRestart s) := by
  unfold State.fabricRestart
  extract_lets -merge s0
  have h0 : Kept im r₀ s0 := State.restartTaps_kept hk
  clear_value s0
  exact Kept.ite hk (Kept.each h0 (fun t a h1 => (State.lvlStart_kept _ h1)))
theorem State.gougeHold_kept (hk : Kept im r₀ s) : Kept im r₀ (State.gougeHold s) := by
  unfold State.gougeHold
  extract_lets -merge x0 s1 x3 s4 s5
  have h1 : Kept im r₀ s1 := Kept.each hk (fun t a h2 => (State.abortDesc_kept _ h2))
  have h4 : Kept im r₀ s4 := State.setGouge_kept _ h1
  have h5 : Kept im r₀ s5 := State.put_kept _ _ (State.put_kept _ _ h4)
  clear_value s1 s4 s5
  refine Kept.each h5 (fun t a h6 => ?_)
  extract_lets -merge x7 s8 s9 s10
  have h8 : Kept im r₀ s8 := State.setGg_kept _ _ h6
  have h9 : Kept im r₀ s9 := State.putB_kept _ _ (State.put_kept _ _ h8)
  have h10 : Kept im r₀ s10 := Kept.each h9 (fun t a h11 => (State.put_kept _ _ h11))
  clear_value s8 s9 s10
  exact h10
theorem State.gougeRestart_kept (hk : Kept im r₀ s) : Kept im r₀ (State.gougeRestart s) := by
  unfold State.gougeRestart
  exact Kept.each hk (fun t a h0 => (State.restartSlot_kept _ _ _ h0))
theorem State.sequencerHold_kept (hk : Kept im r₀ s) : Kept im r₀ (State.sequencerHold s) := by
  unfold State.sequencerHold
  extract_lets -merge x0 s1 s2 x3 x4 s5
  have h1 : Kept im r₀ s1 := State.seqHold_kept hk
  have h2 : Kept im r₀ s2 := State.clearBlock_kept _ _ h1
  have h5 : Kept im r₀ s5 := State.setSeq_kept _ h2
  clear_value s1 s2 s5
  exact State.syncSeq_kept (State.syncTuns_kept (Kept.each h5 (fun t a h6 => (State.put_kept _ _ (State.put_kept _ _ h6)))))
theorem State.gaugeHold_kept (hk : Kept im r₀ s) : Kept im r₀ (State.gaugeHold s) := by
  unfold State.gaugeHold
  exact State.gauHold_kept hk
theorem State.gaugeRestart_kept (hk : Kept im r₀ s) : Kept im r₀ (State.gaugeRestart s) := by
  unfold State.gaugeRestart
  exact State.gauCalAll_kept hk
theorem State.controlHold_kept (hk : Kept im r₀ s) : Kept im r₀ (State.controlHold s) := by
  unfold State.controlHold
  extract_lets -merge s0 x loops s1 c s2
  have h0 : Kept im r₀ s0 := State.releaseHalt_kept hk
  have h1 : Kept im r₀ s1 := State.clearBlock_kept _ _ h0
  have h2 : Kept im r₀ s2 := State.setCtl_kept _ h1
  exact State.syncLoops_kept h2
theorem State.controlRestart_kept (hk : Kept im r₀ s) : Kept im r₀ (State.controlRestart s) := by
  unfold State.controlRestart
  extract_lets -merge s0 s4
  have h0 : Kept im r₀ s0 := by
    unfold s0
    refine Kept.each hk (fun t a h1 => ?_)
    extract_lets -merge x2 s3
    have h3 : Kept im r₀ s3 := State.setLoop_kept _ _ h1
    clear_value s3
    exact State.put_kept _ _ h3
  have h4 : Kept im r₀ s4 := Kept.ite (Kept.each h0 (fun t a h5 => (State.lvlStart_kept _ h5))) h0
  clear_value s0 s4
  exact State.syncLoops_kept h4
theorem State.pwmHold_kept (hk : Kept im r₀ s) : Kept im r₀ (State.pwmHold s) := by
  unfold State.pwmHold
  extract_lets -merge s0 s1 x2 x3 s4
  have h0 : Kept im r₀ s0 := State.unfreeze_kept hk
  have h1 : Kept im r₀ s1 := State.clearBlock_kept _ _ h0
  have h4 : Kept im r₀ s4 := State.setPwm_kept _ h1
  clear_value s0 s1 s4
  exact State.driveAll_kept h4
theorem State.pwmRestart_kept (hk : Kept im r₀ s) : Kept im r₀ (State.pwmRestart s) := by
  unfold State.pwmRestart
  extract_lets -merge s0 s1
  have h0 : Kept im r₀ s0 := State.arm_kept _ (State.put_kept _ _ hk)
  have h1 : Kept im r₀ s1 := by
    unfold s1
    refine Kept.each h0 (fun t a h2 => ?_)
    extract_lets -merge x3
    exact State.arm_kept _ (Kept.each h2 (fun t a h4 => (State.put_kept _ _ h4)))
  clear_value s0 s1
  exact Kept.ite (State.pwmStart_kept h1) (State.driveAll_kept h1)
theorem State.killActs_kept (hk : Kept im r₀ s) : Kept im r₀ (State.killActs s) := by
  unfold State.killActs
  extract_lets -merge s0 x1 s2
  have h0 : Kept im r₀ s0 := State.safeCause_kept _ (State.killLive_kept (State.raise_kept _ hk))
  have h2 : Kept im r₀ s2 := State.setPwr_kept _ h0
  clear_value s0 s2
  exact State.seqRecheck_kept (State.settlePins_kept (State.muteDacs_kept h2))
theorem State.killEnds_kept (hk : Kept im r₀ s) : Kept im r₀ (State.killEnds s) := by
  unfold State.killEnds
  exact State.seqRecheck_kept (State.settlePins_kept (State.muteDacs_kept (State.killLive_kept hk)))
theorem State.setApz_kept (a) (hk : Kept im r₀ s) : Kept im r₀ (State.setApz s a) := by
  unfold State.setApz
  exact hk.to rfl
theorem State.killOnset_kept (i) (hk : Kept im r₀ s) : Kept im r₀ (State.killOnset s i) := by
  unfold State.killOnset
  extract_lets -merge x0
  exact State.setApz_kept _ hk
theorem State.syncKill_kept (i) (hk : Kept im r₀ s) : Kept im r₀ (State.syncKill s i) := by
  unfold State.syncKill
  extract_lets -merge x0 x1 s2
  have h2 : Kept im r₀ s2 := State.putB_kept _ _ hk
  clear_value s2
  exact Kept.ite (State.killActs_kept (State.killOnset_kept _ (State.bump_kept _ _ h2))) (Kept.ite (State.killEnds_kept h2) h2)
theorem State.syncKills_kept (hk : Kept im r₀ s) : Kept im r₀ (State.syncKills s) := by
  unfold State.syncKills
  exact State.syncKill_kept _ (State.syncKill_kept _ hk)
theorem State.syncApz_kept (hk : Kept im r₀ s) : Kept im r₀ (State.syncApz s) := by
  unfold State.syncApz
  exact State.live_kept _ _ hk
theorem State.apzRole_kept (hk : Kept im r₀ s) : Kept im r₀ (State.apzRole s) := by
  unfold State.apzRole
  extract_lets -merge x0
  exact State.put_kept _ _ (State.put_kept _ _ hk)
theorem State.apzHold_kept (hk : Kept im r₀ s) : Kept im r₀ (State.apzHold s) := by
  unfold State.apzHold
  extract_lets -merge x0 s1 s2
  have h1 : Kept im r₀ s1 := State.setApz_kept _ hk
  have h2 : Kept im r₀ s2 := Kept.each h1 (fun t a h3 => (State.put_kept _ _ h3))
  clear_value s1 s2
  exact State.syncApz_kept (State.syncKills_kept (State.apzRole_kept h2))
theorem State.holdBlock_kept (unit b) (hk : Kept true r₀ s) : Kept true r₀ (State.holdBlock s unit b) := by
  unfold State.holdBlock
  split
  · exact State.convHold_kept hk
  · exact State.fabricHold_kept hk
  · exact State.gougeHold_kept hk
  · exact State.sequencerHold_kept hk
  · exact State.gaugeHold_kept hk
  · exact State.pwmHold_kept hk
  · exact State.controlHold_kept hk
  · exact State.hifBlockReset_kept _ hk
  · exact State.apzHold_kept hk
theorem State.restartBlock_kept (b) (hk : Kept im r₀ s) : Kept im r₀ (State.restartBlock s b) := by
  unfold State.restartBlock
  split
  · exact State.convRestart_kept hk
  · exact State.fabricRestart_kept hk
  · exact State.gougeRestart_kept hk
  · exact State.seqRestart_kept hk
  · exact State.gaugeRestart_kept hk
  · exact State.pwmRestart_kept hk
  · exact State.controlRestart_kept hk
  · exact hk
  · exact State.apzRole_kept hk
theorem State.blockBoundary_kept (unit) (hk : Kept true r₀ s) : Kept true r₀ (State.blockBoundary s unit) := by
  unfold State.blockBoundary
  extract_lets -merge x0 x1 x2 x3 s4 s5
  have h4 : Kept true r₀ s4 := State.setFlt_kept _ hk
  have h5 : Kept true r₀ s5 := Kept.each h4 (fun t a h6 => (State.bump_kept _ _ (State.holdBlock_kept _ _ h6)))
  clear_value s4 s5
  exact Kept.each h5 (fun t a h7 => (State.restartBlock_kept _ h7))

end Sys2Proof.Machine
end

