-- ==== Sys2Proof/Laws/KeptPower.lean ====
section
/-! SUPPORT. The operations and meanings of Machine/Power.lean keep what their argument keeps (Laws/Frame.lean). -/
namespace Sys2Proof.Machine

variable {im : Bool} {r₀ s : State}

theorem State.flashEnd_kept (r) (hk : Kept im r₀ s) : Kept im r₀ (State.flashEnd s r) := by
  unfold State.flashEnd
  extract_lets -merge x0 x1 x2 x3 x4 s5 s6 x7 s8
  have h5 : Kept im r₀ s5 := Kept.plan hk rfl
  have h6 : Kept im r₀ s6 := State.putB_kept _ _ (State.putB_kept _ _ h5)
  have h8 : Kept im r₀ s8 := h6.to rfl
  clear_value s5 s6 s8
  exact Kept.ite hk (State.put_kept _ _ (State.put_kept _ _ h8))
theorem State.cancelInjection_kept (hk : Kept im r₀ s) : Kept im r₀ (State.cancelInjection s) := by
  unfold State.cancelInjection
  exact Kept.ite (State.bump_kept _ _ (State.putB_kept _ _ hk)) hk
theorem State.enterStandby_kept (hk : Kept im r₀ s) : Kept im r₀ (State.enterStandby s) := by
  unfold State.enterStandby
  extract_lets -merge s0 s1
  have h0 : Kept im r₀ s0 := State.releaseHalt_kept (State.calAbort_kept _ hk)
  have h1 : Kept im r₀ s1 := State.loopsStop_kept (State.pwmStandby_kept (State.synthOff_kept _ (State.synthOff_kept _ h0)))
  clear_value s0 s1
  exact State.dropChallenge_kept (State.endSession_kept _ h1)
theorem State.enterListen_kept (hk : Kept im r₀ s) : Kept im r₀ (State.enterListen s) := by
  unfold State.enterListen
  extract_lets -merge x0 s1 s2 s3 s4 s5
  have h1 : Kept im r₀ s1 := State.setPwr_kept _ hk
  have h2 : Kept im r₀ s2 := Kept.ite h1 (State.loadStore_kept h1)
  have h3 : Kept im r₀ s3 := Kept.ite h2 (State.pwmStart_kept h2)
  have h4 : Kept im r₀ s4 := Kept.ite h3 (State.restartAll_kept h3)
  have h5 : Kept im r₀ s5 := Kept.ite h4 (Kept.each h4 (fun t a h6 => (State.lvlStart_kept _ h6)))
  clear_value s1 s2 s3 s4 s5
  exact State.calStart_kept _ _ _ _ _ h5
theorem State.setState_kept (new cause mask) (hk : Kept im r₀ s) : Kept im r₀ (State.setState s new cause mask) := by
  unfold State.setState
  extract_lets -merge x0 s1 x2 s3 s4 s5 x6 s7 s8 x9 s10 s11 s12 s13
  have h1 : Kept im r₀ s1 := State.put_kept _ _ (State.put_kept _ _ hk)
  have h3 : Kept im r₀ s3 := State.setPwr_kept _ h1
  have h4 : Kept im r₀ s4 := State.emit_kept _ _ _ _ h3
  have h5 : Kept im r₀ s5 := State.put_kept _ _ h4
  have h7 : Kept im r₀ s7 := State.setPwr_kept _ h5
  have h8 : Kept im r₀ s8 := Kept.ite (State.loopsLeaveSafe_kept (State.leaveCleared_kept h7)) h4
  have h10 : Kept im r₀ s10 := Kept.ite (State.loopsSafe_kept (State.put_kept _ _ (State.setPwr_kept _ h8))) h8
  have h11 : Kept im r₀ s11 := Kept.ite (State.enterStandby_kept h10) h10
  have h12 : Kept im r₀ s12 := Kept.ite (State.enterListen_kept h11) h11
  have h13 : Kept im r₀ s13 := Kept.ite (State.syncApz_kept (State.put_kept _ _ h12)) h12
  clear_value s1 s3 s4 s5 s7 s8 s10 s11 s12 s13
  exact State.settleJtag_kept (State.muteDacs_kept (State.cancelInjection_kept (State.seqState_kept _ h13)))
theorem State.startSynths_kept (hk : Kept im r₀ s) : Kept im r₀ (State.startSynths s) := by
  unfold State.startSynths
  extract_lets -merge x0 s1
  have h1 : Kept im r₀ s1 := State.setPwr_kept _ hk
  clear_value s1
  exact Kept.each h1 (fun t a h2 => (Kept.ite h2 (State.acquire_kept _ h2)))
theorem State.failReq_kept (cause detail) (hk : Kept im r₀ s) : Kept im r₀ (State.failReq s cause detail) := by
  unfold State.failReq
  extract_lets -merge x0
  split
  · exact hk
  · exact State.failedOpt_kept _ _ _ (State.setPwr_kept _ hk)
theorem State.stopLeaving_kept (hk : Kept im r₀ s) : Kept im r₀ (State.stopLeaving s) := by
  unfold State.stopLeaving
  extract_lets -merge x0 s1
  have h1 : Kept im r₀ s1 := State.setPwr_kept _ hk
  clear_value s1
  exact Kept.ite hk (State.muteDacs_kept (State.synthOff_kept _ (State.synthOff_kept _ h1)))
theorem State.calStop_kept (cause) (hk : Kept im r₀ s) : Kept im r₀ (State.calStop s cause) := by
  unfold State.calStop
  split
  · exact Kept.ite (State.calAbort_kept _ hk) hk
  · exact hk
theorem State.takeReq_kept (target desc) (hk : Kept im r₀ s) : Kept im r₀ (State.takeReq s target desc) := by
  unfold State.takeReq
  extract_lets -merge x0 s1
  have h1 : Kept im r₀ s1 := State.setPwr_kept _ (State.failReq_kept _ _ hk)
  clear_value s1
  exact Kept.ite (State.startSynths_kept h1) (Kept.ite (State.calStop_kept _ h1) h1)
theorem execStateRequest_keeps (fc sq idx) (hk : Kept im r₀ s) : Keeps im r₀ (execStateRequest fc sq idx s) := by
  unfold execStateRequest
  refine keeps_next ?_
  refine Kept.withDesc hk (fun d t h0 => ?_)
  extract_lets -merge x1 x2 x3 x4 s5 s6
  have h5 : Kept im r₀ s5 := Kept.ite (State.flashEnd_kept _ h0) h0
  have h6 : Kept im r₀ s6 := State.stopLeaving_kept (State.failReq_kept _ _ h5)
  clear_value s5 s6
  exact Kept.ite (State.failed_kept _ _ _ h5) (Kept.ite (State.done_kept _ _ h6) (State.takeReq_kept _ _ h5))
theorem State.enterSafe_kept (mask cause) (hk : Kept im r₀ s) : Kept im r₀ (State.enterSafe s mask cause) := by
  unfold State.enterSafe
  extract_lets -merge x0 s1 x2
  have h1 : Kept im r₀ s1 := State.setState_kept _ _ _ hk
  clear_value s1
  clear_value x0
  split
  · exact h1
  · exact Kept.ite (State.doneOpt_kept _ _ (State.setPwr_kept _ h1)) (Kept.ite h1 (State.failReq_kept _ _ h1))
theorem State.reqDone_kept (hk : Kept im r₀ s) : Kept im r₀ (State.reqDone s) := by
  unfold State.reqDone
  extract_lets -merge x0
  split
  · exact hk
  · exact State.doneOpt_kept _ _ (State.setPwr_kept _ hk)
theorem State.carryReq_kept (hk : Kept im r₀ s) : Kept im r₀ (State.carryReq s) := by
  unfold State.carryReq
  extract_lets -merge x0
  split
  · exact hk
  · exact Kept.ite hk (Kept.ite (State.failReq_kept _ _ hk) (Kept.ite (State.reqDone_kept (State.setState_kept _ _ _ hk)) (Kept.ite
      (State.reqDone_kept (Kept.ite hk (State.setState_kept _ _ _ hk))) (Kept.ite (State.reqDone_kept (State.setState_kept _ _ _ hk)) (Kept.ite hk
          (Kept.ite (State.failReq_kept _ _ hk) (Kept.ite (State.failReq_kept _ _ hk) (State.reqDone_kept (State.setState_kept _ _ _ hk)))))))))
theorem State.scheduled_kept (hk : Kept im r₀ s) : Kept im r₀ (State.scheduled s) := by
  unfold State.scheduled
  extract_lets -merge x0 x1 x2 x3
  split
  · exact hk
  · extract_lets -merge s4 s5
    have h4 : Kept im r₀ s4 := State.setState_kept _ _ _ hk
    have h5 : Kept im r₀ s5 := State.setState_kept _ _ _ hk
    clear_value s4 s5
    refine Kept.ite ?_ ?_
    · refine Kept.ite (State.setPwr_kept _ hk) ?_
      split
      · exact Kept.ite (State.reqDone_kept h4) (State.failReq_kept _ _ h4)
      · exact h4
    · refine Kept.ite ?_ (Kept.ite (State.setState_kept _ _ _ hk) (State.setPwr_kept _ hk))
      refine Kept.ite ?_ (State.setPwr_kept _ hk)
      split
      · exact Kept.ite (State.reqDone_kept h5) h5
      · exact h5
theorem State.powerBoundary_kept (hk : Kept im r₀ s) : Kept im r₀ (State.powerBoundary s) := by
  unfold State.powerBoundary
  extract_lets -merge x0 x1 s2 s4 x5 x6 s7 x8 s9 x10 x11 s12 x13
  have h2 : Kept im r₀ s2 := Kept.ite (State.muteDacs_kept (Kept.each hk (fun t a h3 => (State.synthOff_kept _ h3)))) hk
  have h4 : Kept im r₀ s4 := State.scheduled_kept h2
  have h7 : Kept im r₀ s7 := Kept.ite (State.enterSafe_kept _ _ h4) (Kept.ite (State.carryReq_kept h4) h4)
  have h9 : Kept im r₀ s9 := State.setPwr_kept _ h7
  have h12 : Kept im r₀ s12 := State.setFlt_kept _ (State.setGrd_kept _ h9)
  clear_value s2 s4 s7 s9 s12
  exact Kept.plan h12 rfl
theorem execSynthLocked_keeps (fc w) (hk : Kept im r₀ s) : Keeps im r₀ (execSynthLocked fc w s) := by
  unfold execSynthLocked
  extract_lets -merge s0 s1 x2 s3 s4 s5
  have h0 : Kept im r₀ s0 := State.at_kept _ hk
  have h1 : Kept im r₀ s1 := State.muteDacs_kept (State.synthLock_kept _ h0)
  have h3 : Kept im r₀ s3 := State.setPwr_kept _ h1
  have h4 : Kept im r₀ s4 := Kept.ite (Kept.ite (State.scheduled_kept h3) h3) h1
  have h5 : Kept im r₀ s5 := Kept.ite h0 (State.seqRecheck_kept h4)
  clear_value s0 s1 s3 s4 s5
  exact keeps_okIf h5
theorem execSynthLockTimeout_keeps (fc w) (hk : Kept im r₀ s) : Keeps im r₀ (execSynthLockTimeout fc w s) := by
  unfold execSynthLockTimeout
  extract_lets -merge s0 x1 x2 s3 s4 s5 s6 x7 s8 s9
  have h0 : Kept im r₀ s0 := State.at_kept _ hk
  have h3 : Kept im r₀ s3 := State.put_kept _ _ h0
  have h4 : Kept im r₀ s4 := State.setSynth_kept _ _ h3
  have h5 : Kept im r₀ s5 := Kept.ite h4 (State.raise_kept _ h4)
  have h6 : Kept im r₀ s6 := State.flashEnd_kept _ (State.failReq_kept _ _ h5)
  have h8 : Kept im r₀ s8 := State.setPwr_kept _ h6
  have h9 : Kept im r₀ s9 := Kept.ite h0 (Kept.ite (State.setSynth_kept _ _ h3) (Kept.ite (State.muteDacs_kept (State.synthOff_kept _ h8))
      (State.seqRecheck_kept h5)))
  clear_value s0 s3 s4 s5 s6 s8 s9
  exact keeps_okIf h9
theorem State.unlocked_kept (w) (hk : Kept im r₀ s) : Kept im r₀ (State.unlocked s w) := by
  unfold State.unlocked
  extract_lets -merge s0 s1
  have h0 : Kept im r₀ s0 := State.raise_kept _ (State.bump_kept _ _ hk)
  have h1 : Kept im r₀ s1 := State.calAbort_kept _ h0
  clear_value s0 s1
  split
  · exact Kept.ite (Kept.ite (State.reacquire_kept _ _ h1) h1) h0
  · exact h0
theorem execSynthLockLoss_keeps (fc w) (hk : Kept im r₀ s) : Keeps im r₀ (execSynthLockLoss fc w s) := by
  unfold execSynthLockLoss
  extract_lets -merge s0 s1
  have h0 : Kept im r₀ s0 := State.at_kept _ hk
  have h1 : Kept im r₀ s1 := Kept.ite h0 (State.seqRecheck_kept (State.muteDacs_kept (State.relock_kept _ (State.unlocked_kept _ h0))))
  clear_value s0 s1
  exact keeps_okIf h1
theorem execPwrVinUv_keeps (fc vin) (hk : Kept im r₀ s) : Keeps im r₀ (execPwrVinUv fc vin s) := by
  unfold execPwrVinUv
  extract_lets -merge s0 s1 s2 s3
  have h0 : Kept im r₀ s0 := State.at_kept _ hk
  have h1 : Kept im r₀ s1 := State.putB_kept _ _ (State.raise_kept _ (State.live_kept _ _ h0))
  have h2 : Kept im r₀ s2 := State.safeCause_kept _ (State.bump_kept _ _ h1)
  have h3 : Kept im r₀ s3 := Kept.ite h0 (State.emit_kept _ _ _ _ h2)
  clear_value s0 s1 s2 s3
  exact keeps_okIf (State.awake_kept h0 h3)
theorem execVinUvRecovery_keeps (fc) (hk : Kept im r₀ s) : Keeps im r₀ (execVinUvRecovery fc s) := by
  unfold execVinUvRecovery
  exact keeps_next (State.putB_kept _ _ (State.live_kept _ _ (State.at_kept _ hk)))
theorem execPwrVinOv_keeps (fc vin) (hk : Kept im r₀ s) : Keeps im r₀ (execPwrVinOv fc vin s) := by
  unfold execPwrVinOv
  extract_lets -merge s0 s1 s2
  have h0 : Kept im r₀ s0 := State.at_kept _ hk
  have h1 : Kept im r₀ s1 := State.safeCause_kept _ (State.putB_kept _ _ (State.raise_kept _ (State.live_kept _ _ h0)))
  have h2 : Kept im r₀ s2 := Kept.ite h0 (State.emit_kept _ _ _ _ h1)
  clear_value s0 s1 s2
  exact keeps_okIf (State.awake_kept h0 h2)
theorem execVinOvRecovery_keeps (fc) (hk : Kept im r₀ s) : Keeps im r₀ (execVinOvRecovery fc s) := by
  unfold execVinOvRecovery
  exact keeps_next (State.putB_kept _ _ (State.live_kept _ _ (State.at_kept _ hk)))
theorem State.toStandby_kept (hk : Kept im r₀ s) : Kept im r₀ (State.toStandby s) := by
  unfold State.toStandby
  extract_lets -merge x0 s1
  have h1 : Kept im r₀ s1 := State.setState_kept _ _ _ hk
  clear_value s1
  exact Kept.ite hk (Kept.ite (State.stopLeaving_kept (Kept.ite hk (State.failReq_kept _ _ hk))) (Kept.ite (State.reqDone_kept h1)
      (State.failReq_kept _ _ h1)))
theorem execVinShutdown_keeps (fc vin) (hk : Kept im r₀ s) : Keeps im r₀ (execVinShutdown fc vin s) := by
  unfold execVinShutdown
  extract_lets -merge s0
  have h0 : Kept im r₀ s0 := State.at_kept _ hk
  clear_value s0
  exact keeps_okIf (State.awake_kept h0 (State.toStandby_kept (State.emit_kept _ _ _ _ h0)))
theorem State.dieOff_kept (w) (hk : Kept im r₀ s) : Kept im r₀ (State.dieOff s w) := by
  unfold State.dieOff
  extract_lets -merge s0
  have h0 : Kept im r₀ s0 := by
    unfold s0
    split
    · exact Kept.ite (State.calAbort_kept _ hk) hk
    · exact hk
  clear_value s0
  exact State.seqRecheck_kept (State.muteDacs_kept (State.synthOff_kept _ h0))
theorem State.holdNow_kept (unit b) (hk : Kept true r₀ s) : Kept true r₀ (State.holdNow s unit b) := by
  unfold State.holdNow
  extract_lets -merge x0 s1
  have h1 : Kept true r₀ s1 := State.setFlt_kept _ hk
  clear_value s1
  exact State.holdBlock_kept _ _ h1
theorem State.gougeOff_kept (hk : Kept im r₀ s) : Kept im r₀ (State.gougeOff s) := by
  unfold State.gougeOff
  refine Kept.each hk (fun t a h0 => ?_)
  extract_lets -merge x1 s2
  have h2 : Kept im r₀ s2 := State.setGg_kept _ _ h0
  clear_value s2
  exact State.put_kept _ _ h2
theorem State.railFalls_kept (rail unit) (hk : Kept true r₀ s) : Kept true r₀ (State.railFalls s rail unit) := by
  unfold State.railFalls
  extract_lets -merge s0 s1 s2 s3 x4 s5
  have h0 : Kept true r₀ s0 := State.live_kept _ _ (State.putBit_kept _ _ _ hk)
  have h1 : Kept true r₀ s1 := State.emit_kept _ _ _ _ h0
  have h2 : Kept true r₀ s2 := Kept.ite h1 (State.bump_kept _ _ (State.raise_kept _ h1))
  have h3 : Kept true r₀ s3 := State.safeCause_kept _ (State.holdNow_kept _ _ h2)
  have h5 : Kept true r₀ s5 := State.setFlt_kept _ h3
  clear_value s0 s1 s2 s3 s5
  exact Kept.ite hk (Kept.ite (State.holdNow_kept _ _ (State.gougeOff_kept h5)) (Kept.ite (State.safeCause_kept _ (Kept.each h2 (fun t a h6 =>
      (State.holdNow_kept _ _ h6)))) (State.dieOff_kept _ h2)))
theorem execRailRecovery_keeps (fc rail) (hk : Kept im r₀ s) : Keeps im r₀ (execRailRecovery fc rail s) := by
  unfold execRailRecovery
  extract_lets -merge s0 s1 s2 f3 s5 x6 s7 x8 s9
  have h0 : Kept im r₀ s0 := State.at_kept _ hk
  have h1 : Kept im r₀ s1 := State.putBit_kept _ _ _ h0
  have h2 : Kept im r₀ s2 := State.live_kept _ _ h1
  have h3 : ∀ a0 a1, Kept im r₀ a1 → Kept im r₀ (f3 a0 a1) := by
    intro a0 a1 ha
    unfold f3
    extract_lets -merge x4
    exact State.setFlt_kept _ ha
  have h5 : Kept im r₀ s5 := h3 _ _ h2
  have h7 : Kept im r₀ s7 := State.bump_kept _ _ (State.raise_kept _ (h3 _ _ h2))
  have h9 : Kept im r₀ s9 := Kept.ite h0 (Kept.ite (Kept.ite (State.seqRestart_kept (State.restartTaps_kept h5)) h5) (Kept.ite (Kept.each h7 (fun t a
      h10 => (State.restartBlock_kept _ h10))) (Kept.ite (State.muteDacs_kept (State.reacquire_kept _ _ h2)) (State.muteDacs_kept h2))))
  clear_value s0 s1 s2 f3 s5 s7 s9
  exact keeps_okIf h9
theorem State.gradient_kept (g) (hk : Kept im r₀ s) : Kept im r₀ (State.gradient s g) := by
  unfold State.gradient
  extract_lets -merge s0 s1 s2
  have h0 : Kept im r₀ s0 := State.put_kept _ _ hk
  have h1 : Kept im r₀ s1 := State.put_kept _ _ h0
  have h2 : Kept im r₀ s2 := Kept.ite (State.live_kept _ _ (State.raise_kept _ h1)) (Kept.ite (State.live_kept _ _ h1) h1)
  clear_value s0 s1 s2
  exact State.putB_kept _ _ h2
theorem execTempSensorRead_keeps (fc donor service fabric power) (hk : Kept im r₀ s) : Keeps im r₀ (execTempSensorRead fc donor service fabric power
    s) := by
  unfold execTempSensorRead
  extract_lets -merge s0 x1 x2 s2 s3
  have h0 : Kept im r₀ s0 := State.at_kept _ hk
  have h2 : Kept im r₀ s2 := State.puti_kept _ _ (State.puti_kept _ _ (State.puti_kept _ _ h0))
  have h3 : Kept im r₀ s3 := State.gradient_kept _ h2
  clear_value s0 s2 s3
  split
  · extract_lets -merge s4 x5 f6 s7 s8 x9 s10
    have h4 : Kept im r₀ s4 := State.put_kept _ _ (State.puti_kept _ _ h3)
    have h6 : ∀ a0 a1, Kept im r₀ a1 → Kept im r₀ (f6 a0 a1) := by
      intro a0 a1 ha
      unfold f6
      exact State.emit_kept _ _ _ _ ha
    have h7 : Kept im r₀ s7 := Kept.ite (h6 _ _ (State.live_kept _ _ (State.raise_kept _ h4))) (Kept.ite (State.live_kept _ _ h4) h4)
    have h8 : Kept im r₀ s8 := h6 _ _ (State.live_kept _ _ (State.raise_kept _ h7))
    have h10 : Kept im r₀ s10 := Kept.ite (Kept.ite (State.setPwr_kept _ h8) (State.stopLeaving_kept (Kept.ite (State.failReq_kept _ _ h8) h8)))
        (Kept.ite (State.live_kept _ _ h7) h7)
    clear_value s4 f6 s7 s8 s10
    exact keeps_okIf (State.awake_kept h0 h10)
theorem execKillNFall_keeps (fc) (hk : Kept im r₀ s) : Keeps im r₀ (execKillNFall fc s) := by
  unfold execKillNFall
  extract_lets -merge s0 x1 s2
  have h0 : Kept im r₀ s0 := State.at_kept _ hk
  have h2 : Kept im r₀ s2 := State.setPwr_kept _ h0
  clear_value s0 s2
  exact keeps_next (Kept.ite h0 (State.awake_kept h2 (State.killActs_kept (State.killOnset_kept _ (State.bump_kept _ _ h2)))))
theorem execKillNRise_keeps (fc) (hk : Kept im r₀ s) : Keeps im r₀ (execKillNRise fc s) := by
  unfold execKillNRise
  extract_lets -merge x0 s1
  have h1 : Kept im r₀ s1 := State.setPwr_kept _ (State.at_kept _ hk)
  clear_value s1
  exact keeps_next (State.awake_kept h1 (State.seqRecheck_kept (State.settlePins_kept (State.muteDacs_kept (State.killLive_kept h1)))))
theorem execKillResume_keeps (fc) (hk : Kept im r₀ s) : Keeps im r₀ (execKillResume fc s) := by
  unfold execKillResume
  extract_lets -merge s0 x1 x2
  have h0 : Kept im r₀ s0 := State.at_kept _ hk
  clear_value s0
  exact keeps_next (Kept.ite (State.setPwr_kept _ h0) h0)
theorem execRefclkLoss_keeps (fc) (hk : Kept im r₀ s) : Keeps im r₀ (execRefclkLoss fc s) := by
  unfold execRefclkLoss
  extract_lets -merge s0 x0 x1 s2 s3 x4 s5 s6 s7 s8 s10 s11 s13 s14 x15
  have h0 : Kept im r₀ s0 := State.at_kept _ hk
  have h2 : Kept im r₀ s2 := State.bump_kept _ _ (State.live_kept _ _ (State.raise_kept _ h0))
  have h3 : Kept im r₀ s3 := State.putB_kept _ _ (State.putB_kept _ _ h2)
  have h5 : Kept im r₀ s5 := State.putB_kept _ _ (State.setPwr_kept _ h3)
  have h6 : Kept im r₀ s6 := State.emit_kept _ _ _ _ h5
  have h7 : Kept im r₀ s7 := Kept.ite h6 (State.pwmClockLoss_kept h6)
  have h8 : Kept im r₀ s8 := Kept.each h7 (fun t a h9 => (State.raise_kept _ (State.bump_kept _ _ h9)))
  have h10 : Kept im r₀ s10 := State.calStop_kept _ h8
  have h11 : Kept im r₀ s11 := Kept.each h10 (fun t a h12 => (State.setSynth_kept _ _ h12))
  have h13 : Kept im r₀ s13 := State.seqRecheck_kept (State.settlePins_kept (State.muteDacs_kept h11))
  have h14 : Kept im r₀ s14 := State.enterSafe_kept _ _ h13
  clear_value s0 s2 s3 s5 s6 s7 s8 s10 s11 s13 s14
  exact Keeps.ite (keeps_next h0) (Keeps.ite (keeps_next (State.setPwr_kept _ h0)) (Keeps.ite (keeps_next (State.setPwr_kept _ h14)) (keeps_next h13)))
theorem execRefclkReturn_keeps (fc us) (hk : Kept im r₀ s) : Keeps im r₀ (execRefclkReturn fc us s) := by
  unfold execRefclkReturn
  extract_lets -merge s0 x0 s1 s2 s3 x4 s5 s6 s7 s9
  have h0 : Kept im r₀ s0 := State.at_kept _ hk
  have h1 : Kept im r₀ s1 := State.live_kept _ _ (State.put_kept _ _ h0)
  have h2 : Kept im r₀ s2 := State.putB_kept _ _ (State.putB_kept _ _ h1)
  have h3 : Kept im r₀ s3 := State.emit_kept _ _ _ _ h2
  have h5 : Kept im r₀ s5 := State.setPwr_kept _ h3
  have h6 : Kept im r₀ s6 := Kept.ite h5 (State.pwmClockBack_kept h5)
  have h7 : Kept im r₀ s7 := Kept.each h6 (fun t a h8 => (Kept.ite h8 (State.reacquire_kept _ _ h8)))
  have h9 : Kept im r₀ s9 := Kept.ite (State.restartTaps_kept h7) h7
  clear_value s0 s1 s2 s3 s5 s6 s7 s9
  exact Keeps.ite (keeps_next h0) (Keeps.ite (keeps_next (State.setPwr_kept _ h0)) (keeps_next (State.seqRecheck_kept (State.settlePins_kept (State.muteDacs_kept h9)))))
theorem execAutonomousRecovery_keeps (fc) (hk : Kept im r₀ s) : Keeps im r₀ (execAutonomousRecovery fc s) := by
  unfold execAutonomousRecovery
  extract_lets -merge s0 x1 x2 x3
  have h0 : Kept im r₀ s0 := State.at_kept _ hk
  clear_value s0
  exact keeps_next (Kept.ite (State.setPwr_kept _ h0) h0)
theorem State.safeTurns_kept (hk : Kept im r₀ s) : Kept im r₀ (State.safeTurns s) := by
  unfold State.safeTurns
  extract_lets -merge x0 x1 x2
  exact State.setPwr_kept _ hk

end Sys2Proof.Machine
end

