-- ==== Sys2Proof/Laws/KeptPlans.lean ====
section
/-! SUPPORT. The operations and meanings of Machine/Plans.lean keep what their argument keeps (Laws/Frame.lean). -/
namespace Sys2Proof.Machine

variable {im : Bool} {r₀ s : State}

theorem State.report7_kept (r atSwap) (hk : Kept im r₀ s) : Kept im r₀ (State.report7 s r atSwap) := by
  unfold State.report7
  extract_lets -merge s0 s1 s2
  have h0 : Kept im r₀ s0 := State.putB_kept _ _ (State.put_kept _ _ hk)
  have h1 : Kept im r₀ s1 := State.put_kept _ _ (State.put_kept _ _ h0)
  have h2 : Kept im r₀ s2 := State.bump_kept _ _ h1
  clear_value s0 s1 s2
  exact State.emit_kept _ _ _ _ h2
theorem State.clearImage_kept (hk : Kept true r₀ s) : Kept true r₀ (State.clearImage s) :=
  Kept.moved hk (fun _ => rfl)
theorem execPlanLoad_keeps (fc sq idx) (hk : Kept true r₀ s) : Keeps true r₀ (execPlanLoad fc sq idx s) := by
  unfold execPlanLoad
  refine keeps_next ?_
  refine Kept.withDesc hk (fun d t h0 => ?_)
  extract_lets -merge x1 x2 x3
  exact Kept.ite (State.failed_kept _ _ _ h0) (Kept.ite (State.failed_kept _ _ _ (State.report7_kept _ _ h0)) (State.addXfer_kept _ _ _ _ (Kept.ite
      (State.clearImage_kept h0) h0)))
theorem State.parseFails_kept (r fr) (hk : Kept im r₀ s) : Kept im r₀ (State.parseFails s r fr) := by
  unfold State.parseFails
  extract_lets -merge x0 s1 s2 x3
  have h1 : Kept im r₀ s1 := State.putB_kept _ _ (Kept.plan hk rfl)
  have h2 : Kept im r₀ s2 := State.report7_kept _ _ h1
  clear_value s1 s2
  split
  · exact State.failed_kept _ _ _ h2
  · exact h2
  · split
    · exact State.putB_kept _ _ (State.put_kept _ _ (h2.to rfl))
    · exact State.flashEnd_kept _ h2
    · exact h2
theorem execParseEnd_keeps (fc) (hk : Kept im r₀ s) : Keeps im r₀ (execParseEnd fc s) := by
  unfold execParseEnd
  extract_lets -merge s0 x1
  have h0 : Kept im r₀ s0 := State.at_kept _ hk
  clear_value s0
  split
  · split
    · exact keeps_next (State.parseFails_kept _ _ h0)
    · exact keeps_next (Kept.plan h0 rfl)
  · exact keeps_next h0
theorem execRwsWrite_keeps (fc off v) (hk : Kept im r₀ s) : Keeps im r₀ (execRwsWrite fc off v s) := by
  unfold execRwsWrite
  extract_lets -merge s0 x1 x2 s3
  have h0 : Kept im r₀ s0 := State.at_kept _ hk
  have h3 : Kept im r₀ s3 := h0.to rfl
  clear_value s0 s3
  split
  · exact keeps_next h0
  · exact Keeps.ite (keeps_next h0) (Keeps.ite (keeps_next (State.bump_kept _ _ h0)) (keeps_next (State.putB_kept _ _ h3)))
theorem State.planCtrl_kept {f : PlanCtl → PlanCtl} (hf : ∀ p, (f p).image = p.image) (hk : Kept im r₀ s) : Kept im r₀ (State.planCtrl s f) :=
  Kept.ite hk (Kept.ite (State.bump_kept _ _ hk) (Kept.plan hk (hf _)))
theorem execCopyActive_keeps (fc) (hk : Kept im r₀ s) : Keeps im r₀ (execCopyActive fc s) :=
  State.planCtrl_kept (fun _ => rfl) (State.at_kept _ hk)
theorem execClearShadow_keeps (fc) (hk : Kept im r₀ s) : Keeps im r₀ (execClearShadow fc s) :=
  State.planCtrl_kept (fun _ => rfl) (State.at_kept _ hk)
theorem execFlashLoad_keeps (fc) (hk : Kept im r₀ s) : Keeps im r₀ (execFlashLoad fc s) :=
  State.planCtrl_kept (fun _ => rfl) (State.at_kept _ hk)
theorem State.refuseSwap_kept (w r) (hk : Kept im r₀ s) : Kept im r₀ (State.refuseSwap s w r) := by
  unfold State.refuseSwap
  extract_lets -merge x0 s1 s2 s3
  have h1 : Kept im r₀ s1 := State.putB_kept _ _ (Kept.plan hk rfl)
  have h2 : Kept im r₀ s2 := State.report7_kept _ _ h1
  have h3 : Kept im r₀ s3 := Kept.ite h2 (State.put_kept _ _ (State.raise_kept _ h2))
  clear_value s1 s2 s3
  split
  · exact State.failed_kept _ _ _ h3
  · split
    · exact State.flashEnd_kept _ h3
    · exact h3
theorem State.acceptSwap_kept (mode target desc) (hk : Kept im r₀ s) : Kept im r₀ (State.acceptSwap s mode target desc) := by
  unfold State.acceptSwap
  extract_lets -merge x0 x1
  exact State.putB_kept _ _ (Kept.plan hk rfl)
theorem State.planSwap_kept (fc sq idx mode) (hk : Kept im r₀ s) : Kept im r₀ (State.planSwap s fc sq idx mode) := by
  unfold State.planSwap
  extract_lets -merge x0
  refine Kept.ite (State.at_kept _ hk) ?_
  refine Kept.withDesc hk (fun d t h1 => ?_)
  extract_lets -merge x2
  exact Kept.ite (State.failed_kept _ _ _ h1) (Kept.ite (State.failed_kept _ _ _ h1) (State.acceptSwap_kept _ _ _ h1))
theorem execPlanSwapNext_keeps (fc sq idx) (hk : Kept im r₀ s) : Keeps im r₀ (execPlanSwapNext fc sq idx s) := by
  unfold execPlanSwapNext
  exact keeps_next (State.planSwap_kept _ _ _ _ hk)
theorem execPlanSwapAtTurn_keeps (fc sq idx) (hk : Kept im r₀ s) : Keeps im r₀ (execPlanSwapAtTurn fc sq idx s) := by
  unfold execPlanSwapAtTurn
  exact keeps_next (State.planSwap_kept _ _ _ _ hk)
theorem execPlanSwapCheck_keeps (fc sq idx) (hk : Kept im r₀ s) : Keeps im r₀ (execPlanSwapCheck fc sq idx s) := by
  unfold execPlanSwapCheck
  exact keeps_next (State.planSwap_kept _ _ _ _ hk)
theorem execSwapValidationEnd_keeps (fc) (hk : Kept im r₀ s) : Keeps im r₀ (execSwapValidationEnd fc s) := by
  unfold execSwapValidationEnd
  extract_lets -merge s0 x1
  have h0 : Kept im r₀ s0 := State.at_kept _ hk
  clear_value s0
  split
  · exact keeps_next h0
  · extract_lets -merge s2
    have h2 : Kept im r₀ s2 := Kept.plan h0 rfl
    clear_value s2
    refine Keeps.ite (keeps_next h0) ?_
    split
    · exact keeps_next (State.refuseSwap_kept _ _ h0)
    · exact keeps_next (State.putB_kept _ _ h2)
theorem State.swapVerdict_kept (hk : Kept im r₀ s) : Kept im r₀ (State.swapVerdict s) := by
  unfold State.swapVerdict
  extract_lets -merge x0 s1 x2
  have h1 : Kept im r₀ s1 := State.putB_kept _ _ (Kept.plan hk rfl)
  clear_value s1
  split
  · exact hk
  · refine Kept.ite hk ?_
    refine Kept.ite (Kept.ite (State.refuseSwap_kept _ _ hk) hk) ?_
    split
    · exact State.refuseSwap_kept _ _ hk
    · exact Kept.ite (State.refuseSwap_kept _ _ hk) (Kept.ite (State.doneOpt_kept _ _ h1) (Kept.plan hk rfl))
theorem State.slotSwap_kept (old sl) (hk : Kept im r₀ s) : Kept im r₀ (State.slotSwap s old sl) := by
  unfold State.slotSwap
  extract_lets -merge x0 x1 x2 x3 s4 s5
  have h4 : Kept im r₀ s4 := Kept.ite (State.restartSlot_kept _ _ _ hk) (Kept.ite (State.restartSlot_kept _ _ _ hk) hk)
  have h5 : Kept im r₀ s5 := State.setGain_kept _ _ (State.showCap_kept _ h4)
  clear_value s4 s5
  exact Kept.ite (State.startSlot_kept _ hk) (Kept.ite (State.stopSlot_kept _ hk) (Kept.ite hk (Kept.ite (State.lvlStart_kept _ h5) h5)))
theorem State.settleSwap_kept (old) (hk : Kept im r₀ s) : Kept im r₀ (State.settleSwap s old) := by
  unfold State.settleSwap
  extract_lets -merge x0 x1 x2 x3 x4
  exact State.setCva_kept _ hk
theorem State.discardEffects_kept (hk : Kept im r₀ s) : Kept im r₀ (State.discardEffects s) := by
  unfold State.discardEffects
  extract_lets -merge x0 s1
  have h1 : Kept im r₀ s1 := hk.to rfl
  clear_value s1
  exact Kept.each h1 (fun t a h2 => (State.completeAt_kept _ _ _ _ _ _ _ _ h2))
theorem State.setFlash_kept (g stage) (hk : Kept im r₀ s) : Kept im r₀ (State.setFlash s g stage) := by
  unfold State.setFlash
  extract_lets -merge x0
  exact State.put_kept _ _ (hk.to rfl)
theorem State.flashBegin_kept (auto) (hk : Kept im r₀ s) : Kept im r₀ (State.flashBegin s auto) := by
  unfold State.flashBegin
  extract_lets -merge s0 s1 x2 s3
  have h0 : Kept im r₀ s0 := State.putB_kept _ _ (State.putB_kept _ _ (State.put_kept _ _ hk))
  have h1 : Kept im r₀ s1 := State.put_kept _ _ h0
  have h3 : Kept im r₀ s3 := h1.to rfl
  clear_value s0 s1 s3
  exact Kept.ite (State.put_kept _ _ h3) (State.flashEnd_kept _ h3)
theorem execFlashStart_keeps (fc) (hk : Kept im r₀ s) : Keeps im r₀ (execFlashStart fc s) := by
  unfold execFlashStart
  extract_lets -merge s0
  have h0 : Kept im r₀ s0 := State.at_kept _ hk
  clear_value s0
  exact keeps_next (Kept.ite (State.flashBegin_kept _ h0) h0)
theorem execFlashReadEnd_keeps (fc bytes) (hk : Kept true r₀ s) : Keeps true r₀ (execFlashReadEnd fc bytes s) := by
  unfold execFlashReadEnd
  extract_lets -merge s0 x1 x2 x3 x4 s5 x6
  have h0 : Kept true r₀ s0 := State.at_kept _ hk
  have h5 : Kept true r₀ s5 := State.loadBytes_kept _ _ (State.clearImage_kept h0)
  clear_value s0 s5
  split
  · exact Keeps.ite (keeps_next (State.flashEnd_kept _ h0)) (keeps_next (Kept.ite (State.setFlash_kept _ _ h0) (State.setFlash_kept _ _ h0)))
  · extract_lets -merge x7 s8 x9
    have h8 : Kept true r₀ s8 := h0.to rfl
    clear_value s8
    exact keeps_next (State.setFlash_kept _ _ (Kept.sec h8 rfl rfl))
  · extract_lets -merge x10 x11
    refine keeps_next ?_
    split
    · exact State.flashEnd_kept _ h0
    · exact State.setFlash_kept _ _ h0
  · extract_lets -merge s12
    have h12 : Kept true r₀ s12 := State.putB_kept _ _ (Kept.plan h5 rfl)
    clear_value s12
    exact Keeps.ite (keeps_next h0) (keeps_next (State.setFlash_kept _ _ h12))
  · exact keeps_next h0
theorem State.flashBoundary_kept (hk : Kept im r₀ s) : Kept im r₀ (State.flashBoundary s) := by
  unfold State.flashBoundary
  extract_lets -merge s0
  have h0 : Kept im r₀ s0 := State.flashEnd_kept _ (State.setState_kept _ _ _ hk)
  clear_value s0
  split
  · exact Kept.ite (Kept.ite (State.startSynths_kept hk) hk) (Kept.ite (State.setFlash_kept _ _ hk) (State.flashEnd_kept _ hk))
  · exact Kept.ite (State.flashEnd_kept _ hk) (Kept.ite hk (Kept.ite (h0.to rfl) (Kept.ite (State.flashEnd_kept _ hk) hk)))
  · exact hk
theorem State.replaceShadow_kept (hk : Kept im r₀ s) : Kept im r₀ (State.replaceShadow s) := by
  unfold State.replaceShadow
  split
  · exact hk
  · extract_lets -merge s0 x1 s2 s3
    have h0 : Kept im r₀ s0 := hk.to rfl
    have h2 : Kept im r₀ s2 := State.putB_kept _ _ (Kept.plan h0 rfl)
    have h3 : Kept im r₀ s3 := State.putB_kept _ _ (State.putB_kept _ _ h2)
    clear_value s0 s2 s3
    split
    · exact State.doneBoundary_kept _ _ h3
    · exact h3
    · extract_lets -merge s4
      have h4 : Kept im r₀ s4 := State.putB_kept _ _ h3
      clear_value s4
      split
      · exact Kept.ite (State.acceptSwap_kept _ _ _ (State.setFlash_kept _ _ h4)) (State.flashEnd_kept _ h4)
      · exact h3
theorem State.planCtrlActs_kept (hk : Kept im r₀ s) : Kept im r₀ (State.planCtrlActs s) := by
  unfold State.planCtrlActs
  extract_lets -merge x0 x1 s2 x3 s4 s5
  have h2 : Kept im r₀ s2 := Kept.plan hk rfl
  have h4 : Kept im r₀ s4 := Kept.ite (State.put_kept _ _ (State.put_kept _ _ (h2.to rfl))) h2
  have h5 : Kept im r₀ s5 := Kept.ite (State.putB_kept _ _ (State.putB_kept _ _ (h4.to rfl))) h4
  clear_value s2 s4 s5
  exact Kept.ite (State.flashBegin_kept _ h5) h5
theorem State.planError_kept (kind word single) (hk : Kept im r₀ s) : Kept im r₀ (State.planError s kind word single) := by
  unfold State.planError
  extract_lets -merge s0 x1 x2 x3
  have h0 : Kept im r₀ s0 := State.raise_kept _ (State.bump_kept _ _ hk)
  clear_value s0
  exact Kept.ite h0 (Kept.ite (Kept.plan h0 rfl) (Kept.ite (Kept.plan (State.putB_kept _ _ h0) rfl) (Kept.ite (State.putB_kept _ _ h0) (Kept.plan h0
      rfl))))
theorem execPlanEcc_keeps (fc kind word single) (hk : Kept im r₀ s) : Keeps im r₀ (execPlanEcc fc kind word single s) := by
  unfold execPlanEcc
  have h0 := State.at_kept (fc) hk
  exact keeps_okIf (State.awake_kept h0 (State.planError_kept _ _ _ h0))

end Sys2Proof.Machine
end

