-- ==== Sys2Proof/Laws/KeptApzer.lean ====
section
/-! SUPPORT. The operations and meanings of Machine/Apzer.lean keep what their argument keeps (Laws/Frame.lean). -/
namespace Sys2Proof.Machine

variable {im : Bool} {r₀ s : State}

theorem State.apzValid_kept (i kill) (hk : Kept im r₀ s) : Kept im r₀ (State.apzValid s i kill) := by
  unfold State.apzValid
  extract_lets -merge x0 x1
  exact State.syncKill_kept _ (State.setApz_kept _ hk)
theorem State.apzPiece_kept (f) (hk : Kept im r₀ s) : Kept im r₀ (State.apzPiece s f) := by
  unfold State.apzPiece
  extract_lets -merge x0 x1
  exact State.setApz_kept _ hk
theorem State.apzFrame0_kept (kill) {f : State → State} (hf : ∀ t, Kept im r₀ t → Kept im r₀ (f t)) (hk : Kept im r₀ s) :
    Kept im r₀ (State.apzFrame0 s kill f) := by
  unfold State.apzFrame0
  refine Kept.ite hk ?_
  extract_lets -merge s1
  have h1 : Kept im r₀ s1 := State.apzValid_kept _ _ hk
  clear_value s1
  exact Kept.ite h1 (hf _ h1)
theorem execApzMark_keeps (t16 data kill) (hk : Kept im r₀ s) : Keeps im r₀ (execApzMark t16 data kill s) := by
  unfold execApzMark
  extract_lets -merge s0 s1
  have h0 : Kept im r₀ s0 := State.at_kept _ hk
  have h1 : Kept im r₀ s1 := by
    unfold s1
    refine State.apzFrame0_kept _ (fun t h2 => ?_) h0
    extract_lets -merge x3 x4 s5 x6 s7 x8
    have h5 : Kept im r₀ s5 := State.setApz_kept _ h2
    have h7 : Kept im r₀ s7 := State.puti_kept _ _ h5
    clear_value s5 s7
    exact Kept.ite (State.setApz_kept _ h7) h5
  clear_value s0 s1
  exact keeps_okIf h1
theorem execApzCountFrame_keeps (fc k data kill) (hk : Kept im r₀ s) : Keeps im r₀ (execApzCountFrame fc k data kill s) := by
  unfold execApzCountFrame
  extract_lets -merge s0 s1
  have h0 : Kept im r₀ s0 := State.at_kept _ hk
  have h1 : Kept im r₀ s1 := by
    unfold s1
    refine State.apzFrame0_kept _ (fun t h2 => ?_) h0
    exact State.apzPiece_kept _ h2
  clear_value s0 s1
  exact keeps_okIf h1
theorem execApzEpochFrame_keeps (fc k data kill) (hk : Kept im r₀ s) : Keeps im r₀ (execApzEpochFrame fc k data kill s) := by
  unfold execApzEpochFrame
  extract_lets -merge s0 s1
  have h0 : Kept im r₀ s0 := State.at_kept _ hk
  have h1 : Kept im r₀ s1 := by
    unfold s1
    refine State.apzFrame0_kept _ (fun t h2 => ?_) h0
    exact State.apzPiece_kept _ h2
  clear_value s0 s1
  exact keeps_okIf h1
theorem execApzHopFrame_keeps (fc data kill) (hk : Kept im r₀ s) : Keeps im r₀ (execApzHopFrame fc data kill s) := by
  unfold execApzHopFrame
  extract_lets -merge s0 s1
  have h0 : Kept im r₀ s0 := State.at_kept _ hk
  have h1 : Kept im r₀ s1 := by
    unfold s1
    refine State.apzFrame0_kept _ (fun t h2 => ?_) h0
    extract_lets -merge x3 x4 s5
    have h5 : Kept im r₀ s5 := Kept.ite (State.setApz_kept _ h2) (State.setApz_kept _ h2)
    clear_value s5
    exact State.apzPiece_kept _ h5
  clear_value s0 s1
  exact keeps_okIf h1
theorem execApzDelayFrame_keeps (fc k data kill) (hk : Kept im r₀ s) : Keeps im r₀ (execApzDelayFrame fc k data kill s) := by
  unfold execApzDelayFrame
  extract_lets -merge s0 s1
  have h0 : Kept im r₀ s0 := State.at_kept _ hk
  have h1 : Kept im r₀ s1 := by
    unfold s1
    refine State.apzFrame0_kept _ (fun t h2 => ?_) h0
    extract_lets -merge s3
    have h3 : Kept im r₀ s3 := State.apzPiece_kept _ h2
    clear_value s3
    exact Kept.ite (State.put_kept _ _ h3) h3
  clear_value s0 s1
  exact keeps_okIf h1
theorem execApzEcho_keeps (t16 kill) (hk : Kept im r₀ s) : Keeps im r₀ (execApzEcho t16 kill s) := by
  unfold execApzEcho
  extract_lets -merge s0 s1 x2 x3 x4 x5 s6
  have h0 : Kept im r₀ s0 := State.at_kept _ hk
  have h1 : Kept im r₀ s1 := State.apzValid_kept _ _ h0
  have h6 : Kept im r₀ s6 := Kept.ite h0 (Kept.ite h1 (State.tick_kept (State.put_kept _ _ (State.setApz_kept _ h1))))
  clear_value s0 s1 s6
  exact keeps_okIf h6
theorem execApzIdleFrame_keeps (fc i kill) (hk : Kept im r₀ s) : Keeps im r₀ (execApzIdleFrame fc i kill s) := by
  unfold execApzIdleFrame
  extract_lets -merge s0
  have h0 : Kept im r₀ s0 := State.at_kept _ hk
  clear_value s0
  exact keeps_okIf (Kept.ite (State.apzValid_kept _ _ h0) h0)
theorem execApzInvalidFrame_keeps (fc i) (hk : Kept im r₀ s) : Keeps im r₀ (execApzInvalidFrame fc i s) := by
  unfold execApzInvalidFrame
  extract_lets -merge s0 x1 x2
  have h0 : Kept im r₀ s0 := State.at_kept _ hk
  clear_value s0
  exact keeps_okIf (Kept.ite h0 (State.bump_kept _ _ (State.setApz_kept _ h0)))
theorem State.holdover_kept (hk : Kept im r₀ s) : Kept im r₀ (State.holdover s) := by
  unfold State.holdover
  extract_lets -merge s0 x1 s2
  have h0 : Kept im r₀ s0 := State.emit_kept _ _ _ _ (State.raise_kept _ hk)
  have h2 : Kept im r₀ s2 := State.setApz_kept _ h0
  clear_value s0 s2
  exact State.syncApz_kept (State.put_kept _ _ h2)
theorem State.apzLinkDown_kept (i cause) (hk : Kept im r₀ s) : Kept im r₀ (State.apzLinkDown s i cause) := by
  unfold State.apzLinkDown
  exact State.emit_kept _ _ _ _ (State.raise_kept _ hk)
theorem execApzInputDown_keeps (fc i cause) (hk : Kept im r₀ s) : Keeps im r₀ (execApzInputDown fc i cause s) := by
  unfold execApzInputDown
  extract_lets -merge s0 s1 x2 s3 x4 s5 s6 s7
  have h0 : Kept im r₀ s0 := State.at_kept _ hk
  have h1 : Kept im r₀ s1 := State.apzLinkDown_kept _ _ (State.bump_kept _ _ (State.putB_kept _ _ h0))
  have h3 : Kept im r₀ s3 := State.setApz_kept _ h1
  have h5 : Kept im r₀ s5 := State.setApz_kept _ h3
  have h6 : Kept im r₀ s6 := Kept.ite (Kept.ite (State.holdover_kept h5) h5) h3
  have h7 : Kept im r₀ s7 := Kept.ite h0 (State.syncApz_kept (State.syncKill_kept _ h6))
  clear_value s0 s1 s3 s5 s6 s7
  exact keeps_okIf h7
theorem execApzInputUp_keeps (fc i) (hk : Kept im r₀ s) : Keeps im r₀ (execApzInputUp fc i s) := by
  unfold execApzInputUp
  extract_lets -merge s0 s1
  have h0 : Kept im r₀ s0 := State.at_kept _ hk
  have h1 : Kept im r₀ s1 := Kept.ite h0 (State.syncApz_kept (State.syncKill_kept _ (State.putB_kept _ _ h0)))
  clear_value s0 s1
  exact keeps_okIf h1
theorem execNoLeader_keeps (fc) (hk : Kept im r₀ s) : Keeps im r₀ (execNoLeader fc s) := by
  unfold execNoLeader
  extract_lets -merge s0 x1 x2
  have h0 : Kept im r₀ s0 := State.at_kept _ hk
  clear_value s0
  exact keeps_next (Kept.ite (State.syncApz_kept (State.setApz_kept _ (State.apzLinkDown_kept _ _ h0))) h0)
theorem State.rebase_kept (d) (hk : Kept im r₀ s) : Kept im r₀ (State.rebase s d) := by
  unfold State.rebase
  extract_lets -merge x0 x1 x2 x3 x4 x5 x6 x7 x8 x9 x10 x11 x12 x13 x14 x15 x16 x17 x18 x19 x20 x21 x22
  exact hk.to rfl
theorem State.apzBoundary_kept (hk : Kept im r₀ s) : Kept im r₀ (State.apzBoundary s) := by
  unfold State.apzBoundary
  extract_lets -merge x0 x1 x2 x3 s4 x5 x6 x7 x8 s9 x10 x11
  have h4 : Kept im r₀ s4 := State.setApz_kept _ hk
  have h9 : Kept im r₀ s9 := State.setApz_kept _ h4
  clear_value s4 s9
  exact Kept.ite (Kept.ite (State.holdover_kept h4) (State.setApz_kept _ h4)) (Kept.ite (Kept.ite (State.setApz_kept _ h4) h4) (Kept.ite (Kept.ite
      (State.syncApz_kept (State.apzLinkDown_kept _ _ (State.setApz_kept _ h9))) (Kept.ite (State.syncApz_kept (State.setApz_kept _ h9)) h9)) h4))
theorem State.apzConfigured_kept (oldRole) (hk : Kept im r₀ s) : Kept im r₀ (State.apzConfigured s oldRole) := by
  unfold State.apzConfigured
  extract_lets -merge s0 x3 s4
  have h0 : Kept im r₀ s0 := by
    unfold s0
    refine Kept.each hk (fun t a h1 => ?_)
    extract_lets -merge x2
    exact Kept.ite h1 (State.putB_kept _ _ (State.setApz_kept _ h1))
  have h4 : Kept im r₀ s4 := Kept.ite h0 (State.apzRole_kept (State.setApz_kept _ h0))
  clear_value s0 s4
  exact State.syncApz_kept (State.syncKills_kept h4)

end Sys2Proof.Machine
end

