-- ==== Sys2Proof/Laws/KeptResets.lean ====
section
/-! SUPPORT. The operations and meanings of Machine/Resets.lean keep what their argument keeps (Laws/Frame.lean). -/
namespace Sys2Proof.Machine

variable {im : Bool} {r₀ s : State}

theorem State.released_kept (straps) (hk : Kept im r₀ s) : Kept im r₀ (State.released s straps) := by
  unfold State.released
  extract_lets -merge x0 s1
  have h1 : Kept im r₀ s1 := State.put_kept _ _ (State.setPwr_kept _ hk)
  clear_value s1
  exact Kept.ite hk (State.live_kept _ _ (State.live_kept _ _ (State.killLive_kept (State.gauCalAll_kept h1))))
theorem execPorRelease_keeps (fc straps) (hk : Kept im r₀ s) : Keeps im r₀ (execPorRelease fc straps s) := by
  unfold execPorRelease
  extract_lets -merge x0 s1
  have h1 : Kept im r₀ s1 := State.setPwr_kept _ (State.at_kept _ hk)
  clear_value s1
  exact keeps_okIf (State.released_kept _ h1)
theorem execResetNRelease_keeps (fc straps) (hk : Kept im r₀ s) : Keeps im r₀ (execResetNRelease fc straps s) := by
  unfold execResetNRelease
  extract_lets -merge x0 s1
  have h1 : Kept im r₀ s1 := State.setPwr_kept _ (State.at_kept _ hk)
  clear_value s1
  exact keeps_okIf (State.released_kept _ h1)
theorem State.boot_kept (hk : Kept im r₀ s) : Kept im r₀ (State.boot s) := by
  unfold State.boot
  exact State.emit_kept _ _ _ _ hk
theorem State.sealedEnd_kept (passed set) (hk : Kept im r₀ s) : Kept im r₀ (State.sealedEnd s passed set) := by
  unfold State.sealedEnd
  extract_lets -merge x0 x1
  split
  · exact State.verdict_kept _ _ (State.put_kept _ _ (State.setCva_kept _ hk))
  · exact State.verdict_kept _ _ (State.emit_kept _ _ _ _ (State.authFail_kept _ _ (State.put_kept _ _ (State.tick_kept hk))))
theorem execSelfTestEnd_keeps (fc failed sealedSet) (hk : Kept im r₀ s) : Keeps im r₀ (execSelfTestEnd fc failed sealedSet s) := by
  unfold execSelfTestEnd
  extract_lets -merge s0 f1
  have h0 : Kept im r₀ s0 := State.at_kept _ hk
  have h1 : ∀ a0, Kept im r₀ a0 → Kept im r₀ (f1 a0) := by
    intro a0 ha
    unfold f1
    extract_lets -merge s2 x3 s4 s5 s6 x7 x8 s9
    have h2 : Kept im r₀ s2 := State.writeRec_kept _ _ _ _ ha
    have h4 : Kept im r₀ s4 := State.setPwr_kept _ h2
    have h5 : Kept im r₀ s5 := by
      unfold s5
      split
      · exact State.put_kept _ _ h4
      · exact State.emit_kept _ _ _ _ (State.put_kept _ _ h4)
    have h6 : Kept im r₀ s6 := State.sealedEnd_kept _ _ h5
    have h9 : Kept im r₀ s9 := Kept.each (Kept.sec h6 rfl rfl) (fun t a h10 => (State.emit_kept _ _ _ _ h10))
    clear_value s2 s4 s5 s6 s9
    exact State.boot_kept (State.setState_kept _ _ _ h9)
  clear_value s0 f1
  exact keeps_okIf (Kept.ite (h1 _ h0) h0)
theorem execFltInjectArm_keeps (fc checker twoBits index) (hk : Kept im r₀ s) : Keeps im r₀ (execFltInjectArm fc checker twoBits index s) := by
  unfold execFltInjectArm
  extract_lets -merge s0 x1 s2 s3
  have h0 : Kept im r₀ s0 := State.at_kept _ hk
  have h2 : Kept im r₀ s2 := State.putB_kept _ _ (State.put_kept _ _ h0)
  have h3 : Kept im r₀ s3 := Kept.ite (State.bump_kept _ _ h0) (State.putB_kept _ _ (State.put_kept _ _ h2))
  clear_value s0 s2 s3
  exact keeps_okIf h3
theorem nextOr_kept {o} (hk : Kept im r₀ s) (ho : Keeps im r₀ o) : Kept im r₀ (nextOr s o) := by
  unfold nextOr
  split
  · exact ho
  · exact hk
theorem execInjectedError_keeps (fc p) (hk : Kept im r₀ s) : Keeps im r₀ (execInjectedError fc p s) := by
  unfold execInjectedError
  extract_lets -merge s0 x1 x2 f3 s4
  have h0 : Kept im r₀ s0 := State.at_kept _ hk
  have h3 : Kept im r₀ (f3 s0) := State.bump_kept _ _ (State.putB_kept _ _ h0)
  have h4 : Kept im r₀ s4 := by
    unfold s4
    refine Kept.ite h0 ?_
    split
    · exact nextOr_kept h0 (execFabEcc_keeps _ _ _ h3)
    · split
      · exact h0
      · extract_lets -merge s5 x6
        have h5 : Kept im r₀ s5 := nextOr_kept h0 (execChzCoefParity_keeps _ _ h3)
        clear_value s5
        exact Kept.ite (State.setFab_kept _ h5) h5
    · exact Kept.ite (nextOr_kept h0 (execGougeTapEcc_keeps _ _ _ _ h3)) h0
    · exact State.planError_kept _ _ _ h3
    · exact nextOr_kept h0 (execLogMem_keeps _ _ _ _ h3)
    · exact h0
  exact keeps_okIf (State.awake_kept h0 h4)

end Sys2Proof.Machine
end

