-- ==== Sys2Proof/Laws/KeptCaptures.lean ====
section
/-! SUPPORT. The operations and meanings of Machine/Captures.lean keep what their argument keeps (Laws/Frame.lean). -/
namespace Sys2Proof.Machine

variable {im : Bool} {r₀ s : State}

theorem execCapture_keeps (fc sq idx) (hk : Kept im r₀ s) : Keeps im r₀ (execCapture fc sq idx s) := by
  unfold execCapture
  refine keeps_next ?_
  refine Kept.withDesc hk (fun d t h0 => ?_)
  extract_lets -merge x1 x2 x3 x4 x5 x6
  refine Kept.ite (State.failed_kept _ _ _ h0) ?_
  refine Kept.ite (State.failed_kept _ _ _ h0) ?_
  refine Kept.ite (State.failed_kept _ _ _ h0) ?_
  clear_value x5
  split
  · exact State.failed_kept _ _ _ h0
  · extract_lets -merge x7 s8
    have h8 : Kept im r₀ s8 := State.setHif_kept _ h0
    clear_value s8
    exact State.addXfer_kept _ _ _ _ h8
theorem State.captureTurn_kept (st) (hk : Kept im r₀ s) : Kept im r₀ (State.captureTurn s st) := by
  unfold State.captureTurn
  exact Kept.each hk (fun t a h0 => (State.setCapture_kept _ h0))
theorem State.captureBoundary_kept (hk : Kept im r₀ s) : Kept im r₀ (State.captureBoundary s) := by
  unfold State.captureBoundary
  extract_lets -merge s0 x2
  have h0 : Kept im r₀ s0 := Kept.each hk (fun t a h1 => (Kept.ite (State.setCapture_kept _ h1) h1))
  clear_value s0
  exact State.choose_kept (State.setFab_kept _ h0)
theorem execCaptureTrigger_keeps (fc h) (hk : Kept im r₀ s) : Keeps im r₀ (execCaptureTrigger fc h s) := by
  unfold execCaptureTrigger
  extract_lets -merge s0 s1
  have h0 : Kept im r₀ s0 := State.at_kept _ hk
  have h1 : Kept im r₀ s1 := by
    unfold s1
    split
    · exact h0
    · extract_lets -merge x2 x3 x4 x5
      exact Kept.ite h0 (State.setCapture_kept _ h0)
  clear_value s0 s1
  exact keeps_okIf h1
theorem execCaptureRecordingEnd_keeps (fc engine w l) (hk : Kept im r₀ s) : Keeps im r₀ (execCaptureRecordingEnd fc engine w l s) := by
  unfold execCaptureRecordingEnd
  extract_lets -merge s0 s1
  have h0 : Kept im r₀ s0 := State.at_kept _ hk
  have h1 : Kept im r₀ s1 := by
    unfold s1
    split
    · exact h0
    · extract_lets -merge x2
      exact Kept.ite h0 (State.choose_kept (State.setCapture_kept _ h0))
  clear_value s0 s1
  exact keeps_okIf h1
theorem execCaptureShareOverrun_keeps (fc engine w l) (hk : Kept im r₀ s) : Keeps im r₀ (execCaptureShareOverrun fc engine w l s) := by
  unfold execCaptureShareOverrun
  extract_lets -merge s0 s1
  have h0 : Kept im r₀ s0 := State.at_kept _ hk
  have h1 : Kept im r₀ s1 := by
    unfold s1
    split
    · exact h0
    · extract_lets -merge x2 x3
      exact Kept.ite h0 (State.choose_kept (State.setCapture_kept _ h0))
  clear_value s0 s1
  exact keeps_okIf h1
theorem execNoTrigger_keeps (fc engine) (hk : Kept im r₀ s) : Keeps im r₀ (execNoTrigger fc engine s) := by
  unfold execNoTrigger
  extract_lets -merge s0 s1
  have h0 : Kept im r₀ s0 := State.at_kept _ hk
  have h1 : Kept im r₀ s1 := by
    unfold s1
    split
    · exact h0
    · exact Kept.ite h0 (State.failed_kept _ _ _ (State.dropXfer_kept _ (State.freeCapture_kept _ h0)))
  clear_value s0 s1
  exact keeps_okIf h1

end Sys2Proof.Machine
end

