-- ==== Sys2Proof/Laws/KeptViews.lean ====
section
/-! SUPPORT. The operations and meanings of Machine/Views.lean keep what their argument keeps (Laws/Frame.lean). -/
namespace Sys2Proof.Machine

variable {im : Bool} {r₀ s : State}

theorem State.clearRc_kept (f g) (hk : Kept im r₀ s) : Kept im r₀ (State.clearRc s f g) := by
  unfold State.clearRc
  extract_lets -merge x0 s1
  have h1 : Kept im r₀ s1 := hk.to rfl
  clear_value s1
  exact State.put_kept _ _ h1
theorem State.clearOnRead_kept (off) (hk : Kept im r₀ s) : Kept im r₀ (State.clearOnRead s off) := by
  unfold State.clearOnRead
  split
  · exact hk
  · exact Kept.ite (Kept.each hk (fun t a h0 => (State.clearRc_kept _ _ h0))) hk
theorem State.latchUpper_kept (off) (hk : Kept im r₀ s) : Kept im r₀ (State.latchUpper s off) := by
  unfold State.latchUpper
  exact hk.to rfl

end Sys2Proof.Machine
end

