-- ==== Sys2Proof/Laws/KeptRegisters.lean ====
section
/-! SUPPORT. The operations and meanings of Machine/Registers.lean keep what their argument keeps (Laws/Frame.lean). -/
namespace Sys2Proof.Machine

variable {im : Bool} {r₀ s : State}

theorem State.writeField_kept (off v f) (hk : Kept im r₀ s) : Kept im r₀ (State.writeField s off v f) := by
  unfold State.writeField
  extract_lets -merge x0 x1 x2
  split
  · exact Kept.ite hk (State.put_kept _ _ hk)
  · exact Kept.ite hk (State.put_kept _ _ hk)
  · exact State.put_kept _ _ hk
  · exact hk
theorem State.afterWrite_kept (r i off oldRole) (hk : Kept im r₀ s) : Kept im r₀ (State.afterWrite s r i off oldRole) := by
  unfold State.afterWrite
  extract_lets -merge x0
  exact Kept.ite (State.setLog_kept _ hk) (Kept.ite (Kept.ite (State.link_kept _ (State.putBit_kept _ _ _ hk)) hk) (Kept.ite
      (State.apzConfigured_kept _ hk) hk))
theorem State.writeReg_kept (off v) (hk : Kept im r₀ s) : Kept im r₀ (State.writeReg s off v) := by
  unfold State.writeReg
  extract_lets -merge x0 s1
  have h1 : Kept im r₀ s1 := Kept.ite (State.pwmSample_kept _ hk) hk
  clear_value s1
  split
  · exact hk
  · exact Kept.ite hk (Kept.ite (State.bump_kept _ _ hk) (State.afterWrite_kept _ _ _ _ (Kept.each h1 (fun t a h2 => (State.writeField_kept _ _ _
      h2)))))
theorem execRegisterWrite_keeps (fc off len v) (hk : Kept im r₀ s) : Keeps im r₀ (execRegisterWrite fc off len v s) := by
  unfold execRegisterWrite
  extract_lets -merge s0
  have h0 : Kept im r₀ s0 := State.at_kept _ hk
  clear_value s0
  exact keeps_next (Kept.ite h0 (Kept.ite (State.askDoorbells_kept h0) (Kept.ite h0 (State.writeReg_kept _ _ h0))))
theorem State.readReg_kept (off) (hk : Kept im r₀ s) : Kept im r₀ (s.readReg off).2 := by
  unfold State.readReg
  split
  · exact State.clearOnRead_kept _ (State.latchUpper_kept _ hk)
  · split
    · exact hk.to rfl
    · exact State.clearOnRead_kept _ hk
theorem State.hostRead_kept (off len) (hk : Kept im r₀ s) : Kept im r₀ (State.hostRead s off len) :=
  State.link_kept _ (State.readReg_kept _ hk)
theorem execWideLowRead_keeps (fc off len) (hk : Kept im r₀ s) : Keeps im r₀ (execWideLowRead fc off len s) := by
  unfold execWideLowRead
  exact keeps_okIf (State.hostRead_kept _ _ (State.at_kept _ hk))
theorem execWideUpperRead_keeps (fc off len) (hk : Kept im r₀ s) : Keeps im r₀ (execWideUpperRead fc off len s) := by
  unfold execWideUpperRead
  exact keeps_okIf (State.hostRead_kept _ _ (State.at_kept _ hk))
theorem execClearOnRead_keeps (fc off len) (hk : Kept im r₀ s) : Keeps im r₀ (execClearOnRead fc off len s) := by
  unfold execClearOnRead
  exact keeps_next (State.hostRead_kept _ _ (State.at_kept _ hk))

end Sys2Proof.Machine
end

