-- ==== Sys2Proof/Laws/KeptTurn.lean ====
section
/-! SUPPORT. The operations and meanings of Machine/Turn.lean keep what their argument keeps (Laws/Frame.lean). -/
namespace Sys2Proof.Machine

variable {im : Bool} {r₀ s : State}

theorem State.dropDue_kept (hk : Kept im r₀ s) : Kept im r₀ (State.dropDue s) := by
  unfold State.dropDue
  exact hk.to rfl
theorem State.setpointEffect_kept (e) (hk : Kept im r₀ s) : Kept im r₀ (State.setpointEffect s e) := by
  unfold State.setpointEffect
  split
  · exact State.doneBoundary_kept _ _ (State.takeSetpoint_kept _ _ hk)
  · exact hk
theorem State.logEffects_kept (due) (hk : Kept im r₀ s) : Kept im r₀ (State.logEffects s due) := by
  unfold State.logEffects
  extract_lets -merge x0 x1 s2 s3
  have h2 : Kept im r₀ s2 := State.setLog_kept _ hk
  have h3 : Kept im r₀ s3 := State.logBoundary_kept _ _ _ h2
  clear_value s2 s3
  exact Kept.each h3 (fun t a h4 => (State.doneBoundary_kept _ _ h4))
theorem State.calEffect_kept (e) (hk : Kept im r₀ s) : Kept im r₀ (State.calEffect s e) := by
  unfold State.calEffect
  split
  · exact Kept.ite (State.completeAt_kept _ _ _ _ _ _ _ _ hk) (Kept.ite (State.completeAt_kept _ _ _ _ _ _ _ _ hk) (Kept.ite (State.completeAt_kept _
      _ _ _ _ _ _ _ hk) (State.calStart_kept _ _ _ _ _ hk)))
  · exact hk
theorem State.readRegs_kept (n off) (hk : Kept im r₀ s) : Kept im r₀ (s.readRegs off n).2 := by
  induction n generalizing s off with
  | zero => exact hk
  | succ n ih => exact ih _ (State.readReg_kept _ hk)
theorem State.gaugeRecords_kept (l) (hk : Kept im r₀ s) : Kept im r₀ (s.gaugeRecords l).2 := by
  induction l generalizing s with
  | nil => exact hk
  | cons i t ih => exact ih (State.put_kept _ _ (State.put_kept _ _ (State.putB_kept _ _ (State.putB_kept _ _ hk))))
theorem State.readEffect_kept (e) (hk : Kept im r₀ s) : Kept im r₀ (State.readEffect s e) := by
  unfold State.readEffect
  split
  · exact hk
  · split
    · exact State.addXfer_kept _ _ _ _ (State.readRegs_kept _ _ hk)
    · exact State.addXfer_kept _ _ _ _ (State.gaugeRecords_kept _ hk)
    · exact hk
theorem State.endTurn_kept (st) (hk : Kept im r₀ s) : Kept im r₀ (State.endTurn s st) := by
  unfold State.endTurn
  exact State.ovrBoundary_kept _ (State.runPaths_kept _ (State.captureTurn_kept _ ⟨hk.1, hk.2, fun _ => Nat.zero_lt_succ _, hk.4⟩))
theorem State.snapshots_kept (m) (hk : Kept im r₀ s) : Kept im r₀ (State.snapshots s m) := by
  unfold State.snapshots
  extract_lets -merge s0 s1
  have h0 : Kept im r₀ s0 := State.levelsBoundary_kept (State.fabricMeas_kept _ hk)
  have h1 : Kept im r₀ s1 := State.slipBoundary_kept (State.mergeBoundary_kept (State.coefBoundary_kept _ h0))
  clear_value s0 s1
  exact State.pwmBoundary_kept (State.lvlBoundary_kept (State.captureBoundary_kept h1))
theorem State.stagedResults_kept (m perm) (hk : Kept im r₀ s) : Kept im r₀ (State.stagedResults s m perm) := by
  unfold State.stagedResults
  extract_lets -merge s0 s1 s4
  have h0 : Kept im r₀ s0 := State.guardBoundary_kept hk
  have h1 : Kept im r₀ s1 := by
    unfold s1
    refine Kept.ite ?_ (State.applyGains_kept h0)
    refine State.dropSwitches_kept ?_
    refine Kept.each h0 (fun t a h2 => ?_)
    extract_lets -merge x3
    exact State.setGg_kept _ _ h2
  have h4 : Kept im r₀ s4 := State.seqBoundary_kept _ _ h1
  clear_value s0 s1 s4
  exact State.lateRestarts_kept (Kept.ite h4 (State.gougeBoundary_kept h4))
theorem State.boundaryLink_kept (hk : Kept im r₀ s) : Kept im r₀ (State.boundaryLink s) := by
  unfold State.boundaryLink
  extract_lets -merge x0 x1 s2 s3 x5
  have h2 : Kept im r₀ s2 := Kept.sec hk rfl rfl
  have h3 : Kept im r₀ s3 := Kept.each h2 (fun t a h4 => (State.doneBoundary_kept _ _ h4))
  clear_value s2 s3
  exact State.askDoorbells_kept (State.choose_kept (State.setHif_kept _ h3))
theorem execCommitWindow_keeps (hk : Kept im r₀ s) : Keeps im r₀ (execCommitWindow s) := by
  unfold execCommitWindow
  extract_lets -merge s0
  have h0 : Kept im r₀ s0 := State.at_kept _ hk
  clear_value s0
  exact keeps_next (Kept.ite h0 (State.onceATurn_kept h0 fun _ h => State.stageGains_kept (State.swapVerdict_kept h)))
theorem State.gougeOverrun_kept (sl) (hk : Kept im r₀ s) : Kept im r₀ (State.gougeOverrun s sl) := by
  unfold State.gougeOverrun
  extract_lets -merge x0
  exact State.setGg_kept _ _ hk
theorem State.flagOverrun_kept (cls) (hk : Kept im r₀ s) : Kept im r₀ (State.flagOverrun s cls) := by
  unfold State.flagOverrun
  extract_lets -merge x0 s1 s2 s3
  have h1 : Kept im r₀ s1 := hk.to rfl
  have h2 : Kept im r₀ s2 := Kept.ite (State.bump_kept _ _ h1) h1
  have h3 : Kept im r₀ s3 := State.putB_kept _ _ (State.putB_kept _ _ h2)
  clear_value s1 s2 s3
  exact Kept.ite hk (Kept.ite (Kept.ite (State.raise_kept _ (State.putB_kept _ _ h2)) (State.putB_kept _ _ h2)) (Kept.ite (Kept.ite (State.raise_kept
      _ (State.putB_kept _ _ h2)) (State.putB_kept _ _ h2)) (State.raise_kept _ (State.bump_kept _ _ h3))))
theorem execTurnOverrun_keeps (fc cls) (hk : Kept im r₀ s) : Keeps im r₀ (execTurnOverrun fc cls s) := by
  unfold execTurnOverrun
  extract_lets -merge s0 x1 s2
  have h0 : Kept im r₀ s0 := State.at_kept _ hk
  have h2 : Kept im r₀ s2 := Kept.ite h0 (State.flagOverrun_kept _ (Kept.each h0 (fun t a h3 => (Kept.ite (State.guardOverrun_kept _ h3) (Kept.ite
      (State.gougeOverrun_kept _ h3) (State.lvlOverrun_kept _ h3))))))
  clear_value s0 s2
  exact keeps_okIf h2

end Sys2Proof.Machine
end

