-- ==== Sys2Proof/Laws/Grown.lean ====
section
/-! SUPPORT. The operations that do write the core: the Turn count, the swap, the OTP and the resets. Every command keeps the variant and
the queue, and burns the OTP only forward, within its bounds. -/
namespace Sys2Proof.Machine

variable {im : Bool} {r₀ s : State}

/-- What the core without the OTP may become. -/
theorem Grown.free {t : State} (h : Grown im r₀ s)
    (e : (t.variant, t.pending, t.sec, t.plan.image, t.fc) = (s.variant, s.pending, s.sec, s.plan.image, s.fc)) : Grown im r₀ t := by
  simp only [Prod.mk.injEq] at e
  obtain ⟨e1, e2, e3, e4, e5⟩ := e
  exact h.trans ⟨e1, e2, fun g => ⟨e3 ▸ Otp.grows_refl _, e3 ▸ g⟩, fun g => e4 ▸ g, fun g => e5 ▸ g, fun _ => e4⟩

/-! ### The Turn and the swap -/

theorem State.spindle_grown (hk : Grown im r₀ s) : Grown im r₀ s.spindle := hk.free rfl

theorem State.acquireApz_grown (hk : Grown im r₀ s) : Grown im r₀ s.acquireApz := by
  unfold State.acquireApz
  extract_lets -merge x0 x1 x2 x3 x4 s5 x6 x7 s8 s9 s10 s11 s12 s13
  have h5 : Kept im s s5 := State.setApz_kept _ (Kept.refl _)
  have h8 : Kept im s s8 := State.rebase_kept _ h5
  have h10 : Kept im s9 s10 := State.put_kept _ _ (State.put_kept _ _ (Kept.refl _))
  have h11 : Kept im s9 s11 := State.emit_kept _ _ _ _ h10
  have h12 : Kept im s9 s12 := Kept.ite (State.emit_kept _ _ _ _ (State.bump_kept _ _ h11)) h11
  have h13 : Kept im s9 s13 := by
    unfold s13
    split
    · exact Kept.ite (State.refuseSwap_kept _ _ h12) h12
    · exact h12
  have h9 : Grown im r₀ s9 := (hk.keep h8).free rfl
  clear_value s5 s8 s9 s10 s11 s12 s13
  exact Grown.ite hk (Grown.ite (hk.keep (State.syncApz_kept (State.apzLinkDown_kept _ _ (State.put_kept _ _ h5))))
    (h9.keep (State.syncApz_kept h13)))

theorem State.countTurn_grown (hk : Grown im r₀ s) : Grown im r₀ s.countTurn := by
  unfold State.countTurn
  extract_lets -merge s1 s2
  have h1 : Grown im r₀ s1 := State.spindle_grown (hk.free rfl)
  have h2 : Kept im s1 s2 := State.putB_kept _ _ (State.putB_kept _ _ (Kept.refl _))
  exact (State.acquireApz_grown (h1.keep (State.newTurnPaths_kept h2))).keep (State.apzBoundary_kept (Kept.refl _))

theorem State.commitSwap_grown (w) (hk : Grown im r₀ s) : Grown im r₀ (s.commitSwap w) := by
  unfold State.commitSwap
  extract_lets -merge x0 x1 s2 x3 s4 s5 s6 s7 s8 s9 s10 s11 s12 s13 s14 s15
  have h2 : Grown im r₀ s2 := hk.free rfl
  have h4 : Kept im s2 s4 := Kept.plan (Kept.refl _) rfl
  have h5 : Kept im s2 s5 := State.putB_kept _ _ (State.put_kept _ _ (State.put_kept _ _ h4))
  have h6 : Kept im s2 s6 := State.put_kept _ _ (State.putB_kept _ _ h5)
  have h7 : Kept im s2 s7 := State.put_kept _ _ (State.put_kept _ _ h6)
  have h8 : Kept im s2 s8 := State.emit_kept _ _ _ _ (State.bump_kept _ _ h7)
  have h9 : Kept im s2 s9 := State.discardEffects_kept (State.discardGains_kept h8)
  have h10 : Kept im s2 s10 := Kept.each h9 fun _ _ h => State.slotSwap_kept _ _ h
  have h11 : Kept im s2 s11 := State.gaugeSwap_kept _ (State.settleSwap_kept _ h10)
  have h12 : Kept im s2 s12 := State.loopsFinish_kept _ h11
  have h13 : Kept im s2 s13 := Kept.ite h12 (State.pwmSwap_kept _ h12)
  have h14 : Kept im s2 s14 := State.loopsSwap_kept _ h13
  have h15 : Kept im s2 s15 := State.muteDacs_kept (State.cancelInjection_kept (State.syncGuardAll_kept (State.seqSwap_kept _ h14)))
  clear_value s2 s4 s5 s6 s7 s8 s9 s10 s11 s12 s13 s14 s15
  split
  · exact h2.keep (State.doneBoundary_kept _ _ h15)
  · exact h2.keep h15

theorem State.planBoundary_grown (hk : Grown im r₀ s) : Grown im r₀ s.planBoundary := by
  unfold State.planBoundary
  extract_lets -merge x0 s1 x2 s3
  have h1 : Grown im r₀ s1 := hk.keep (Kept.plan (Kept.refl _) rfl)
  have h3 : Grown im r₀ s3 := by
    unfold s3
    split
    · exact h1
    · extract_lets -merge s4 s5
      have h4 : Grown im r₀ s4 := State.commitSwap_grown _ h1
      have h5 : Kept im s4 s5 := State.setFlash_kept _ _ (Kept.refl _)
      clear_value s4 s5
      refine Grown.ite ?_ (h1.keep (Kept.ite (State.refuseSwap_kept _ _ (Kept.refl _)) (Kept.plan (Kept.refl _) rfl)))
      split
      · exact h4.keep (Kept.ite (State.startSynths_kept h5) h5)
      · exact h4
  clear_value s1 s3
  exact h3.keep (State.replaceShadow_kept (State.planCtrlActs_kept (Kept.refl _)))

theorem State.boundaryStates_grown (m) (hk : Grown true r₀ s) : Grown true r₀ (s.boundaryStates m) := by
  unfold State.boundaryStates
  extract_lets -merge x0 s1 s2 x3 s4 s5 s6 s7 s8 s9 s10
  have h1 : Grown true r₀ s1 := State.planBoundary_grown hk
  have h2 : Kept true s1 s2 := Kept.ite (State.seqMutes_kept (Kept.refl _)) (Kept.refl _)
  have h4 : Kept true s1 s4 := State.dropDue_kept h2
  have h5 : Kept true s1 s5 := State.logEffects_kept _ (Kept.each h4 fun _ _ h => State.setpointEffect_kept _ h)
  have h6 : Kept true s1 s6 := State.calCommit_kept (State.realign_kept _ (State.oscRetries_kept _ (State.calStepTo_kept _ h5)))
  have h7 : Kept true s1 s7 := State.flashBoundary_kept (State.powerBoundary_kept (State.safeTurns_kept h6))
  have h8 : Kept true s1 s8 := State.seqRecheck_kept (Kept.each h7 fun _ _ h => State.calEffect_kept _ h)
  have h9 : Kept true s1 s9 := State.blockBoundary_kept _ (State.haltBoundary_kept h8)
  have h10 : Kept true s1 s10 := State.convTurn_kept (State.boundaryMutes_kept (State.boundaryDacs_kept h9))
  exact h1.keep (Kept.each h10 fun _ _ h => State.readEffect_kept _ h)

theorem State.boundary_grown (m) (hk : Grown true r₀ s) : Grown true r₀ (s.boundary m) := by
  unfold State.boundary
  extract_lets -merge perm
  have h0 : Grown true r₀ (s.endTurn m.stream) := hk.keep (State.endTurn_kept _ (Kept.refl _))
  have h1 : Grown true r₀ (((s.endTurn m.stream).countTurn.snapshots m).stagedResults m perm) :=
    (State.countTurn_grown h0).keep (State.stagedResults_kept _ _ (State.snapshots_kept _ (Kept.refl _)))
  exact (State.boundaryStates_grown m h1).keep (State.boundaryLink_kept (Kept.refl _))

theorem execTurnBoundary_grows (m s) : Grows true s (execTurnBoundary m s) :=
  grows_okIf (Grown.ite (Grown.refl s) (State.boundary_grown m (Grown.refl s)))

/-! ### Security -/

theorem Grown.sec {c : Sec} (h : Grown im r₀ s) (hc : s.sec.otpOk = true → s.sec.otp.grows c.otp ∧ c.otpOk = true) : Grown im r₀ (s.setSec c) :=
  h.trans ⟨rfl, rfl, hc, id, id, fun _ => rfl⟩

theorem Otp.grows_row (o : Otp) (l : List OtpRow) : o.grows { o with rows := o.rows ++ l } := ⟨rfl, rfl, Nat.le_refl _, List.prefix_append _ _⟩

/-- The bounds of the OTP, one by one. -/
theorem Sec.otpOk_iff (c : Sec) :
    c.otpOk = true ↔ (c.otp.counter ≤ 1024 ∧ c.otp.rows.length ≤ 16) ∧ (c.committing = true → c.otp.rows.length < 16) := by
  simp only [Sec.otpOk, Otp.bounded, Bool.and_eq_true, decide_eq_true_eq, Bool.or_eq_true, Bool.not_eq_true']
  cases c.committing <;> simp

/-- A record is accepted only while a row is free (R333). -/
theorem State.provReason_zero {b} (h : s.provReason b = 0) : s.sec.otp.rows.length < 16 := by
  unfold State.provReason at h
  extract_lets o a k at h
  refine Nat.lt_of_not_le fun hn => ?_
  have hr : (byteAt b 16 ≠ o.rows.length ∨ 16 ≤ o.rows.length) := .inr hn
  rw [if_pos hr] at h
  repeat' split at h
  all_goals cases h

theorem execConsentCounterStep_grows (fc s) : Grows im s (execConsentCounterStep fc s) := by
  unfold execConsentCounterStep
  extract_lets -merge s0 x1 x2 x3 s4 x5
  have h0 : Grown im s s0 := (State.at_kept _ (Kept.refl s)).grown
  have h4 : Grown im s s4 := by
    refine h0.sec fun h => ?_
    have hb := (Sec.otpOk_iff _).1 h
    exact ⟨⟨rfl, rfl, Nat.le_min.2 ⟨hb.1.1, Nat.le_succ _⟩, List.prefix_refl _⟩,
      (Sec.otpOk_iff _).2 ⟨⟨Nat.min_le_left _ _, hb.1.2⟩, hb.2⟩⟩
  clear_value s0 s4
  split
  · extract_lets -merge x6 x7 s8 s9 s10 s11
    have h8 : Kept im s4 s8 := Kept.sec (Kept.refl _) rfl rfl
    have h9 : Kept im s4 s9 := State.popOp_kept h8
    have h10 : Kept im s4 s10 := State.emit_kept _ _ _ _ (State.raise_kept _ h9)
    have h11 : Kept im s4 s11 := State.secFlag_kept _ (State.verdict_kept _ _ (State.bump_kept _ _ h10))
    exact Grows.ite (grows_next h4) (grows_next (h4.keep (State.flashToken_kept _ _ h11)))
  · exact grows_next h0

theorem execProvVerdict_grows (fc s) : Grows im s (execProvVerdict fc s) := by
  unfold execProvVerdict
  extract_lets -merge s0 x1
  have h0 : Grown im s s0 := (State.at_kept _ (Kept.refl s)).grown
  clear_value s0
  split
  · rename_i b hb
    extract_lets -merge x2 s3 s4 s5
    have h3 : Kept im s0 s3 := State.put_kept _ _ (State.popOp_kept (Kept.refl _))
    have h4 : Kept im s0 s4 := State.emit_kept _ _ _ _ h3
    have h5 : Kept im s0 s5 := Kept.ite (State.authFail_kept _ _ h4) h4
    refine Grows.ite (grows_next h0) ?_
    split
    · rename_i hr
      refine grows_next (h0.sec fun h => ⟨Otp.grows_refl _, ?_⟩)
      exact (Sec.otpOk_iff _).2 ⟨((Sec.otpOk_iff _).1 h).1, fun _ => State.provReason_zero hr⟩
    · exact grows_next (h0.keep (State.verdict_kept _ _ h5))
  · exact grows_next h0

theorem execOtpRowCommit_grows (fc s) : Grows im s (execOtpRowCommit fc s) := by
  unfold execOtpRowCommit
  extract_lets -merge s0 x1 x2 x3 x4
  have h0 : Grown im s s0 := (State.at_kept _ (Kept.refl s)).grown
  split
  · rename_i hc hop
    extract_lets -merge x5 x6 x7 s8 s9 s10 x11 s12 s13
    have h7 : Grown im s (s0.setSec { s0.sec with otp := x7, committing := false }) := by
      refine h0.sec fun h => ⟨Otp.grows_row _ _, ?_⟩
      have hb := (Sec.otpOk_iff _).1 h
      have hl : s0.sec.otp.rows.length < 16 := hb.2 hc
      exact (Sec.otpOk_iff _).2 ⟨⟨hb.1.1, by simp [x7]; omega⟩, fun h => nomatch h⟩
    have h8 : Grown im s s8 := h7.keep (State.popOp_kept (Kept.refl _))
    have h9 : Kept im s8 s9 := State.emit_kept _ _ _ _ (State.put_kept _ _ (Kept.refl _))
    have h10 : Kept im s8 s10 := Kept.ite h9 (State.releaseHalt_kept h9)
    have h12 : Kept im s8 s12 := Kept.sec h10 rfl rfl
    have h13 : Kept im s8 s13 := Kept.ite (Kept.ite (State.endSession_kept _ (State.dropChallenge_kept h12)) h12)
      (Kept.ite (State.endSession_kept _ (State.dropChallenge_kept (State.eraseTokens_kept h10))) h10)
    exact grows_next (h8.keep (State.settleJtag_kept (State.noteLifecycle_kept _ (State.verdict_kept _ _ h13))))
  · exact grows_next h0

/-! ### Resets -/

theorem State.inReset_grown (p) (hk : Grown true r₀ s) : Grown true r₀ (s.inReset p) := by
  refine hk.trans ⟨rfl, rfl, fun h => ?_, fun _ => rfl, fun _ => Nat.zero_lt_succ _, fun e => nomatch e⟩
  have hb := (Sec.otpOk_iff _).1 h
  show s.sec.otp.grows s.sec.otpAfter ∧
      Sec.otpOk { State.reset.sec with otp := s.sec.otpAfter, torn := s.sec.tornAfter, nonces := s.sec.nonces } = true
  rw [Sec.otpOk_iff]
  unfold Sec.otpAfter
  split
  · rename_i hc
    have hl := hb.2 hc
    exact ⟨Otp.grows_row _ _, ⟨hb.1.1, by simp; omega⟩, fun h => nomatch h⟩
  · exact ⟨Otp.grows_refl _, hb.1, fun h => nomatch h⟩

theorem State.porNow_grown (hk : Grown true r₀ s) : Grown true r₀ s.porNow := State.inReset_grown _ hk

theorem execPorAssert_grows (fc s) : Grows true s (execPorAssert fc s) :=
  grows_next (State.porNow_grown (State.at_kept _ (Kept.refl s)).grown)

theorem execResetNAssert_grows (fc unit s) : Grows true s (execResetNAssert fc unit s) := by
  have h0 : Kept true s (s.at fc) := State.at_kept _ (Kept.refl s)
  unfold execResetNAssert
  exact Grows.ite (grows_next h0.grown) (Grows.ite (grows_next (State.setPwr_kept _ h0).grown)
    (grows_next ((State.inReset_grown _ (State.endDescriptors_kept _ _ h0).grown).keep (State.put_kept _ _ (Kept.refl _)))))

theorem execPwrRail_grows (fc rail unit s) : Grows true s (execPwrRail fc rail unit s) :=
  have h0 : Kept true s (s.at fc) := State.at_kept _ (Kept.refl s)
  grows_okIf (Grown.ite (State.porNow_grown h0.grown) (State.awake_kept h0 (State.railFalls_kept _ _ h0)).grown)

theorem State.chipCleared_grown (hk : Grown true r₀ s) : Grown true r₀ s.chipCleared :=
  hk.trans ⟨rfl, rfl, fun h => ⟨Otp.grows_refl _, h⟩, fun _ => rfl, id, fun e => nomatch e⟩

theorem execChipReset_grows (fc unit s) : Grows true s (execChipReset fc unit s) := by
  unfold execChipReset
  extract_lets -merge s0 x1 s2 s3 s4 s5 x6 s7 x8 s9
  have h0 : Kept true s s0 := State.at_kept _ (Kept.refl s)
  have h2 : Kept true s s2 := State.thaw_kept (State.endOperations_kept (State.endDescriptors_kept _ _ h0))
  have h3 : Kept true s s3 := State.calAbort_kept _ (State.endSession_kept _ h2)
  have h4 : Kept true s s4 := State.gauHold_kept (State.synthOff_kept _ (State.synthOff_kept _ h3))
  have h5 : Kept true s s5 := State.resetHif_kept h4
  have h7 : Grown true s s7 := State.chipCleared_grown (State.setHif_kept _ h5).grown
  have h9 : Kept true s7 s9 := State.setFlt_kept _ (Kept.refl _)
  clear_value s0 s2 s3 s4 s5 s7 s9
  split
  · exact grows_next h0.grown
  · extract_lets -merge s10 s11 s13 s14 s15 s16 s17 s18 s19
    have h10 : Kept true s7 s10 := State.put_kept _ _ (State.putB_kept _ _ (State.put_kept _ _ h9))
    have h11 : Kept true s7 s11 := Kept.each h10 fun _ _ h => State.live_kept _ _ h
    have h13 : Kept true s7 s13 := State.live_kept _ _ h11
    have h14 : Kept true s7 s14 := State.killLive_kept (State.syncSpares_kept (State.live_kept _ _ (State.live_kept _ _ h13)))
    have h15 : Kept true s7 s15 := State.live_kept _ _ h14
    have h16 : Kept true s7 s16 := Kept.ite h15 (State.gauCalAll_kept h15)
    have h17 : Kept true s7 s17 := State.apzHold_kept h16
    have h18 : Kept true s7 s18 := State.put_kept _ _ h17
    have h19 : Kept true s7 s19 := Kept.ite h18 (State.emit_kept _ _ _ _ (State.put_kept _ _ (State.put_kept _ _ h18)))
    clear_value s10 s11 s13 s14 s15 s16 s17 s18 s19
    exact grows_next (h7.keep (State.seqRecheck_kept (State.settlePins_kept (State.muteDacs_kept (State.boot_kept h19)))))

/-! ### Every command -/

/-- The commands that may write the core: the Turn boundary, the module's resets, and the three that burn the OTP. -/
def coreWriter : Instr → Bool
  | .turnBoundary _ | .porAssert _ | .resetNAssert _ _ | .pwrRail _ _ _ | .chipReset _ _ => true
  | .consentCounterStep _ | .provVerdict _ | .otpRowCommit _ => true
  | _ => false

/-- Every other command keeps the core. -/
theorem exec_keeps (i : Instr) (s : State) (hc : coreWriter i = false) : Keeps (movesImage i) s (exec i s) := by
  cases i with
  | turnBoundary => cases hc
  | guardEvaluation => exact execGuardEvaluation_keeps _ _ _ (Kept.refl s)
  | guardMuteEffect => exact execGuardMuteEffect_keeps (Kept.refl s)
  | gougeAdaptationStep => exact execGougeAdaptationStep_keeps _ _ (Kept.refl s)
  | levelLoopRun => exact execLevelLoopRun_keeps _ _ (Kept.refl s)
  | commitWindow => exact execCommitWindow_keeps (Kept.refl s)
  | turnOverrun => exact execTurnOverrun_keeps _ _ (Kept.refl s)
  | doorbell => exact execDoorbell_keeps _ (Kept.refl s)
  | doorbellRead => exact execDoorbellRead_keeps _ _ (Kept.refl s)
  | descriptorFetch => exact execDescriptorFetch_keeps _ _ _ (Kept.refl s)
  | coalesceTimeout => exact execCoalesceTimeout_keeps _ _ (Kept.refl s)
  | nop => exact execNop_keeps _ _ _ (Kept.refl s)
  | fence => exact execFence_keeps _ _ _ (Kept.refl s)
  | planLoad => exact execPlanLoad_keeps _ _ _ (Kept.refl s)
  | planSwapNext => exact execPlanSwapNext_keeps _ _ _ (Kept.refl s)
  | planSwapAtTurn => exact execPlanSwapAtTurn_keeps _ _ _ (Kept.refl s)
  | planSwapCheck => exact execPlanSwapCheck_keeps _ _ _ (Kept.refl s)
  | slotGain => exact execSlotGain_keeps _ _ _ (Kept.refl s)
  | capture => exact execCapture_keeps _ _ _ (Kept.refl s)
  | gougeSnapshot => exact execGougeSnapshot_keeps _ _ _ (Kept.refl s)
  | gaugeRead => exact execGaugeRead_keeps _ _ _ (Kept.refl s)
  | counterRead => exact execCounterRead_keeps _ _ _ (Kept.refl s)
  | logRead => exact execLogRead_keeps _ _ _ (Kept.refl s)
  | logClear => exact execLogClear_keeps _ _ (Kept.refl s)
  | logFreeze => exact execLogFreeze_keeps _ _ (Kept.refl s)
  | logThaw => exact execLogThaw_keeps _ _ (Kept.refl s)
  | calRun => exact execCalRun_keeps _ _ _ (Kept.refl s)
  | supplySetpoint => exact execSupplySetpoint_keeps _ _ _ (Kept.refl s)
  | stateRequest => exact execStateRequest_keeps _ _ _ (Kept.refl s)
  | tokenSubmit => exact execTokenSubmit_keeps _ _ _ (Kept.refl s)
  | getChallenge => exact execGetChallenge_keeps _ _ _ (Kept.refl s)
  | respond => exact execRespond_keeps _ _ _ (Kept.refl s)
  | endSession => exact execEndSession_keeps _ _ _ (Kept.refl s)
  | transferUnit => exact execTransferUnit_keeps _ _ (Kept.refl s)
  | heldCompletionDelivery => exact execHeldCompletionDelivery_keeps _ (Kept.refl s)
  | sqCfgWrite => exact execSqCfgWrite_keeps _ _ _ (Kept.refl s)
  | cqCfgWrite => exact execCqCfgWrite_keeps _ _ _ (Kept.refl s)
  | pause => exact execPause_keeps _ _ (Kept.refl s)
  | hifBlockReset => exact execHifBlockReset_keeps _ _ (Kept.refl s)
  | orphanDiscard => exact execOrphanDiscard_keeps _ (Kept.refl s)
  | trapClear => exact execTrapClear_keeps _ (Kept.refl s)
  | hwtWrite => exact execHwtWrite_keeps _ _ (Kept.refl s)
  | hwtRead => exact execHwtRead_keeps _ _ (Kept.refl s)
  | hwtInvalidate => exact execHwtInvalidate_keeps _ _ (Kept.refl s)
  | hwtInvalidateDrained => exact execHwtInvalidateDrained_keeps _ (Kept.refl s)
  | rwsWrite => exact execRwsWrite_keeps _ _ _ (Kept.refl s)
  | copyActive => exact execCopyActive_keeps _ (Kept.refl s)
  | clearShadow => exact execClearShadow_keeps _ (Kept.refl s)
  | flashLoad => exact execFlashLoad_keeps _ (Kept.refl s)
  | freeze => exact execFreeze_keeps _ _ _ (Kept.refl s)
  | reprobe => exact execReprobe_keeps _ _ _ (Kept.refl s)
  | grdLatchClear => exact execGrdLatchClear_keeps _ (Kept.refl s)
  | hostRffeCommand => exact execHostRffeCommand_keeps _ _ (Kept.refl s)
  | rffeCommandEnd => exact execRffeCommandEnd_keeps _ _ _ _ (Kept.refl s)
  | rffeScheduledCommand => exact execRffeScheduledCommand_keeps _ _ _ (Kept.refl s)
  | retry => exact execRetry_keeps _ _ (Kept.refl s)
  | selfCal => exact execSelfCal_keeps _ _ (Kept.refl s)
  | injGo => exact execInjGo_keeps _ _ _ (Kept.refl s)
  | loadAll => exact execLoadAll_keeps _ _ (Kept.refl s)
  | tripClear => exact execTripClear_keeps _ _ (Kept.refl s)
  | halt => exact execHalt_keeps _ _ (Kept.refl s)
  | step => exact execStep_keeps _ (Kept.refl s)
  | fltInjectArm => exact execFltInjectArm_keeps _ _ _ _ (Kept.refl s)
  | injectedError => exact execInjectedError_keeps _ _ (Kept.refl s)
  | fltStatusClear => exact execFltStatusClear_keeps _ _ _ (Kept.refl s)
  | logRdSeq => exact execLogRdSeq_keeps _ _ (Kept.refl s)
  | provGo => exact execProvGo_keeps _ (Kept.refl s)
  | tokenRelease => exact execTokenRelease_keeps _ _ (Kept.refl s)
  | registerWrite => exact execRegisterWrite_keeps _ _ _ _ (Kept.refl s)
  | wideLowRead => exact execWideLowRead_keeps _ _ _ (Kept.refl s)
  | clearOnRead => exact execClearOnRead_keeps _ _ _ (Kept.refl s)
  | porAssert => cases hc
  | porRelease => exact execPorRelease_keeps _ _ (Kept.refl s)
  | resetNAssert => cases hc
  | resetNRelease => exact execResetNRelease_keeps _ _ (Kept.refl s)
  | perstNAssert => exact execPerstNAssert_keeps _ _ (Kept.refl s)
  | perstNRelease => exact execPerstNRelease_keeps _ (Kept.refl s)
  | killNFall => exact execKillNFall_keeps _ (Kept.refl s)
  | killNRise => exact execKillNRise_keeps _ (Kept.refl s)
  | killResume => exact execKillResume_keeps _ (Kept.refl s)
  | tripActive => exact execTripActive_keeps _ _ (Kept.refl s)
  | tripInactive => exact execTripInactive_keeps _ _ (Kept.refl s)
  | syncInEdge => exact execSyncInEdge_keeps _ (Kept.refl s)
  | refclkLoss => exact execRefclkLoss_keeps _ (Kept.refl s)
  | refclkReturn => exact execRefclkReturn_keeps _ _ (Kept.refl s)
  | autonomousRecovery => exact execAutonomousRecovery_keeps _ (Kept.refl s)
  | pwrVinUv => exact execPwrVinUv_keeps _ _ (Kept.refl s)
  | vinUvRecovery => exact execVinUvRecovery_keeps _ (Kept.refl s)
  | pwrVinOv => exact execPwrVinOv_keeps _ _ (Kept.refl s)
  | vinOvRecovery => exact execVinOvRecovery_keeps _ (Kept.refl s)
  | vinShutdown => exact execVinShutdown_keeps _ _ (Kept.refl s)
  | pwrRail => cases hc
  | railRecovery => exact execRailRecovery_keeps _ _ (Kept.refl s)
  | tempSensorRead => exact execTempSensorRead_keeps _ _ _ _ _ (Kept.refl s)
  | secTamper => exact execSecTamper_keeps _ _ _ _ (Kept.refl s)
  | hifLinkDown => exact execHifLinkDown_keeps _ (Kept.refl s)
  | linkUp => exact execLinkUp_keeps _ _ _ (Kept.refl s)
  | jtagInstruction => exact execJtagInstruction_keeps _ _ _ (Kept.refl s)
  | apzMark => exact execApzMark_keeps _ _ _ (Kept.refl s)
  | apzCountFrame => exact execApzCountFrame_keeps _ _ _ _ (Kept.refl s)
  | apzEpochFrame => exact execApzEpochFrame_keeps _ _ _ _ (Kept.refl s)
  | apzHopFrame => exact execApzHopFrame_keeps _ _ _ (Kept.refl s)
  | apzDelayFrame => exact execApzDelayFrame_keeps _ _ _ _ (Kept.refl s)
  | apzEcho => exact execApzEcho_keeps _ _ (Kept.refl s)
  | apzIdleFrame => exact execApzIdleFrame_keeps _ _ _ (Kept.refl s)
  | apzInvalidFrame => exact execApzInvalidFrame_keeps _ _ (Kept.refl s)
  | apzInputDown => exact execApzInputDown_keeps _ _ _ (Kept.refl s)
  | apzInputUp => exact execApzInputUp_keeps _ _ (Kept.refl s)
  | noLeader => exact execNoLeader_keeps _ (Kept.refl s)
  | synthLocked => exact execSynthLocked_keeps _ _ (Kept.refl s)
  | synthLockTimeout => exact execSynthLockTimeout_keeps _ _ (Kept.refl s)
  | synthLockLoss => exact execSynthLockLoss_keeps _ _ (Kept.refl s)
  | calEnd => exact execCalEnd_keeps _ _ _ (Kept.refl s)
  | trackUpdate => exact execTrackUpdate_keeps _ _ _ (Kept.refl s)
  | dovetailSlip => exact execDovetailSlip_keeps _ _ (Kept.refl s)
  | mergeMismatch => exact execMergeMismatch_keeps _ _ (Kept.refl s)
  | fabEcc => exact execFabEcc_keeps _ _ _ (Kept.refl s)
  | chzCoefParity => exact execChzCoefParity_keeps _ _ (Kept.refl s)
  | fabTileFail => exact execFabTileFail_keeps _ _ (Kept.refl s)
  | spareMigrationStep => exact execSpareMigrationStep_keeps _ _ (Kept.refl s)
  | fillEnd => exact execFillEnd_keeps _ _ (Kept.refl s)
  | converterEnableSettle => exact execConverterEnableSettle_keeps _ (Kept.refl s)
  | captureTrigger => exact execCaptureTrigger_keeps _ _ (Kept.refl s)
  | noTrigger => exact execNoTrigger_keeps _ _ (Kept.refl s)
  | snapshotCopy => exact execSnapshotCopy_keeps _ (Kept.refl s)
  | delaySearchEnd => exact execDelaySearchEnd_keeps _ _ _ _ _ (Kept.refl s)
  | probePhaseEnd => exact execProbePhaseEnd_keeps _ _ (Kept.refl s)
  | checkpoint => exact execCheckpoint_keeps _ _ (Kept.refl s)
  | gougeTapEcc => exact execGougeTapEcc_keeps _ _ _ _ (Kept.refl s)
  | laneFail => exact execLaneFail_keeps _ _ (Kept.refl s)
  | laneMigrationStep => exact execLaneMigrationStep_keeps _ _ (Kept.refl s)
  | guardHoldExpiry => exact execGuardHoldExpiry_keeps _ (Kept.refl s)
  | patternBoundary => exact execPatternBoundary_keeps _ _ (Kept.refl s)
  | fePinEdge => exact execFePinEdge_keeps _ _ (Kept.refl s)
  | seqTxTimeout => exact execSeqTxTimeout_keeps _ _ (Kept.refl s)
  | seqHoldExpired => exact execSeqHoldExpired_keeps _ _ (Kept.refl s)
  | frameStart => exact execFrameStart_keeps _ _ (Kept.refl s)
  | syncBurst => exact execSyncBurst_keeps _ _ _ _ (Kept.refl s)
  | mismatchDwell => exact execMismatchDwell_keeps _ _ (Kept.refl s)
  | tunerSearchStep => exact execTunerSearchStep_keeps _ _ (Kept.refl s)
  | searchTimeout => exact execSearchTimeout_keeps _ _ (Kept.refl s)
  | carrierZero => exact execCarrierZero_keeps _ (Kept.refl s)
  | carrierTop => exact execCarrierTop_keeps _ (Kept.refl s)
  | compareMatch => exact execCompareMatch_keeps _ _ _ (Kept.refl s)
  | pwmTriggerLine => exact execPwmTriggerLine_keeps _ _ (Kept.refl s)
  | maskAssert => exact execMaskAssert_keeps _ _ (Kept.refl s)
  | maskRelease => exact execMaskRelease_keeps _ _ (Kept.refl s)
  | gaugeTrigger => exact execGaugeTrigger_keeps _ _ (Kept.refl s)
  | gaugeDelayEnd => exact execGaugeDelayEnd_keeps _ _ (Kept.refl s)
  | conversionEnd => exact execConversionEnd_keeps _ _ _ (Kept.refl s)
  | gaugeSelfCalEnd => exact execGaugeSelfCalEnd_keeps _ _ _ _ (Kept.refl s)
  | supplyLoopRun => exact execSupplyLoopRun_keeps _ _ (Kept.refl s)
  | supplyLoopMiss => exact execSupplyLoopMiss_keeps _ _ (Kept.refl s)
  | faultEvent => exact execFaultEvent_keeps _ _ (Kept.refl s)
  | faultWindowClose => exact execFaultWindowClose_keeps _ _ (Kept.refl s)
  | chipReset => cases hc
  | aliveToggle => exact execAliveToggle_keeps _ (Kept.refl s)
  | eventArrival => exact execEventArrival_keeps _ (Kept.refl s)
  | turnMark => exact execTurnMark_keeps _ (Kept.refl s)
  | rateRefill => exact execRateRefill_keeps _ (Kept.refl s)
  | logMem => exact execLogMem_keeps _ _ _ _ (Kept.refl s)
  | parseEnd => exact execParseEnd_keeps _ (Kept.refl s)
  | swapValidationEnd => exact execSwapValidationEnd_keeps _ (Kept.refl s)
  | flashStart => exact execFlashStart_keeps _ (Kept.refl s)
  | selfTestEnd => exact execSelfTestEnd_keeps _ _ _ (Kept.refl s)
  | tokenVerdict => exact execTokenVerdict_keeps _ (Kept.refl s)
  | consentCounterStep => cases hc
  | provVerdict => cases hc
  | otpRowCommit => cases hc
  | respondVerdict => exact execRespondVerdict_keeps _ (Kept.refl s)
  | challengeExpiry => exact execChallengeExpiry_keeps _ (Kept.refl s)
  | sessionExpiry => exact execSessionExpiry_keeps _ (Kept.refl s)
  | wideUpperRead => exact execWideUpperRead_keeps _ _ _ (Kept.refl s)
  | planEcc => exact execPlanEcc_keeps _ _ _ _ (Kept.refl s)
  | flashReadEnd => exact execFlashReadEnd_keeps _ _ (Kept.refl s)
  | captureRecordingEnd => exact execCaptureRecordingEnd_keeps _ _ _ _ (Kept.refl s)
  | captureShareOverrun => exact execCaptureShareOverrun_keeps _ _ _ _ (Kept.refl s)
  | deadTimeEnd => exact execDeadTimeEnd_keeps _ _ (Kept.refl s)
  | minIntervalReached => exact execMinIntervalReached_keeps _ _ (Kept.refl s)
  | tamperEnd => exact execTamperEnd_keeps _ (Kept.refl s)

/-- Whatever a command does, the variant and the queue stay, and the OTP is only burned further, within its bounds. -/
theorem exec_grows (i : Instr) (s : State) : Grows (movesImage i) s (exec i s) := by
  cases i with
  | turnBoundary => exact execTurnBoundary_grows _ s
  | porAssert => exact execPorAssert_grows _ s
  | resetNAssert => exact execResetNAssert_grows _ _ s
  | pwrRail => exact execPwrRail_grows _ _ _ s
  | chipReset => exact execChipReset_grows _ _ s
  | consentCounterStep => exact execConsentCounterStep_grows _ s
  | provVerdict => exact execProvVerdict_grows _ s
  | otpRowCommit => exact execOtpRowCommit_grows _ s
  | _ => exact (exec_keeps _ s rfl).grows

end Sys2Proof.Machine
end

