-- ==== Sys2Proof/Laws/Runs.lean ====
section
/-! SUPPORT. Each meaning answers a next state exactly where its command is well formed, and the fault illFormed elsewhere. -/
namespace Sys2Proof.Machine
open Sys2Proof

/-- A next state where `ok`, the fault of an ill-formed command elsewhere. -/
def Answers (ok : Bool) (o : Host.Outcome State Fault Refusal) : Prop :=
  (ok = true → ∃ t, o = .next t) ∧ (ok = false → o = .fault .illFormed)
theorem Answers.next (t : State) : Answers true (.next t) := ⟨fun _ => ⟨t, rfl⟩, fun h => (nomatch h)⟩
theorem Answers.okIf (b : Bool) (t : State) : Answers b (Machine.okIf b t) := by
  cases b
  · exact ⟨fun h => (nomatch h), fun _ => rfl⟩
  · exact ⟨fun _ => ⟨t, rfl⟩, fun h => (nomatch h)⟩
theorem Answers.ite {c : Prop} [Decidable c] {b : Bool} {x y : Host.Outcome State Fault Refusal} (hx : Answers b x) (hy : Answers b y) :
    Answers b (if c then x else y) := by
  split
  · exact hx
  · exact hy
theorem execEventArrival_answers (fc) (s : State) : Answers (wellFormed s.variant (.eventArrival fc)) (execEventArrival fc s) := by
  unfold execEventArrival
  extract_lets -merge x0
  split
  · exact Answers.next _
  · exact Answers.next _
theorem execTurnMark_answers (fc) (s : State) : Answers (wellFormed s.variant (.turnMark fc)) (execTurnMark fc s) := by
  unfold execTurnMark
  extract_lets -merge x0
  exact Answers.ite (Answers.next _) (Answers.next _)
theorem execRateRefill_answers (fc) (s : State) : Answers (wellFormed s.variant (.rateRefill fc)) (execRateRefill fc s) := by
  unfold execRateRefill
  extract_lets -merge x0
  exact Answers.ite (Answers.next _) (Answers.next _)
theorem execLogClear_answers (fc d) (s : State) : Answers (wellFormed s.variant (.logClear fc d)) (execLogClear fc d s) := by
  unfold execLogClear
  extract_lets -merge x0 x1
  split
  · exact Answers.next _
  · exact Answers.next _
theorem execLogFreeze_answers (fc d) (s : State) : Answers (wellFormed s.variant (.logFreeze fc d)) (execLogFreeze fc d s) := by
  unfold execLogFreeze
  extract_lets -merge x0 x1
  split
  · exact Answers.next _
  · exact Answers.next _
theorem execLogThaw_answers (fc d) (s : State) : Answers (wellFormed s.variant (.logThaw fc d)) (execLogThaw fc d s) := by
  unfold execLogThaw
  extract_lets -merge x0 x1
  split
  · exact Answers.next _
  · exact Answers.next _
theorem execLogRdSeq_answers (fc v) (s : State) : Answers (wellFormed s.variant (.logRdSeq fc v)) (execLogRdSeq fc v s) := by
  unfold execLogRdSeq
  extract_lets -merge x0 x1 x2 x3
  exact Answers.next _
theorem execLogMem_answers (fc bank kind single) (s : State) :
    Answers (wellFormed s.variant (.logMem fc bank kind single)) (execLogMem fc bank kind single s) := by
  unfold execLogMem
  extract_lets -merge x0 x1
  exact Answers.okIf _ _
theorem execDoorbell_answers (fc) (s : State) : Answers (wellFormed s.variant (.doorbell fc)) (execDoorbell fc s) := by
  unfold execDoorbell
  exact Answers.next _
theorem execDoorbellRead_answers (fc area) (s : State) : Answers (wellFormed s.variant (.doorbellRead fc area)) (execDoorbellRead fc area s) := by
  unfold execDoorbellRead
  extract_lets -merge x0 x1 x2 x3
  exact Answers.ite (Answers.next _) (Answers.next _)
theorem execDescriptorFetch_answers (fc bytes parityOk) (s : State) :
    Answers (wellFormed s.variant (.descriptorFetch fc bytes parityOk)) (execDescriptorFetch fc bytes parityOk s) := by
  unfold execDescriptorFetch
  extract_lets -merge x0 x1
  split
  · exact Answers.next _
  · extract_lets -merge x2 x3 x4 x5 x6 x7 x8 x9 x10 x11
    clear_value x10
    split
    · exact Answers.next _
    · exact Answers.next _
theorem execHwtWrite_answers (fc index) (s : State) : Answers (wellFormed s.variant (.hwtWrite fc index)) (execHwtWrite fc index s) := by
  unfold execHwtWrite
  extract_lets -merge x0 x1 x2
  exact Answers.okIf _ _
theorem execHwtRead_answers (fc index) (s : State) : Answers (wellFormed s.variant (.hwtRead fc index)) (execHwtRead fc index s) := by
  unfold execHwtRead
  extract_lets -merge x0 x1 x2 x3 x4
  exact Answers.okIf _ _
theorem execHwtInvalidate_answers (fc index) (s : State) :
    Answers (wellFormed s.variant (.hwtInvalidate fc index)) (execHwtInvalidate fc index s) := by
  unfold execHwtInvalidate
  extract_lets -merge x0 x1 x2 x3 x4
  exact Answers.okIf _ _
theorem execHwtInvalidateDrained_answers (fc) (s : State) :
    Answers (wellFormed s.variant (.hwtInvalidateDrained fc)) (execHwtInvalidateDrained fc s) := by
  unfold execHwtInvalidateDrained
  extract_lets -merge x0 x1
  split
  · exact Answers.next _
  · exact Answers.ite (Answers.next _) (Answers.next _)
theorem execTransferUnit_answers (fc host) (s : State) : Answers (wellFormed s.variant (.transferUnit fc host)) (execTransferUnit fc host s) := by
  unfold execTransferUnit
  extract_lets -merge x0 x1
  split
  · exact Answers.next _
  · exact Answers.next _
theorem execSqCfgWrite_answers (fc n v) (s : State) : Answers (wellFormed s.variant (.sqCfgWrite fc n v)) (execSqCfgWrite fc n v s) := by
  unfold execSqCfgWrite
  extract_lets -merge x0 x1 x2 x3 x4 x5
  exact Answers.okIf _ _
theorem execCqCfgWrite_answers (fc n v) (s : State) : Answers (wellFormed s.variant (.cqCfgWrite fc n v)) (execCqCfgWrite fc n v s) := by
  unfold execCqCfgWrite
  extract_lets -merge x0 x1 x2 x3 x4 x5 x6 x7 x8
  exact Answers.okIf _ _
theorem execPause_answers (fc on) (s : State) : Answers (wellFormed s.variant (.pause fc on)) (execPause fc on s) := by
  unfold execPause
  exact Answers.next _
theorem execCoalesceTimeout_answers (fc cq) (s : State) : Answers (wellFormed s.variant (.coalesceTimeout fc cq)) (execCoalesceTimeout fc cq s) := by
  unfold execCoalesceTimeout
  extract_lets -merge x0 x1 x2
  exact Answers.okIf _ _
theorem execHeldCompletionDelivery_answers (fc) (s : State) :
    Answers (wellFormed s.variant (.heldCompletionDelivery fc)) (execHeldCompletionDelivery fc s) := by
  unfold execHeldCompletionDelivery
  extract_lets -merge x0 x1
  split
  · exact Answers.next _
  · exact Answers.next _
theorem execOrphanDiscard_answers (fc) (s : State) : Answers (wellFormed s.variant (.orphanDiscard fc)) (execOrphanDiscard fc s) := by
  unfold execOrphanDiscard
  extract_lets -merge x0 x1
  exact Answers.next _
theorem execTrapClear_answers (fc) (s : State) : Answers (wellFormed s.variant (.trapClear fc)) (execTrapClear fc s) := by
  unfold execTrapClear
  extract_lets -merge x0
  exact Answers.next _
theorem execHifLinkDown_answers (fc) (s : State) : Answers (wellFormed s.variant (.hifLinkDown fc)) (execHifLinkDown fc s) := by
  unfold execHifLinkDown
  exact Answers.next _
theorem execLinkUp_answers (fc speed width) (s : State) : Answers (wellFormed s.variant (.linkUp fc speed width)) (execLinkUp fc speed width s) := by
  unfold execLinkUp
  extract_lets -merge x0 x1
  exact Answers.okIf _ _
theorem execHifBlockReset_answers (fc unit) (s : State) : Answers (wellFormed s.variant (.hifBlockReset fc unit)) (execHifBlockReset fc unit s) := by
  unfold execHifBlockReset
  exact Answers.next _
theorem execPerstNAssert_answers (fc unit) (s : State) : Answers (wellFormed s.variant (.perstNAssert fc unit)) (execPerstNAssert fc unit s) := by
  unfold execPerstNAssert
  extract_lets -merge x0 x1 x2
  exact Answers.next _
theorem execPerstNRelease_answers (fc) (s : State) : Answers (wellFormed s.variant (.perstNRelease fc)) (execPerstNRelease fc s) := by
  unfold execPerstNRelease
  extract_lets -merge x0 x1
  exact Answers.next _
theorem execNop_answers (fc sq idx) (s : State) : Answers (wellFormed s.variant (.nop fc sq idx)) (execNop fc sq idx s) := by
  unfold execNop
  exact Answers.next _
theorem execFence_answers (fc sq idx) (s : State) : Answers (wellFormed s.variant (.fence fc sq idx)) (execFence fc sq idx s) := by
  unfold execFence
  exact Answers.next _
theorem execLogRead_answers (fc sq idx) (s : State) : Answers (wellFormed s.variant (.logRead fc sq idx)) (execLogRead fc sq idx s) := by
  unfold execLogRead
  exact Answers.next _
theorem execCounterRead_answers (fc sq idx) (s : State) : Answers (wellFormed s.variant (.counterRead fc sq idx)) (execCounterRead fc sq idx s) := by
  unfold execCounterRead
  exact Answers.next _
theorem execGaugeRead_answers (fc sq idx) (s : State) : Answers (wellFormed s.variant (.gaugeRead fc sq idx)) (execGaugeRead fc sq idx s) := by
  unfold execGaugeRead
  exact Answers.next _
theorem execTokenVerdict_answers (fc) (s : State) : Answers (wellFormed s.variant (.tokenVerdict fc)) (execTokenVerdict fc s) := by
  unfold execTokenVerdict
  extract_lets -merge x0 x1
  split
  · extract_lets -merge x2
    exact Answers.ite (Answers.next _) (Answers.ite (Answers.next _) (Answers.ite (Answers.next _) (Answers.next _)))
  · exact Answers.next _
theorem execConsentCounterStep_answers (fc) (s : State) : Answers (wellFormed s.variant (.consentCounterStep fc)) (execConsentCounterStep fc s) := by
  unfold execConsentCounterStep
  extract_lets -merge x0 x1 x2 x3 x4 x5
  split
  · extract_lets -merge x6 x7 x8 x9 x10 x11
    exact Answers.ite (Answers.next _) (Answers.next _)
  · exact Answers.next _
theorem execTokenSubmit_answers (fc sq idx) (s : State) : Answers (wellFormed s.variant (.tokenSubmit fc sq idx)) (execTokenSubmit fc sq idx s) := by
  unfold execTokenSubmit
  exact Answers.next _
theorem execTokenRelease_answers (fc index) (s : State) : Answers (wellFormed s.variant (.tokenRelease fc index)) (execTokenRelease fc index s) := by
  unfold execTokenRelease
  extract_lets -merge x0 x1 x2
  exact Answers.okIf _ _
theorem execProvGo_answers (fc) (s : State) : Answers (wellFormed s.variant (.provGo fc)) (execProvGo fc s) := by
  unfold execProvGo
  extract_lets -merge x0 x1
  exact Answers.next _
theorem execProvVerdict_answers (fc) (s : State) : Answers (wellFormed s.variant (.provVerdict fc)) (execProvVerdict fc s) := by
  unfold execProvVerdict
  extract_lets -merge x0 x1
  split
  · extract_lets -merge x2 x3 x4 x5
    exact Answers.ite (Answers.next _) (Answers.ite (Answers.next _) (Answers.next _))
  · exact Answers.next _
theorem execOtpRowCommit_answers (fc) (s : State) : Answers (wellFormed s.variant (.otpRowCommit fc)) (execOtpRowCommit fc s) := by
  unfold execOtpRowCommit
  extract_lets -merge x0 x1 x2 x3 x4
  split
  · extract_lets -merge x5 x6 x7 x8 x9 x10 x11 x12 x13
    exact Answers.next _
  · exact Answers.next _
theorem execGetChallenge_answers (fc sq idx) (s : State) :
    Answers (wellFormed s.variant (.getChallenge fc sq idx)) (execGetChallenge fc sq idx s) := by
  unfold execGetChallenge
  exact Answers.next _
theorem execRespond_answers (fc sq idx) (s : State) : Answers (wellFormed s.variant (.respond fc sq idx)) (execRespond fc sq idx s) := by
  unfold execRespond
  exact Answers.next _
theorem execEndSession_answers (fc sq idx) (s : State) : Answers (wellFormed s.variant (.endSession fc sq idx)) (execEndSession fc sq idx s) := by
  unfold execEndSession
  exact Answers.next _
theorem execRespondVerdict_answers (fc) (s : State) : Answers (wellFormed s.variant (.respondVerdict fc)) (execRespondVerdict fc s) := by
  unfold execRespondVerdict
  extract_lets -merge x0 x1 x2 x3 x4 x5 x6
  split
  · extract_lets -merge x7 x8 x9
    exact Answers.ite (Answers.next _) (Answers.next _)
  · exact Answers.next _
theorem execChallengeExpiry_answers (fc) (s : State) : Answers (wellFormed s.variant (.challengeExpiry fc)) (execChallengeExpiry fc s) := by
  unfold execChallengeExpiry
  extract_lets -merge x0
  split
  · exact Answers.next _
  · exact Answers.next _
theorem execSessionExpiry_answers (fc) (s : State) : Answers (wellFormed s.variant (.sessionExpiry fc)) (execSessionExpiry fc s) := by
  unfold execSessionExpiry
  extract_lets -merge x0
  split
  · exact Answers.next _
  · exact Answers.next _
theorem execJtagInstruction_answers (fc k code) (s : State) :
    Answers (wellFormed s.variant (.jtagInstruction fc k code)) (execJtagInstruction fc k code s) := by
  unfold execJtagInstruction
  extract_lets -merge x0 x1 x2
  exact Answers.ite (Answers.next _) (Answers.ite (Answers.next _) (Answers.next _))
theorem execSecTamper_answers (fc mesh rail osc) (s : State) :
    Answers (wellFormed s.variant (.secTamper fc mesh rail osc)) (execSecTamper fc mesh rail osc s) := by
  unfold execSecTamper
  extract_lets -merge x0 x1 x2 x3 x4 x5 x6 x7 x8
  exact Answers.ite (Answers.next _) (Answers.next _)
theorem execTamperEnd_answers (fc) (s : State) : Answers (wellFormed s.variant (.tamperEnd fc)) (execTamperEnd fc s) := by
  unfold execTamperEnd
  extract_lets -merge x0
  exact Answers.next _
theorem execCalEnd_answers (fc new fails) (s : State) : Answers (wellFormed s.variant (.calEnd fc new fails)) (execCalEnd fc new fails s) := by
  unfold execCalEnd
  extract_lets -merge x0 x1 x2
  split
  · exact Answers.next _
  · extract_lets -merge x3 x4 x5 x6 x7 x8 x9 x10 x11 x12 x13 x14
    exact Answers.ite (Answers.next _) (Answers.next _)
theorem execCalRun_answers (fc sq idx) (s : State) : Answers (wellFormed s.variant (.calRun fc sq idx)) (execCalRun fc sq idx s) := by
  unfold execCalRun
  exact Answers.next _
theorem execTrackUpdate_answers (fc adc f) (s : State) :
    Answers (wellFormed s.variant (.trackUpdate fc adc f)) (execTrackUpdate fc adc f s) := by
  unfold execTrackUpdate
  extract_lets -merge x0 x1 x2 x3 x4 x5 x6
  exact Answers.okIf _ _
theorem execConverterEnableSettle_answers (fc) (s : State) :
    Answers (wellFormed s.variant (.converterEnableSettle fc)) (execConverterEnableSettle fc s) := by
  unfold execConverterEnableSettle
  extract_lets -merge x0 x1 x2
  exact Answers.next _
theorem execSlotGain_answers (fc sq idx) (s : State) : Answers (wellFormed s.variant (.slotGain fc sq idx)) (execSlotGain fc sq idx s) := by
  unfold execSlotGain
  exact Answers.next _
theorem execFillEnd_answers (fc sl) (s : State) : Answers (wellFormed s.variant (.fillEnd fc sl)) (execFillEnd fc sl s) := by
  unfold execFillEnd
  extract_lets -merge x0 x1 x2
  exact Answers.okIf _ _
theorem execFabTileFail_answers (fc tile) (s : State) : Answers (wellFormed s.variant (.fabTileFail fc tile)) (execFabTileFail fc tile s) := by
  unfold execFabTileFail
  extract_lets -merge x0
  exact Answers.okIf _ _
theorem execSpareMigrationStep_answers (fc bad) (s : State) :
    Answers (wellFormed s.variant (.spareMigrationStep fc bad)) (execSpareMigrationStep fc bad s) := by
  unfold execSpareMigrationStep
  extract_lets -merge x0 x1 x2
  exact Answers.next _
theorem execFabEcc_answers (fc e single) (s : State) : Answers (wellFormed s.variant (.fabEcc fc e single)) (execFabEcc fc e single s) := by
  unfold execFabEcc
  extract_lets -merge x0 x1 x2
  exact Answers.okIf _ _
theorem execChzCoefParity_answers (fc sl) (s : State) : Answers (wellFormed s.variant (.chzCoefParity fc sl)) (execChzCoefParity fc sl s) := by
  unfold execChzCoefParity
  extract_lets -merge x0 x1 x2
  exact Answers.okIf _ _
theorem execDovetailSlip_answers (fc o) (s : State) :
    Answers (wellFormed s.variant (.dovetailSlip fc o)) (execDovetailSlip fc o s) := by
  unfold execDovetailSlip
  extract_lets -merge x0 x1 x2 x3 x4
  exact Answers.okIf _ _
theorem execMergeMismatch_answers (fc m) (s : State) :
    Answers (wellFormed s.variant (.mergeMismatch fc m)) (execMergeMismatch fc m s) := by
  unfold execMergeMismatch
  extract_lets -merge x0 x1 x2 x3 x4
  exact Answers.okIf _ _
theorem execGougeAdaptationStep_answers (fc l) (s : State) :
    Answers (wellFormed s.variant (.gougeAdaptationStep fc l)) (execGougeAdaptationStep fc l s) := by
  unfold execGougeAdaptationStep
  extract_lets -merge x0 x1
  exact Answers.okIf _ _
theorem execDelaySearchEnd_answers (fc sl lag peak iso) (s : State) :
    Answers (wellFormed s.variant (.delaySearchEnd fc sl lag peak iso)) (execDelaySearchEnd fc sl lag peak iso s) := by
  unfold execDelaySearchEnd
  extract_lets -merge x0 x1 x2 x3 x4
  exact Answers.okIf _ _
theorem execProbePhaseEnd_answers (fc sl) (s : State) : Answers (wellFormed s.variant (.probePhaseEnd fc sl)) (execProbePhaseEnd fc sl s) := by
  unfold execProbePhaseEnd
  extract_lets -merge x0 x1
  exact Answers.okIf _ _
theorem execCheckpoint_answers (fc sl) (s : State) : Answers (wellFormed s.variant (.checkpoint fc sl)) (execCheckpoint fc sl s) := by
  unfold execCheckpoint
  extract_lets -merge x0 x1 x2 x3 x4 x5 x6 x7 x8
  exact Answers.okIf _ _
theorem execLaneFail_answers (fc lane) (s : State) : Answers (wellFormed s.variant (.laneFail fc lane)) (execLaneFail fc lane s) := by
  unfold execLaneFail
  extract_lets -merge x0
  exact Answers.okIf _ _
theorem execGougeTapEcc_answers (fc kind at_ single) (s : State) :
    Answers (wellFormed s.variant (.gougeTapEcc fc kind at_ single)) (execGougeTapEcc fc kind at_ single s) := by
  unfold execGougeTapEcc
  extract_lets -merge x0 x1 x2 x3 x4 x5 x6 x7
  exact Answers.okIf _ _
theorem execLaneMigrationStep_answers (fc bad) (s : State) :
    Answers (wellFormed s.variant (.laneMigrationStep fc bad)) (execLaneMigrationStep fc bad s) := by
  unfold execLaneMigrationStep
  extract_lets -merge x0 x1 x2
  exact Answers.next _
theorem execFreeze_answers (fc sl on) (s : State) : Answers (wellFormed s.variant (.freeze fc sl on)) (execFreeze fc sl on s) := by
  unfold execFreeze
  extract_lets -merge x0
  exact Answers.okIf _ _
theorem execReprobe_answers (fc sl zero) (s : State) : Answers (wellFormed s.variant (.reprobe fc sl zero)) (execReprobe fc sl zero s) := by
  unfold execReprobe
  extract_lets -merge x0 x1
  exact Answers.okIf _ _
theorem execGougeSnapshot_answers (fc sq idx) (s : State) :
    Answers (wellFormed s.variant (.gougeSnapshot fc sq idx)) (execGougeSnapshot fc sq idx s) := by
  unfold execGougeSnapshot
  exact Answers.next _
theorem execSnapshotCopy_answers (fc) (s : State) : Answers (wellFormed s.variant (.snapshotCopy fc)) (execSnapshotCopy fc s) := by
  unfold execSnapshotCopy
  extract_lets -merge x0 x1 x2
  split
  · exact Answers.next _
  · extract_lets -merge x3 x4 x5
    refine Answers.ite (Answers.next _) ?_
    split
    · exact Answers.next _
    · exact Answers.next _
theorem execGuardEvaluation_answers (fc l em) (s : State) :
    Answers (wellFormed s.variant (.guardEvaluation fc l em)) (execGuardEvaluation fc l em s) := by
  unfold execGuardEvaluation
  extract_lets -merge x0 x1
  exact Answers.okIf _ _
theorem execGuardMuteEffect_answers (s : State) : Answers (wellFormed s.variant (.guardMuteEffect)) (execGuardMuteEffect s) := by
  exact Answers.next _
theorem execGuardHoldExpiry_answers (fc) (s : State) : Answers (wellFormed s.variant (.guardHoldExpiry fc)) (execGuardHoldExpiry fc s) := by
  unfold execGuardHoldExpiry
  extract_lets -merge x0 x1 x2 x3 x4 x5 x6 x7
  exact Answers.next _
theorem execGrdLatchClear_answers (fc) (s : State) : Answers (wellFormed s.variant (.grdLatchClear fc)) (execGrdLatchClear fc s) := by
  unfold execGrdLatchClear
  extract_lets -merge x0 x1
  exact Answers.next _
theorem execGaugeTrigger_answers (fc n) (s : State) : Answers (wellFormed s.variant (.gaugeTrigger fc n)) (execGaugeTrigger fc n s) := by
  unfold execGaugeTrigger
  extract_lets -merge x0 x1 x2 x3
  exact Answers.okIf _ _
theorem execGaugeDelayEnd_answers (fc n) (s : State) : Answers (wellFormed s.variant (.gaugeDelayEnd fc n)) (execGaugeDelayEnd fc n s) := by
  unfold execGaugeDelayEnd
  extract_lets -merge x0 x1
  exact Answers.okIf _ _
theorem execConversionEnd_answers (fc n v) (s : State) : Answers (wellFormed s.variant (.conversionEnd fc n v)) (execConversionEnd fc n v s) := by
  unfold execConversionEnd
  extract_lets -merge x0 x1 x2 x3
  exact Answers.okIf _ _
theorem execInjGo_answers (fc n e) (s : State) : Answers (wellFormed s.variant (.injGo fc n e)) (execInjGo fc n e s) := by
  unfold execInjGo
  extract_lets -merge x0
  exact Answers.okIf _ _
theorem execSelfCal_answers (fc n) (s : State) : Answers (wellFormed s.variant (.selfCal fc n)) (execSelfCal fc n s) := by
  unfold execSelfCal
  extract_lets -merge x0
  exact Answers.okIf _ _
theorem execGaugeSelfCalEnd_answers (fc n offset gain) (s : State) :
    Answers (wellFormed s.variant (.gaugeSelfCalEnd fc n offset gain)) (execGaugeSelfCalEnd fc n offset gain s) := by
  unfold execGaugeSelfCalEnd
  extract_lets -merge x0 x1 x2 x3
  exact Answers.okIf _ _
theorem execPwmTriggerLine_answers (fc l) (s : State) : Answers (wellFormed s.variant (.pwmTriggerLine fc l)) (execPwmTriggerLine fc l s) := by
  unfold execPwmTriggerLine
  extract_lets -merge x0 x1
  exact Answers.okIf _ _
theorem execCarrierZero_answers (fc) (s : State) : Answers (wellFormed s.variant (.carrierZero fc)) (execCarrierZero fc s) := by
  unfold execCarrierZero
  extract_lets -merge x0 x1 x2 x3 x4 x5 x6 x7 x8 x9 x10 x11
  exact Answers.ite (Answers.next _) (Answers.ite (Answers.next _) (Answers.next _))
theorem execCarrierTop_answers (fc) (s : State) : Answers (wellFormed s.variant (.carrierTop fc)) (execCarrierTop fc s) := by
  unfold execCarrierTop
  extract_lets -merge x0 x1
  split
  · exact Answers.ite (Answers.next _) (Answers.next _)
  · exact Answers.next _
theorem execCompareMatch_answers (fc n isB) (s : State) : Answers (wellFormed s.variant (.compareMatch fc n isB)) (execCompareMatch fc n isB s) := by
  unfold execCompareMatch
  extract_lets -merge x0 x1
  exact Answers.okIf _ _
theorem execDeadTimeEnd_answers (fc o) (s : State) : Answers (wellFormed s.variant (.deadTimeEnd fc o)) (execDeadTimeEnd fc o s) := by
  unfold execDeadTimeEnd
  extract_lets -merge x0
  exact Answers.okIf _ _
theorem execMinIntervalReached_answers (fc o) (s : State) :
    Answers (wellFormed s.variant (.minIntervalReached fc o)) (execMinIntervalReached fc o s) := by
  unfold execMinIntervalReached
  extract_lets -merge x0
  exact Answers.okIf _ _
theorem execTripActive_answers (fc k) (s : State) : Answers (wellFormed s.variant (.tripActive fc k)) (execTripActive fc k s) := by
  unfold execTripActive
  extract_lets -merge x0 x1
  exact Answers.okIf _ _
theorem execTripInactive_answers (fc k) (s : State) : Answers (wellFormed s.variant (.tripInactive fc k)) (execTripInactive fc k s) := by
  unfold execTripInactive
  extract_lets -merge x0
  exact Answers.okIf _ _
theorem execTripClear_answers (fc m) (s : State) : Answers (wellFormed s.variant (.tripClear fc m)) (execTripClear fc m s) := by
  unfold execTripClear
  extract_lets -merge x0
  exact Answers.next _
theorem execLoadAll_answers (fc m) (s : State) : Answers (wellFormed s.variant (.loadAll fc m)) (execLoadAll fc m s) := by
  unfold execLoadAll
  extract_lets -merge x0 x1 x2
  exact Answers.next _
theorem execSupplyLoopRun_answers (fc n) (s : State) : Answers (wellFormed s.variant (.supplyLoopRun fc n)) (execSupplyLoopRun fc n s) := by
  unfold execSupplyLoopRun
  extract_lets -merge x0
  exact Answers.okIf _ _
theorem execSupplyLoopMiss_answers (fc n) (s : State) : Answers (wellFormed s.variant (.supplyLoopMiss fc n)) (execSupplyLoopMiss fc n s) := by
  unfold execSupplyLoopMiss
  extract_lets -merge x0 x1
  exact Answers.okIf _ _
theorem execSupplySetpoint_answers (fc sq idx) (s : State) :
    Answers (wellFormed s.variant (.supplySetpoint fc sq idx)) (execSupplySetpoint fc sq idx s) := by
  unfold execSupplySetpoint
  exact Answers.next _
theorem execHalt_answers (fc on) (s : State) : Answers (wellFormed s.variant (.halt fc on)) (execHalt fc on s) := by
  unfold execHalt
  extract_lets -merge x0 x1
  exact Answers.ite (Answers.next _) (Answers.ite (Answers.next _) (Answers.next _))
theorem execStep_answers (fc) (s : State) : Answers (wellFormed s.variant (.step fc)) (execStep fc s) := by
  unfold execStep
  extract_lets -merge x0 x1
  exact Answers.ite (Answers.next _) (Answers.next _)
theorem execLevelLoopRun_answers (fc l) (s : State) : Answers (wellFormed s.variant (.levelLoopRun fc l)) (execLevelLoopRun fc l s) := by
  unfold execLevelLoopRun
  extract_lets -merge x0
  exact Answers.okIf _ _
theorem execFePinEdge_answers (fc p) (s : State) : Answers (wellFormed s.variant (.fePinEdge fc p)) (execFePinEdge fc p s) := by
  unfold execFePinEdge
  extract_lets -merge x0 x1 x2
  exact Answers.okIf _ _
theorem execMaskAssert_answers (fc m) (s : State) : Answers (wellFormed s.variant (.maskAssert fc m)) (execMaskAssert fc m s) := by
  unfold execMaskAssert
  exact Answers.okIf _ _
theorem execMaskRelease_answers (fc m) (s : State) : Answers (wellFormed s.variant (.maskRelease fc m)) (execMaskRelease fc m s) := by
  unfold execMaskRelease
  exact Answers.okIf _ _
theorem execPatternBoundary_answers (fc g) (s : State) : Answers (wellFormed s.variant (.patternBoundary fc g)) (execPatternBoundary fc g s) := by
  unfold execPatternBoundary
  extract_lets -merge x0 x1
  exact Answers.okIf _ _
theorem execFrameStart_answers (fc g) (s : State) : Answers (wellFormed s.variant (.frameStart fc g)) (execFrameStart fc g s) := by
  unfold execFrameStart
  extract_lets -merge x0 x1
  exact Answers.okIf _ _
theorem execSyncInEdge_answers (fc) (s : State) : Answers (wellFormed s.variant (.syncInEdge fc)) (execSyncInEdge fc s) := by
  unfold execSyncInEdge
  extract_lets -merge x0 x1 x2 x3
  exact Answers.ite (Answers.next _) (Answers.next _)
theorem execSyncBurst_answers (fc g b levels) (s : State) :
    Answers (wellFormed s.variant (.syncBurst fc g b levels)) (execSyncBurst fc g b levels s) := by
  unfold execSyncBurst
  extract_lets -merge x0 x1
  exact Answers.okIf _ _
theorem execSeqTxTimeout_answers (fc g) (s : State) : Answers (wellFormed s.variant (.seqTxTimeout fc g)) (execSeqTxTimeout fc g s) := by
  unfold execSeqTxTimeout
  extract_lets -merge x0 x1
  exact Answers.okIf _ _
theorem execSeqHoldExpired_answers (fc g) (s : State) : Answers (wellFormed s.variant (.seqHoldExpired fc g)) (execSeqHoldExpired fc g s) := by
  unfold execSeqHoldExpired
  extract_lets -merge x0
  exact Answers.okIf _ _
theorem execRffeScheduledCommand_answers (fc b j) (s : State) :
    Answers (wellFormed s.variant (.rffeScheduledCommand fc b j)) (execRffeScheduledCommand fc b j s) := by
  unfold execRffeScheduledCommand
  extract_lets -merge x0 x1 x2
  exact Answers.okIf _ _
theorem execHostRffeCommand_answers (fc v) (s : State) : Answers (wellFormed s.variant (.hostRffeCommand fc v)) (execHostRffeCommand fc v s) := by
  unfold execHostRffeCommand
  extract_lets -merge x0 x1 x2 x3 x4
  exact Answers.ite (Answers.next _) (Answers.next _)
theorem execTunerSearchStep_answers (fc m) (s : State) : Answers (wellFormed s.variant (.tunerSearchStep fc m)) (execTunerSearchStep fc m s) := by
  unfold execTunerSearchStep
  extract_lets -merge x0 x1 x2 x3 x4
  exact Answers.okIf _ _
theorem execSearchTimeout_answers (fc m) (s : State) : Answers (wellFormed s.variant (.searchTimeout fc m)) (execSearchTimeout fc m s) := by
  unfold execSearchTimeout
  extract_lets -merge x0 x1
  exact Answers.okIf _ _
theorem execMismatchDwell_answers (fc m) (s : State) : Answers (wellFormed s.variant (.mismatchDwell fc m)) (execMismatchDwell fc m s) := by
  unfold execMismatchDwell
  extract_lets -merge x0 x1 x2 x3 x4
  exact Answers.okIf _ _
theorem execRetry_answers (fc v) (s : State) : Answers (wellFormed s.variant (.retry fc v)) (execRetry fc v s) := by
  unfold execRetry
  extract_lets -merge x0 x1 x2
  exact Answers.next _
theorem execRffeCommandEnd_answers (fc b parity rdata) (s : State) :
    Answers (wellFormed s.variant (.rffeCommandEnd fc b parity rdata)) (execRffeCommandEnd fc b parity rdata s) := by
  unfold execRffeCommandEnd
  extract_lets -merge x0 x1 x2
  exact Answers.okIf _ _
theorem execFaultEvent_answers (fc srcs) (s : State) : Answers (wellFormed s.variant (.faultEvent fc srcs)) (execFaultEvent fc srcs s) := by
  unfold execFaultEvent
  extract_lets -merge x0 x1 x2 x3
  split
  · exact Answers.next _
theorem execFaultWindowClose_answers (fc j) (s : State) : Answers (wellFormed s.variant (.faultWindowClose fc j)) (execFaultWindowClose fc j s) := by
  unfold execFaultWindowClose
  extract_lets -merge x0
  exact Answers.okIf _ _
theorem execFltStatusClear_answers (fc hi v) (s : State) :
    Answers (wellFormed s.variant (.fltStatusClear fc hi v)) (execFltStatusClear fc hi v s) := by
  unfold execFltStatusClear
  extract_lets -merge x0
  exact Answers.next _
theorem execAliveToggle_answers (fc) (s : State) : Answers (wellFormed s.variant (.aliveToggle fc)) (execAliveToggle fc s) := by
  unfold execAliveToggle
  extract_lets -merge x0
  exact Answers.ite (Answers.next _) (Answers.next _)
theorem execStateRequest_answers (fc sq idx) (s : State) :
    Answers (wellFormed s.variant (.stateRequest fc sq idx)) (execStateRequest fc sq idx s) := by
  unfold execStateRequest
  exact Answers.next _
theorem execSynthLocked_answers (fc w) (s : State) : Answers (wellFormed s.variant (.synthLocked fc w)) (execSynthLocked fc w s) := by
  unfold execSynthLocked
  extract_lets -merge x0 x1 x2 x3 x4 x5
  exact Answers.okIf _ _
theorem execSynthLockTimeout_answers (fc w) (s : State) : Answers (wellFormed s.variant (.synthLockTimeout fc w)) (execSynthLockTimeout fc w s) := by
  unfold execSynthLockTimeout
  extract_lets -merge x0 x1 x2 x3 x4 x5 x6 x7 x8 x9
  exact Answers.okIf _ _
theorem execSynthLockLoss_answers (fc w) (s : State) : Answers (wellFormed s.variant (.synthLockLoss fc w)) (execSynthLockLoss fc w s) := by
  unfold execSynthLockLoss
  extract_lets -merge x0 x1
  exact Answers.okIf _ _
theorem execPwrVinUv_answers (fc vin) (s : State) : Answers (wellFormed s.variant (.pwrVinUv fc vin)) (execPwrVinUv fc vin s) := by
  unfold execPwrVinUv
  extract_lets -merge x0 x1 x2 x3
  exact Answers.okIf _ _
theorem execVinUvRecovery_answers (fc) (s : State) : Answers (wellFormed s.variant (.vinUvRecovery fc)) (execVinUvRecovery fc s) := by
  unfold execVinUvRecovery
  exact Answers.next _
theorem execPwrVinOv_answers (fc vin) (s : State) : Answers (wellFormed s.variant (.pwrVinOv fc vin)) (execPwrVinOv fc vin s) := by
  unfold execPwrVinOv
  extract_lets -merge x0 x1 x2
  exact Answers.okIf _ _
theorem execVinOvRecovery_answers (fc) (s : State) : Answers (wellFormed s.variant (.vinOvRecovery fc)) (execVinOvRecovery fc s) := by
  unfold execVinOvRecovery
  exact Answers.next _
theorem execVinShutdown_answers (fc vin) (s : State) : Answers (wellFormed s.variant (.vinShutdown fc vin)) (execVinShutdown fc vin s) := by
  unfold execVinShutdown
  extract_lets -merge x0
  exact Answers.okIf _ _
theorem execRailRecovery_answers (fc rail) (s : State) : Answers (wellFormed s.variant (.railRecovery fc rail)) (execRailRecovery fc rail s) := by
  unfold execRailRecovery
  extract_lets -merge x0 x1 x2 x3 x4 x5 x6 x7 x8
  exact Answers.okIf _ _
theorem execTempSensorRead_answers (fc donor service fabric power) (s : State) :
    Answers (wellFormed s.variant (.tempSensorRead fc donor service fabric power)) (execTempSensorRead fc donor service fabric power s) := by
  unfold execTempSensorRead
  extract_lets -merge x0 x1 x2 x3
  split
  · extract_lets -merge x4 x5 x6 x7 x8 x9 x10
    exact Answers.okIf _ _
theorem execKillNFall_answers (fc) (s : State) : Answers (wellFormed s.variant (.killNFall fc)) (execKillNFall fc s) := by
  unfold execKillNFall
  extract_lets -merge x0 x1
  exact Answers.next _
theorem execKillNRise_answers (fc) (s : State) : Answers (wellFormed s.variant (.killNRise fc)) (execKillNRise fc s) := by
  unfold execKillNRise
  extract_lets -merge x0 x1
  exact Answers.next _
theorem execKillResume_answers (fc) (s : State) : Answers (wellFormed s.variant (.killResume fc)) (execKillResume fc s) := by
  unfold execKillResume
  extract_lets -merge x0 x1 x2
  exact Answers.next _
theorem execRefclkLoss_answers (fc) (s : State) : Answers (wellFormed s.variant (.refclkLoss fc)) (execRefclkLoss fc s) := by
  unfold execRefclkLoss
  extract_lets -merge x0 x1 x2 x3 x4 x5 x6 x7 x8 x9 x10 x11 x12 x13
  exact Answers.ite (Answers.next _) (Answers.ite (Answers.next _) (Answers.ite (Answers.next _) (Answers.next _)))
theorem execRefclkReturn_answers (fc us) (s : State) : Answers (wellFormed s.variant (.refclkReturn fc us)) (execRefclkReturn fc us s) := by
  unfold execRefclkReturn
  extract_lets -merge x0 x1 x2 x3 x4 x5 x6 x7 x8
  exact Answers.ite (Answers.next _) (Answers.ite (Answers.next _) (Answers.next _))
theorem execAutonomousRecovery_answers (fc) (s : State) : Answers (wellFormed s.variant (.autonomousRecovery fc)) (execAutonomousRecovery fc s) := by
  unfold execAutonomousRecovery
  extract_lets -merge x0 x1 x2 x3
  exact Answers.next _
theorem execPlanLoad_answers (fc sq idx) (s : State) : Answers (wellFormed s.variant (.planLoad fc sq idx)) (execPlanLoad fc sq idx s) := by
  unfold execPlanLoad
  exact Answers.next _
theorem execParseEnd_answers (fc) (s : State) : Answers (wellFormed s.variant (.parseEnd fc)) (execParseEnd fc s) := by
  unfold execParseEnd
  extract_lets -merge x0 x1
  split
  · split
    · exact Answers.next _
    · exact Answers.next _
  · exact Answers.next _
theorem execRwsWrite_answers (fc off v) (s : State) : Answers (wellFormed s.variant (.rwsWrite fc off v)) (execRwsWrite fc off v s) := by
  unfold execRwsWrite
  extract_lets -merge x0 x1 x2 x3
  split
  · exact Answers.next _
  · exact Answers.ite (Answers.next _) (Answers.ite (Answers.next _) (Answers.next _))
theorem execCopyActive_answers (fc) (s : State) : Answers (wellFormed s.variant (.copyActive fc)) (execCopyActive fc s) := by
  unfold execCopyActive
  exact Answers.next _
theorem execClearShadow_answers (fc) (s : State) : Answers (wellFormed s.variant (.clearShadow fc)) (execClearShadow fc s) := by
  unfold execClearShadow
  exact Answers.next _
theorem execFlashLoad_answers (fc) (s : State) : Answers (wellFormed s.variant (.flashLoad fc)) (execFlashLoad fc s) := by
  unfold execFlashLoad
  exact Answers.next _
theorem execPlanSwapNext_answers (fc sq idx) (s : State) :
    Answers (wellFormed s.variant (.planSwapNext fc sq idx)) (execPlanSwapNext fc sq idx s) := by
  unfold execPlanSwapNext
  exact Answers.next _
theorem execPlanSwapAtTurn_answers (fc sq idx) (s : State) :
    Answers (wellFormed s.variant (.planSwapAtTurn fc sq idx)) (execPlanSwapAtTurn fc sq idx s) := by
  unfold execPlanSwapAtTurn
  exact Answers.next _
theorem execPlanSwapCheck_answers (fc sq idx) (s : State) :
    Answers (wellFormed s.variant (.planSwapCheck fc sq idx)) (execPlanSwapCheck fc sq idx s) := by
  unfold execPlanSwapCheck
  exact Answers.next _
theorem execSwapValidationEnd_answers (fc) (s : State) : Answers (wellFormed s.variant (.swapValidationEnd fc)) (execSwapValidationEnd fc s) := by
  unfold execSwapValidationEnd
  extract_lets -merge x0 x1
  split
  · exact Answers.next _
  · extract_lets -merge x2
    refine Answers.ite (Answers.next _) ?_
    split
    · exact Answers.next _
    · exact Answers.next _
theorem execFlashStart_answers (fc) (s : State) : Answers (wellFormed s.variant (.flashStart fc)) (execFlashStart fc s) := by
  unfold execFlashStart
  extract_lets -merge x0
  exact Answers.next _
theorem execFlashReadEnd_answers (fc bytes) (s : State) : Answers (wellFormed s.variant (.flashReadEnd fc bytes)) (execFlashReadEnd fc bytes s) := by
  unfold execFlashReadEnd
  extract_lets -merge x0 x1 x2 x3 x4 x5 x6
  split
  · exact Answers.ite (Answers.next _) (Answers.next _)
  · extract_lets -merge x7 x8 x9
    exact Answers.next _
  · extract_lets -merge x10 x11
    exact Answers.next _
  · extract_lets -merge x12
    exact Answers.ite (Answers.next _) (Answers.next _)
  · exact Answers.next _
theorem execPlanEcc_answers (fc kind word single) (s : State) :
    Answers (wellFormed s.variant (.planEcc fc kind word single)) (execPlanEcc fc kind word single s) := by
  unfold execPlanEcc
  exact Answers.okIf _ _
theorem execApzMark_answers (t16 data kill) (s : State) : Answers (wellFormed s.variant (.apzMark t16 data kill)) (execApzMark t16 data kill s) := by
  unfold execApzMark
  extract_lets -merge x0 x1
  exact Answers.okIf _ _
theorem execApzCountFrame_answers (fc k data kill) (s : State) :
    Answers (wellFormed s.variant (.apzCountFrame fc k data kill)) (execApzCountFrame fc k data kill s) := by
  unfold execApzCountFrame
  extract_lets -merge x0 x1
  exact Answers.okIf _ _
theorem execApzEpochFrame_answers (fc k data kill) (s : State) :
    Answers (wellFormed s.variant (.apzEpochFrame fc k data kill)) (execApzEpochFrame fc k data kill s) := by
  unfold execApzEpochFrame
  extract_lets -merge x0 x1
  exact Answers.okIf _ _
theorem execApzHopFrame_answers (fc data kill) (s : State) :
    Answers (wellFormed s.variant (.apzHopFrame fc data kill)) (execApzHopFrame fc data kill s) := by
  unfold execApzHopFrame
  extract_lets -merge x0 x1
  exact Answers.okIf _ _
theorem execApzDelayFrame_answers (fc k data kill) (s : State) :
    Answers (wellFormed s.variant (.apzDelayFrame fc k data kill)) (execApzDelayFrame fc k data kill s) := by
  unfold execApzDelayFrame
  extract_lets -merge x0 x1
  exact Answers.okIf _ _
theorem execApzEcho_answers (t16 kill) (s : State) : Answers (wellFormed s.variant (.apzEcho t16 kill)) (execApzEcho t16 kill s) := by
  unfold execApzEcho
  extract_lets -merge x0 x1 x2 x3 x4 x5 x6
  exact Answers.okIf _ _
theorem execApzIdleFrame_answers (fc j kill) (s : State) :
    Answers (wellFormed s.variant (.apzIdleFrame fc j kill)) (execApzIdleFrame fc j kill s) := by
  unfold execApzIdleFrame
  extract_lets -merge x0
  exact Answers.okIf _ _
theorem execApzInvalidFrame_answers (fc j) (s : State) : Answers (wellFormed s.variant (.apzInvalidFrame fc j)) (execApzInvalidFrame fc j s) := by
  unfold execApzInvalidFrame
  extract_lets -merge x0 x1 x2
  exact Answers.okIf _ _
theorem execApzInputDown_answers (fc j cause) (s : State) :
    Answers (wellFormed s.variant (.apzInputDown fc j cause)) (execApzInputDown fc j cause s) := by
  unfold execApzInputDown
  extract_lets -merge x0 x1 x2 x3 x4 x5 x6 x7
  exact Answers.okIf _ _
theorem execApzInputUp_answers (fc j) (s : State) : Answers (wellFormed s.variant (.apzInputUp fc j)) (execApzInputUp fc j s) := by
  unfold execApzInputUp
  extract_lets -merge x0 x1
  exact Answers.okIf _ _
theorem execNoLeader_answers (fc) (s : State) : Answers (wellFormed s.variant (.noLeader fc)) (execNoLeader fc s) := by
  unfold execNoLeader
  extract_lets -merge x0 x1 x2
  exact Answers.next _
theorem execPorAssert_answers (fc) (s : State) : Answers (wellFormed s.variant (.porAssert fc)) (execPorAssert fc s) := by
  unfold execPorAssert
  exact Answers.next _
theorem execResetNAssert_answers (fc unit) (s : State) : Answers (wellFormed s.variant (.resetNAssert fc unit)) (execResetNAssert fc unit s) := by
  unfold execResetNAssert
  extract_lets -merge x0 x1 x2 x3
  exact Answers.ite (Answers.next _) (Answers.ite (Answers.next _) (Answers.next _))
theorem execPorRelease_answers (fc straps) (s : State) : Answers (wellFormed s.variant (.porRelease fc straps)) (execPorRelease fc straps s) := by
  unfold execPorRelease
  extract_lets -merge x0 x1
  exact Answers.okIf _ _
theorem execResetNRelease_answers (fc straps) (s : State) :
    Answers (wellFormed s.variant (.resetNRelease fc straps)) (execResetNRelease fc straps s) := by
  unfold execResetNRelease
  extract_lets -merge x0 x1
  exact Answers.okIf _ _
theorem execPwrRail_answers (fc rail unit) (s : State) : Answers (wellFormed s.variant (.pwrRail fc rail unit)) (execPwrRail fc rail unit s) := by
  unfold execPwrRail
  extract_lets -merge x0
  exact Answers.okIf _ _
theorem execSelfTestEnd_answers (fc failed sealedSet) (s : State) :
    Answers (wellFormed s.variant (.selfTestEnd fc failed sealedSet)) (execSelfTestEnd fc failed sealedSet s) := by
  unfold execSelfTestEnd
  extract_lets -merge x0 x1
  exact Answers.okIf _ _
theorem execChipReset_answers (fc unit) (s : State) : Answers (wellFormed s.variant (.chipReset fc unit)) (execChipReset fc unit s) := by
  unfold execChipReset
  extract_lets -merge x0 x1 x2 x3 x4 x5 x6 x7 x8 x9
  split
  · exact Answers.next _
  · extract_lets -merge x10 x11 x12 x13 x14 x15 x16 x17 x18
    exact Answers.next _
theorem execFltInjectArm_answers (fc checker twoBits index) (s : State) :
    Answers (wellFormed s.variant (.fltInjectArm fc checker twoBits index)) (execFltInjectArm fc checker twoBits index s) := by
  unfold execFltInjectArm
  extract_lets -merge x0 x1 x2 x3
  exact Answers.okIf _ _
theorem execInjectedError_answers (fc p) (s : State) :
    Answers (wellFormed s.variant (.injectedError fc p)) (execInjectedError fc p s) := by
  unfold execInjectedError
  extract_lets -merge x0 x1 x2 x3 x4
  exact Answers.okIf _ _
theorem execCapture_answers (fc sq idx) (s : State) : Answers (wellFormed s.variant (.capture fc sq idx)) (execCapture fc sq idx s) := by
  unfold execCapture
  exact Answers.next _
theorem execCaptureTrigger_answers (fc h) (s : State) :
    Answers (wellFormed s.variant (.captureTrigger fc h)) (execCaptureTrigger fc h s) := by
  unfold execCaptureTrigger
  extract_lets -merge x0 x1
  exact Answers.okIf _ _
theorem execCaptureRecordingEnd_answers (fc engine w l) (s : State) :
    Answers (wellFormed s.variant (.captureRecordingEnd fc engine w l)) (execCaptureRecordingEnd fc engine w l s) := by
  unfold execCaptureRecordingEnd
  extract_lets -merge x0 x1
  exact Answers.okIf _ _
theorem execCaptureShareOverrun_answers (fc engine w l) (s : State) :
    Answers (wellFormed s.variant (.captureShareOverrun fc engine w l)) (execCaptureShareOverrun fc engine w l s) := by
  unfold execCaptureShareOverrun
  extract_lets -merge x0 x1
  exact Answers.okIf _ _
theorem execNoTrigger_answers (fc engine) (s : State) : Answers (wellFormed s.variant (.noTrigger fc engine)) (execNoTrigger fc engine s) := by
  unfold execNoTrigger
  extract_lets -merge x0 x1
  exact Answers.okIf _ _
theorem execRegisterWrite_answers (fc off len v) (s : State) :
    Answers (wellFormed s.variant (.registerWrite fc off len v)) (execRegisterWrite fc off len v s) := by
  unfold execRegisterWrite
  extract_lets -merge x0
  exact Answers.next _
theorem execWideLowRead_answers (fc off len) (s : State) :
    Answers (wellFormed s.variant (.wideLowRead fc off len)) (execWideLowRead fc off len s) := by
  unfold execWideLowRead
  exact Answers.okIf _ _
theorem execWideUpperRead_answers (fc off len) (s : State) :
    Answers (wellFormed s.variant (.wideUpperRead fc off len)) (execWideUpperRead fc off len s) := by
  unfold execWideUpperRead
  exact Answers.okIf _ _
theorem execClearOnRead_answers (fc off len) (s : State) :
    Answers (wellFormed s.variant (.clearOnRead fc off len)) (execClearOnRead fc off len s) := by
  unfold execClearOnRead
  exact Answers.next _
theorem execTurnBoundary_answers (m) (s : State) : Answers (wellFormed s.variant (.turnBoundary m)) (execTurnBoundary m s) := by
  unfold execTurnBoundary
  exact Answers.okIf _ _
theorem execCommitWindow_answers (s : State) : Answers (wellFormed s.variant (.commitWindow)) (execCommitWindow s) := by
  unfold execCommitWindow
  extract_lets -merge x0
  exact Answers.next _
theorem execTurnOverrun_answers (fc cls) (s : State) : Answers (wellFormed s.variant (.turnOverrun fc cls)) (execTurnOverrun fc cls s) := by
  unfold execTurnOverrun
  extract_lets -merge x0 x1 x2
  exact Answers.okIf _ _
theorem exec_answers (i : Instr) (s : State) : Answers (wellFormed s.variant i) (exec i s) := by
  cases i with
  | turnBoundary => exact execTurnBoundary_answers _ s
  | guardEvaluation => exact execGuardEvaluation_answers _ _ _ s
  | guardMuteEffect => exact execGuardMuteEffect_answers s
  | gougeAdaptationStep => exact execGougeAdaptationStep_answers _ _ s
  | levelLoopRun => exact execLevelLoopRun_answers _ _ s
  | commitWindow => exact execCommitWindow_answers s
  | turnOverrun => exact execTurnOverrun_answers _ _ s
  | doorbell => exact execDoorbell_answers _ s
  | doorbellRead => exact execDoorbellRead_answers _ _ s
  | descriptorFetch => exact execDescriptorFetch_answers _ _ _ s
  | coalesceTimeout => exact execCoalesceTimeout_answers _ _ s
  | nop => exact execNop_answers _ _ _ s
  | fence => exact execFence_answers _ _ _ s
  | planLoad => exact execPlanLoad_answers _ _ _ s
  | planSwapNext => exact execPlanSwapNext_answers _ _ _ s
  | planSwapAtTurn => exact execPlanSwapAtTurn_answers _ _ _ s
  | planSwapCheck => exact execPlanSwapCheck_answers _ _ _ s
  | slotGain => exact execSlotGain_answers _ _ _ s
  | capture => exact execCapture_answers _ _ _ s
  | gougeSnapshot => exact execGougeSnapshot_answers _ _ _ s
  | gaugeRead => exact execGaugeRead_answers _ _ _ s
  | counterRead => exact execCounterRead_answers _ _ _ s
  | logRead => exact execLogRead_answers _ _ _ s
  | logClear => exact execLogClear_answers _ _ s
  | logFreeze => exact execLogFreeze_answers _ _ s
  | logThaw => exact execLogThaw_answers _ _ s
  | calRun => exact execCalRun_answers _ _ _ s
  | supplySetpoint => exact execSupplySetpoint_answers _ _ _ s
  | stateRequest => exact execStateRequest_answers _ _ _ s
  | tokenSubmit => exact execTokenSubmit_answers _ _ _ s
  | getChallenge => exact execGetChallenge_answers _ _ _ s
  | respond => exact execRespond_answers _ _ _ s
  | endSession => exact execEndSession_answers _ _ _ s
  | transferUnit => exact execTransferUnit_answers _ _ s
  | heldCompletionDelivery => exact execHeldCompletionDelivery_answers _ s
  | sqCfgWrite => exact execSqCfgWrite_answers _ _ _ s
  | cqCfgWrite => exact execCqCfgWrite_answers _ _ _ s
  | pause => exact execPause_answers _ _ s
  | hifBlockReset => exact execHifBlockReset_answers _ _ s
  | orphanDiscard => exact execOrphanDiscard_answers _ s
  | trapClear => exact execTrapClear_answers _ s
  | hwtWrite => exact execHwtWrite_answers _ _ s
  | hwtRead => exact execHwtRead_answers _ _ s
  | hwtInvalidate => exact execHwtInvalidate_answers _ _ s
  | hwtInvalidateDrained => exact execHwtInvalidateDrained_answers _ s
  | rwsWrite => exact execRwsWrite_answers _ _ _ s
  | copyActive => exact execCopyActive_answers _ s
  | clearShadow => exact execClearShadow_answers _ s
  | flashLoad => exact execFlashLoad_answers _ s
  | freeze => exact execFreeze_answers _ _ _ s
  | reprobe => exact execReprobe_answers _ _ _ s
  | grdLatchClear => exact execGrdLatchClear_answers _ s
  | hostRffeCommand => exact execHostRffeCommand_answers _ _ s
  | rffeCommandEnd => exact execRffeCommandEnd_answers _ _ _ _ s
  | rffeScheduledCommand => exact execRffeScheduledCommand_answers _ _ _ s
  | retry => exact execRetry_answers _ _ s
  | selfCal => exact execSelfCal_answers _ _ s
  | injGo => exact execInjGo_answers _ _ _ s
  | loadAll => exact execLoadAll_answers _ _ s
  | tripClear => exact execTripClear_answers _ _ s
  | halt => exact execHalt_answers _ _ s
  | step => exact execStep_answers _ s
  | fltInjectArm => exact execFltInjectArm_answers _ _ _ _ s
  | injectedError => exact execInjectedError_answers _ _ s
  | fltStatusClear => exact execFltStatusClear_answers _ _ _ s
  | logRdSeq => exact execLogRdSeq_answers _ _ s
  | provGo => exact execProvGo_answers _ s
  | tokenRelease => exact execTokenRelease_answers _ _ s
  | registerWrite => exact execRegisterWrite_answers _ _ _ _ s
  | wideLowRead => exact execWideLowRead_answers _ _ _ s
  | clearOnRead => exact execClearOnRead_answers _ _ _ s
  | porAssert => exact execPorAssert_answers _ s
  | porRelease => exact execPorRelease_answers _ _ s
  | resetNAssert => exact execResetNAssert_answers _ _ s
  | resetNRelease => exact execResetNRelease_answers _ _ s
  | perstNAssert => exact execPerstNAssert_answers _ _ s
  | perstNRelease => exact execPerstNRelease_answers _ s
  | killNFall => exact execKillNFall_answers _ s
  | killNRise => exact execKillNRise_answers _ s
  | killResume => exact execKillResume_answers _ s
  | tripActive => exact execTripActive_answers _ _ s
  | tripInactive => exact execTripInactive_answers _ _ s
  | syncInEdge => exact execSyncInEdge_answers _ s
  | refclkLoss => exact execRefclkLoss_answers _ s
  | refclkReturn => exact execRefclkReturn_answers _ _ s
  | autonomousRecovery => exact execAutonomousRecovery_answers _ s
  | pwrVinUv => exact execPwrVinUv_answers _ _ s
  | vinUvRecovery => exact execVinUvRecovery_answers _ s
  | pwrVinOv => exact execPwrVinOv_answers _ _ s
  | vinOvRecovery => exact execVinOvRecovery_answers _ s
  | vinShutdown => exact execVinShutdown_answers _ _ s
  | pwrRail => exact execPwrRail_answers _ _ _ s
  | railRecovery => exact execRailRecovery_answers _ _ s
  | tempSensorRead => exact execTempSensorRead_answers _ _ _ _ _ s
  | secTamper => exact execSecTamper_answers _ _ _ _ s
  | hifLinkDown => exact execHifLinkDown_answers _ s
  | linkUp => exact execLinkUp_answers _ _ _ s
  | jtagInstruction => exact execJtagInstruction_answers _ _ _ s
  | apzMark => exact execApzMark_answers _ _ _ s
  | apzCountFrame => exact execApzCountFrame_answers _ _ _ _ s
  | apzEpochFrame => exact execApzEpochFrame_answers _ _ _ _ s
  | apzHopFrame => exact execApzHopFrame_answers _ _ _ s
  | apzDelayFrame => exact execApzDelayFrame_answers _ _ _ _ s
  | apzEcho => exact execApzEcho_answers _ _ s
  | apzIdleFrame => exact execApzIdleFrame_answers _ _ _ s
  | apzInvalidFrame => exact execApzInvalidFrame_answers _ _ s
  | apzInputDown => exact execApzInputDown_answers _ _ _ s
  | apzInputUp => exact execApzInputUp_answers _ _ s
  | noLeader => exact execNoLeader_answers _ s
  | synthLocked => exact execSynthLocked_answers _ _ s
  | synthLockTimeout => exact execSynthLockTimeout_answers _ _ s
  | synthLockLoss => exact execSynthLockLoss_answers _ _ s
  | calEnd => exact execCalEnd_answers _ _ _ s
  | trackUpdate => exact execTrackUpdate_answers _ _ _ s
  | dovetailSlip => exact execDovetailSlip_answers _ _ s
  | mergeMismatch => exact execMergeMismatch_answers _ _ s
  | fabEcc => exact execFabEcc_answers _ _ _ s
  | chzCoefParity => exact execChzCoefParity_answers _ _ s
  | fabTileFail => exact execFabTileFail_answers _ _ s
  | spareMigrationStep => exact execSpareMigrationStep_answers _ _ s
  | fillEnd => exact execFillEnd_answers _ _ s
  | converterEnableSettle => exact execConverterEnableSettle_answers _ s
  | captureTrigger => exact execCaptureTrigger_answers _ _ s
  | noTrigger => exact execNoTrigger_answers _ _ s
  | snapshotCopy => exact execSnapshotCopy_answers _ s
  | delaySearchEnd => exact execDelaySearchEnd_answers _ _ _ _ _ s
  | probePhaseEnd => exact execProbePhaseEnd_answers _ _ s
  | checkpoint => exact execCheckpoint_answers _ _ s
  | gougeTapEcc => exact execGougeTapEcc_answers _ _ _ _ s
  | laneFail => exact execLaneFail_answers _ _ s
  | laneMigrationStep => exact execLaneMigrationStep_answers _ _ s
  | guardHoldExpiry => exact execGuardHoldExpiry_answers _ s
  | patternBoundary => exact execPatternBoundary_answers _ _ s
  | fePinEdge => exact execFePinEdge_answers _ _ s
  | seqTxTimeout => exact execSeqTxTimeout_answers _ _ s
  | seqHoldExpired => exact execSeqHoldExpired_answers _ _ s
  | frameStart => exact execFrameStart_answers _ _ s
  | syncBurst => exact execSyncBurst_answers _ _ _ _ s
  | mismatchDwell => exact execMismatchDwell_answers _ _ s
  | tunerSearchStep => exact execTunerSearchStep_answers _ _ s
  | searchTimeout => exact execSearchTimeout_answers _ _ s
  | carrierZero => exact execCarrierZero_answers _ s
  | carrierTop => exact execCarrierTop_answers _ s
  | compareMatch => exact execCompareMatch_answers _ _ _ s
  | pwmTriggerLine => exact execPwmTriggerLine_answers _ _ s
  | maskAssert => exact execMaskAssert_answers _ _ s
  | maskRelease => exact execMaskRelease_answers _ _ s
  | gaugeTrigger => exact execGaugeTrigger_answers _ _ s
  | gaugeDelayEnd => exact execGaugeDelayEnd_answers _ _ s
  | conversionEnd => exact execConversionEnd_answers _ _ _ s
  | gaugeSelfCalEnd => exact execGaugeSelfCalEnd_answers _ _ _ _ s
  | supplyLoopRun => exact execSupplyLoopRun_answers _ _ s
  | supplyLoopMiss => exact execSupplyLoopMiss_answers _ _ s
  | faultEvent => exact execFaultEvent_answers _ _ s
  | faultWindowClose => exact execFaultWindowClose_answers _ _ s
  | chipReset => exact execChipReset_answers _ _ s
  | aliveToggle => exact execAliveToggle_answers _ s
  | eventArrival => exact execEventArrival_answers _ s
  | turnMark => exact execTurnMark_answers _ s
  | rateRefill => exact execRateRefill_answers _ s
  | logMem => exact execLogMem_answers _ _ _ _ s
  | parseEnd => exact execParseEnd_answers _ s
  | swapValidationEnd => exact execSwapValidationEnd_answers _ s
  | flashStart => exact execFlashStart_answers _ s
  | selfTestEnd => exact execSelfTestEnd_answers _ _ _ s
  | tokenVerdict => exact execTokenVerdict_answers _ s
  | consentCounterStep => exact execConsentCounterStep_answers _ s
  | provVerdict => exact execProvVerdict_answers _ s
  | otpRowCommit => exact execOtpRowCommit_answers _ s
  | respondVerdict => exact execRespondVerdict_answers _ s
  | challengeExpiry => exact execChallengeExpiry_answers _ s
  | sessionExpiry => exact execSessionExpiry_answers _ s
  | wideUpperRead => exact execWideUpperRead_answers _ _ _ s
  | planEcc => exact execPlanEcc_answers _ _ _ _ s
  | flashReadEnd => exact execFlashReadEnd_answers _ _ s
  | captureRecordingEnd => exact execCaptureRecordingEnd_answers _ _ _ _ s
  | captureShareOverrun => exact execCaptureShareOverrun_answers _ _ _ _ s
  | deadTimeEnd => exact execDeadTimeEnd_answers _ _ s
  | minIntervalReached => exact execMinIntervalReached_answers _ _ s
  | tamperEnd => exact execTamperEnd_answers _ s

end Sys2Proof.Machine
end

