-- ==== Sys2Proof/Laws/Told.lean ====
section
/-! SUPPORT. Which register fields an update leaves as they are (`sameRegsBut`), and what telling the host changes (`told`). -/
namespace Sys2Proof.Machine

variable {s t u : State} {l m : List Field}

theorem sameRegsBut_refl : s.sameRegsBut l s := fun _ _ => rfl
theorem sameRegsBut_put {f : Field} (h : s.sameRegsBut l t) (hf : f ∈ l) (v : Nat) : s.sameRegsBut l (t.put f v) := fun g hg =>
  (State.get_put_other t f g v (hg f hf)).trans (h g hg)
theorem sameRegsBut_regs (h : s.sameRegsBut l t) (e : u.regs = t.regs) : s.sameRegsBut l u := fun g hg => by
  unfold State.get
  rw [e]
  exact h g hg
theorem sameRegsBut_trans (h : s.sameRegsBut l t) (g : t.sameRegsBut l u) : s.sameRegsBut l u := fun f hf => (g f hf).trans (h f hf)
theorem sameRegsBut_mono (h : s.sameRegsBut l t) (hs : ∀ f ∈ l, f ∈ m) : s.sameRegsBut m t := fun f hf => h f fun g hg => hf g (hs g hg)
theorem sameRegsBut_each {α : Type} {f : State → α → State} (k : List α) (h : ∀ t : State, ∀ a ∈ k, t.sameRegsBut l (f t a)) :
    s.sameRegsBut l (s.each k f) := by
  unfold State.each
  induction k generalizing s with
  | nil => exact sameRegsBut_refl
  | cons a k ih =>
    exact sameRegsBut_trans (h s a List.mem_cons_self) (ih fun t b hb => h t b (List.mem_cons_of_mem _ hb))

/-- A one-bit field written reads back. -/
theorem State.flag_putB_same (s : State) (f : Field) (b : Bool) (h : f.width = 1) : (s.putB f b).flag f = b := by
  rw [State.flag_eq, State.get_putB_same, h]
  cases b <;> rfl
theorem State.flag_put_other (s : State) (f g : Field) (v : Nat) (h : g.key ≠ f.key) : (s.put f v).flag g = s.flag g := by
  rw [State.flag_eq, State.get_put_other _ _ _ _ h, State.flag_eq]

/-! ### Telling the host -/

theorem told_refl : s.told l s := ⟨sameRegsBut_refl, rfl⟩
theorem told_trans (h : s.told l t) (g : t.told l u) : s.told l u := by
  refine ⟨sameRegsBut_trans h.1 g.1, ?_⟩
  rw [g.2, h.2]
theorem told_mono (h : s.told l t) (hs : ∀ f ∈ l, f ∈ m) : s.told m t :=
  ⟨sameRegsBut_mono h.1 fun f hf => (List.mem_append.1 hf).elim (fun h => List.mem_append_left _ (hs f h)) (List.mem_append_right _), h.2⟩
theorem told_put {f : Field} (v : Nat) (hf : f ∈ l) : s.told l (s.put f v) :=
  ⟨sameRegsBut_put sameRegsBut_refl (List.mem_append_left _ hf) v, rfl⟩
theorem told_putReport {f : Field} (v : Nat) (hf : f ∈ reportFields) : s.told l (s.put f v) :=
  ⟨sameRegsBut_put sameRegsBut_refl (List.mem_append_right _ hf) v, rfl⟩
theorem told_bumpReport {f : Field} (k : Nat) (hf : f ∈ reportFields) : s.told l (s.bump f k) :=
  ⟨sameRegsBut_put (s := s) (t := s.note f k) sameRegsBut_refl (List.mem_append_right _ hf) _, rfl⟩
theorem told_raise (i : Nat) : s.told l (s.raise i) := ⟨sameRegsBut_refl, rfl⟩
theorem told_emit (a b c : Nat) (d : List Byte) : s.told l (s.emit a b c d) := ⟨sameRegsBut_refl, rfl⟩
theorem told_ite {c : Prop} [Decidable c] (h : s.told l t) (g : s.told l u) : s.told l (if c then t else u) := by
  split
  · exact h
  · exact g

theorem mem_reportFields_ring {n : Nat} (h : n < 8) {f : Field} (hf : f ∈ [F.HIF_CQ_STATUS_TAIL n, F.HIF_CQ_STATUS_PHASE n]) :
    f ∈ reportFields :=
  List.mem_cons_of_mem _ (List.mem_cons_of_mem _ (List.mem_cons_of_mem _ (List.mem_flatMap.2 ⟨n, List.mem_range.2 h, hf⟩)))
theorem mem_reportFields_pba {v : Nat} (h : v < 64) : F.HIF_MSIX_PBA_PENDING (v / 32) ∈ reportFields := by
  have h2 : v / 32 = 0 ∨ v / 32 = 1 := by omega
  rcases h2 with h2 | h2 <;> rw [h2]
  · exact List.mem_cons_of_mem _ List.mem_cons_self
  · exact List.mem_cons_of_mem _ (List.mem_cons_of_mem _ List.mem_cons_self)

theorem told_sendVec {v : Nat} (h : v < 64) : s.told l (s.sendVec v) := by
  unfold State.sendVec
  split
  · exact told_refl
  · split
    · exact told_putReport _ (mem_reportFields_pba h)
    · exact ⟨sameRegsBut_refl, rfl⟩
theorem told_irq (k : Nat) : s.told l (s.irq k) := by
  unfold State.irq
  extract_lets m en vec
  have hv : vec < 64 := by
    unfold vec
    split
    · exact State.get_lt _ _
    · exact State.get_lt _ _
    · exact State.get_lt _ _
    · exact State.get_lt _ _
  split
  · exact told_refl
  · exact told_sendVec hv
theorem told_cqMessage (cq : Nat) : s.told l (s.cqMessage cq) := by
  unfold State.cqMessage
  extract_lets t v
  have ht : s.told l t := ⟨sameRegsBut_refl, rfl⟩
  split
  · exact ht
  · exact told_trans ht (told_sendVec (State.get_lt _ _))
theorem told_writeCpl (c : Cpl) : s.told l (s.writeCpl c) := by
  unfold State.writeCpl
  extract_lets cq tail phase wrap base s1 s2 s3 e n first s4 lim
  have hc : cq < 8 := c.cq.isLt
  have h1 : s.told l s1 := ⟨sameRegsBut_refl, rfl⟩
  have h2 : s.told l s2 := told_trans h1 (told_putReport _ (mem_reportFields_ring hc List.mem_cons_self))
  have h3 : s.told l s3 := by
    unfold s3
    split
    · exact told_trans h2 (told_putReport _ (mem_reportFields_ring hc (List.mem_cons_of_mem _ List.mem_cons_self)))
    · exact h2
  have h4 : s.told l s4 := told_trans h3 ⟨sameRegsBut_refl, rfl⟩
  exact told_ite (told_trans h4 (told_cqMessage cq)) h4
theorem told_post (c : Cpl) : s.told l (s.post c) := by
  unfold State.post
  split
  · exact told_writeCpl c
  · split
    · exact ⟨sameRegsBut_refl, rfl⟩
    · extract_lets t u
      exact told_trans (told_trans (told_bumpReport 1 List.mem_cons_self) (told_emit _ _ _ _)) (told_raise 32)
theorem told_finishAt (k : DescKey) (st cause res det fl : Nat) (t : TurnNo) (fc : Nat) : s.told l (s.finishAt k st cause res det fl t fc) := by
  unfold State.finishAt
  split
  · exact told_refl
  · exact told_trans (t := s.setHif { s.hif with inflight := s.hif.inflight.filter (fun e => e.key != k) })
      ⟨sameRegsBut_refl, rfl⟩ (told_post _)
theorem told_settleFences (n : Nat) : s.told l (State.settleFences n s) := by
  induction n generalizing s with
  | zero => exact told_refl
  | succ n ih =>
    unfold State.settleFences
    split
    · exact told_refl
    · exact told_trans (told_finishAt _ _ _ _ _ _ _ _) ih
theorem told_completeAt (k : DescKey) (st cause res det fl : Nat) (t : TurnNo) (fc : Nat) :
    s.told l (s.completeAt k st cause res det fl t fc) := told_trans (told_finishAt _ _ _ _ _ _ _ _) (told_settleFences _)
theorem told_doneOpt (k : Option DescKey) (res : Nat) : s.told l (s.doneOpt k res) := by
  unfold State.doneOpt
  split
  · exact told_completeAt _ _ _ _ _ _ _ _
  · exact told_refl
theorem told_failedOpt (k : Option DescKey) (cause det : Nat) : s.told l (s.failedOpt k cause det) := by
  unfold State.failedOpt
  split
  · exact told_completeAt _ _ _ _ _ _ _ _
  · exact told_refl

end Sys2Proof.Machine
end

