-- ==== Sys2Proof/Tests/Slice0.lean ====
section
/-! SUPPORT. Tests: for every claim a state and operands that meet its hypotheses (`met_`), clause by clause and at the ends of their ranges;
an ill-formed command for each check of WellFormed.lean; and the spec's own worked examples, one step each (`test_`). -/
namespace Sys2Proof.Tests
open Sys2Proof Sys2Proof.Machine
set_option Elab.async false

/-! ### Small states -/

/-- `s` with register fields set. -/
def regs (l : List (Field × Nat)) (s : State) : State := l.foldl (fun s e => s.put e.1 e.2) s
/-- `s` with fields of its Active Plan set. -/
def plan (l : List (Field × Nat)) (s : State) : State := { s with active := l.foldl (fun p e => p.set e.1 e.2) s.active }
/-- The next state that a command answers, if it answers one. -/
def nextOf (c : Instr) (s : State) : Option State := match exec c s with | .next t => some t | _ => none
/-- Start-up is over, and the module is in this power state. -/
def inState (n : Nat) (s : State) : State := { s.put F.PWR_STATE_STATE n with pwr := { s.pwr with starting := false } }
/-- The link is up, and submission and completion ring 0 of 16 entries are enabled. -/
def linked (s : State) : State :=
  regs [(F.HIF_STATUS_LINK_UP, 1), (F.HIF_CQ_CFG_EN 0, 1), (F.HIF_CQ_CFG_SIZE 0, 4), (F.HIF_SQ_CFG_EN 0, 1), (F.HIF_SQ_CFG_SIZE 0, 4),
    (F.HIF_CQ_STATUS_PHASE 0, 1)] s
/-- LISTEN, with the link up. -/
def up : State := linked (inState 2 State.reset)
/-- 64 bytes of zeros but for those listed. -/
def bytes64 (l : List (Nat × Nat)) : List Byte := l.foldl (fun b e => b.set e.1 (BitVec.ofNat 8 e.2)) (List.replicate 64 0)
/-- The first descriptor of ring 0. -/
def desc (op : Nat) (l : List (Nat × Nat)) : Desc := ⟨0, 0, 5, op, 0, bytes64 l, 0, 0, 0, false, 0⟩
/-- One descriptor in flight. -/
def flying (d : Desc) (s : State) : State := { s with hif := { s.hif with inflight := [d] } }
/-- A unit on the link, translated through entry 3. -/
def busy (s : State) : State := { s with hif := { s.hif with cur := some ⟨0, 0, 8, 0, 3, [], false⟩ } }
/-- A completion. -/
def cpl : Cpl := ⟨5, 0, 0, 0, 1, 0, 0, 0, 0, 0, 0, false, 0⟩

/-! ### The claims say something: a state and operands that meet each hypothesis -/

theorem met_step_and_idle : { up with pending := [.commitWindow] }.pending = [.commitWindow] ∧ up.pending = [] := by decide +kernel
theorem met_invariant : State.reset.sec.otpOk = true ∧ Memory.wf State.reset.plan.image = true ∧ State.reset.fc < 3072 ∧
    { State.reset with fc := 3071 }.fc < 3072 := by decide +kernel
theorem met_only_a_boundary : marksTime .commitWindow = false ∧ movesImage .commitWindow = false ∧
    nextOf .commitWindow State.reset = some { State.reset with fc := 2816, worked := [(3, 0)] } := by decide +kernel
theorem met_every_command : wellFormed .gw6432 (.logMem 0 31 2 true) = true ∧ wellFormed .gw6432 (.logMem 0 32 2 true) = false := by decide +kernel

theorem met_doorbells : up.linkUp = true ∧ up.blockHeld .hif = false ∧ State.reset.linkUp = false ∧
    { up with hif := { up.hif with dbReads := 1 } }.hif.dbReads ≠ 0 ∧
    leAt (bytes64 [(0, 15)]) 0 2 < 2 ^ up.get (F.HIF_SQ_CFG_SIZE 0) ∧ ¬ leAt (bytes64 [(0, 16)]) 0 2 < 2 ^ up.get (F.HIF_SQ_CFG_SIZE 0) := by
  decide +kernel
/-- Tail 1 beyond head 0. -/
def oneReady : State := regs [(F.HIF_SQ_TAIL_SEEN_TAIL 0, 1)] up
theorem met_fetch : oneReady.nextFetch = some 0 ∧ oneReady.flag F.FLT_INJECT_ARMED = false ∧ descBad .gw6432 (padTo 64 (bytes64 [])) = none ∧
    descBad .gw6432 (padTo 64 (bytes64 [(4, 1)])) = some 4 ∧ oneReady.takesCpl 0 ∧
    oneReady.findDesc (0, oneReady.hif.nextOrder) = none := by decide +kernel

theorem met_nop_fence : (flying (desc Op.nop []) up).takesCpl 0 ∧ (flying (desc Op.nop []) up).offers Op.nop (desc Op.nop []) ∧
    (flying (desc Op.fence []) up).offers Op.fence (desc Op.fence []) ∧ fenceClear [desc Op.fence []] (desc Op.fence []) = true ∧
    fenceClear [{ desc Op.nop [] with idx := 1 }, { desc Op.fence [] with order := 1 }] { desc Op.fence [] with order := 1 } = false := by
  decide +kernel
/-- A ring that is disabled, and 256 completions held. -/
def full : State := flying (desc Op.nop []) { State.reset with hif := { State.reset.hif with held := List.replicate 256 cpl } }
theorem met_lost_completion : full.offers Op.nop (desc Op.nop []) ∧ ¬ full.takesCpl 0 ∧
    ∀ e ∈ full.hif.inflight, e.opcode = Op.fence → e.started = false := by decide +kernel
theorem met_reads_and_requests :
    (flying (desc Op.counterRead []) up).offers Op.counterRead (desc Op.counterRead []) ∧
    (flying (desc Op.gaugeRead []) up).offers Op.gaugeRead (desc Op.gaugeRead []) ∧
    (flying (desc Op.logClear []) up).offers Op.logClear (desc Op.logClear []) ∧
    (flying (desc Op.logFreeze []) up).offers Op.logFreeze (desc Op.logFreeze []) ∧
    (flying (desc Op.logThaw []) up).offers Op.logThaw (desc Op.logThaw []) ∧ 2815 % 3072 < 2816 ∧ ¬ 2816 % 3072 < 2816 := by decide +kernel
/-- One record in the log. -/
def oneRecord (s : State) : State := { s with log := { s.log with recs := [⟨1, ⟨2, 2, 0, []⟩, false, false, 0, 0⟩] } }
theorem met_transfers : (busy up).hif.cur = some ⟨0, 0, 8, 0, 3, [], false⟩ ∧
    (busy (flying (desc Op.tokenSubmit []) up)).offers Op.tokenSubmit (desc Op.tokenSubmit []) ∧
    (busy (flying (desc Op.debugUnlock [(8, 1)]) up)).offers Op.debugUnlock (desc Op.debugUnlock [(8, 1)]) ∧
    dStep (desc Op.debugUnlock [(8, 1)]).body = 1 ∧
    (busy (flying (desc Op.logRead []) (oneRecord up))).offers Op.logRead (desc Op.logRead []) ∧
    (nextHeld (dFromSeq (desc Op.logRead []).body) (oneRecord up).log.recs).isSome = true ∧
    (busy (flying (desc Op.planLoad [(18, 6)]) up)).offers Op.planLoad (desc Op.planLoad [(18, 6)]) ∧ up.shadowLocked = false ∧
    dOffset (desc Op.planLoad [(18, 6)]).body + dLen (desc Op.planLoad [(18, 6)]).body = 393216 ∧
    dOffset (desc Op.planLoad [(20, 64)]).body ≠ 0 ∧ dOffset (desc Op.planLoad [(18, 6)]).body % 4 = 0 := by decide +kernel
theorem met_no_spent_log : ∀ d, (busy (flying d (oneRecord up))).noSpentLog := by intro d x h; cases h
/-- A transfer of ring 0 whose unit is on the link. -/
def moving (k : XferKind) : State := { busy up with hif := { (busy up).hif with xfers := [⟨0, k, 0, 8, 0, 0, true, false, false, []⟩] } }
theorem met_units : (moving (.planLoad 64 true)).findXfer (0, 0) = some ⟨0, .planLoad 64 true, 0, 8, 0, 0, true, false, false, []⟩ ∧
    (moving (.bytes [1])).findXfer (0, 0) = some ⟨0, .bytes [1], 0, 8, 0, 0, true, false, false, []⟩ ∧ (XferKind.bytes [1]).reads = false ∧
    (moving (.planLoad 64 true)).shadowLocked = false := by decide +kernel

theorem met_rings : up.flag (F.HIF_SQ_CFG_EN 0) = true ∧ up.flag (F.HIF_SQ_CFG_EN 7) = false ∧ bit 0x180 0 = false ∧ bit 0x181 0 = true ∧
    up.flag (F.HIF_CQ_CFG_EN (bits 0x181 7 3)) = false ∧ up.flag (F.HIF_CQ_CFG_EN (bits 1 7 3)) = true ∧
    up.flag (F.HIF_CQ_CFG_EN 0) = true ∧ up.cqOf 0 = 0 ∧ up.flag (F.HIF_CQ_CFG_EN 7) = false ∧
    bits 0x9 1 4 = 4 ∧ bits 0x19 1 4 = 12 ∧ bits 0x7 1 4 = 3 ∧ bits 0x1b 1 4 = 13 ∧
    (∃ d ∈ (flying (desc 0 []) up).hif.inflight, d.cq = 0) ∧
    (∃ c ∈ { up with hif := { up.hif with held := [cpl] } }.hif.held, c.cq = 0) := by decide +kernel
theorem met_held : { up with hif := { up.hif with held := [cpl] } }.hif.held.find? (fun c => up.cqReady c.cq) = some cpl ∧
    (regs [(F.HIF_CQ_STATUS_TAIL 0, 15), (F.HIF_CQ_HEAD_SEEN_HEAD 0, 5)] up).get (F.HIF_CQ_STATUS_TAIL 0) + 1 = 2 ^ up.get (F.HIF_CQ_CFG_SIZE 0) := by
  decide +kernel
/-- Ring 0 has collected a completion since Turn 0, and its limit is 5 Turns. -/
def coalescing (now : TurnNo) (mask : Nat) : State :=
  let s := regs [(F.HIF_CQ_CFG_COAL_TURNS 0, 5), (F.HIF_CQ_CFG_VEC 0, 63), (F.HIF_MSIX_CTRL_MASK 63, mask)] up
  { s with turn := now, hif := { s.hif with coal := (1, some 0) :: List.replicate 7 (0, none) } }
theorem met_coalescing : (coalescing 5 0).hif.coal.getD 0 (0, none) = (1, some 0) ∧
    (coalescing 5 0).get (F.HIF_CQ_CFG_COAL_TURNS 0) ≤ turnsSince (coalescing 5 0).turn 0 ∧
    turnsSince (coalescing 4 0).turn 0 < (coalescing 4 0).get (F.HIF_CQ_CFG_COAL_TURNS 0) ∧
    (coalescing 5 0).get (F.HIF_CQ_CFG_COAL_TURNS 0) ≠ 0 ∧ (coalescing 5 0).linkUp = true ∧ (coalescing 5 0).get (F.HIF_CQ_CFG_VEC 0) = 63 ∧
    (coalescing 5 0).flag (F.HIF_MSIX_CTRL_MASK 63) = false ∧ (coalescing 5 1).flag (F.HIF_MSIX_CTRL_MASK 63) = true := by decide +kernel
/-- Entry 1 maps one page, and the registers describe another. -/
def table (va pa : Nat) : State :=
  let s := regs [(F.HIF_HWT_VA_VA, va), (F.HIF_HWT_PA_LO_PA, pa), (F.HIF_HWT_PA_HI_V, 1), (F.HIF_HWT_PA_HI_SIZE, 1)] up
  { s with hif := { s.hif with hwt := [(1, ⟨32, 32, true, true, true, true⟩)] } }
theorem met_host_window_table : (regs [(F.HIF_HWT_CMD_BUSY, 1)] up).flag F.HIF_HWT_CMD_BUSY = true ∧
    { up with hif := { up.hif with draining := some 1023 } }.hif.draining = some 1023 ∧ (table 0 0).flag F.HIF_HWT_CMD_BUSY = false ∧
    (table 1 0).hwtRegs.misaligned = true ∧ (table 32 0).hwtRegs.misaligned = false ∧
    (∃ o ∈ (table 32 0).hif.hwt, o.1 ≠ 1023 ∧ (table 32 0).hwtRegs.overlaps o.2 = true) ∧
    (∀ o ∈ (table 64 0).hif.hwt, o.1 ≠ 1023 → (table 64 0).hwtRegs.overlaps o.2 = false) := by decide +kernel
theorem met_drained : ∀ u, up.hif.cur = some u → u.entry ≠ 3 := by intro u h; cases h
theorem met_draining : ∃ u, (busy up).hif.cur = some u ∧ u.entry = 3 := ⟨_, rfl, rfl⟩
theorem met_link : up.linkUp = true ∧ up.hif.perst = false ∧ up.pwr.off = false ∧ 4 ∈ [1, 2, 4] := by decide +kernel

/-! The recorder and the collector. -/

/-- An event of a code limited to one token, of which this many are spent, with the log frozen or not. -/
def arriving (spent frozen : Nat) : State :=
  let s := regs [(F.LOG_RATE_CAP 0x61, 1), (F.LOG_STATUS_FROZEN, frozen), (F.LOG_NEXT_SEQ_NEXT_SEQ, 0xFFFFFFFE), (F.LOG_IRQ_EN, 1),
    (F.LOG_IRQ_MIN_SEV, 2), (F.HIF_MSIX_CTRL_MASK 63, 0), (F.HIF_IRQ_MAP_EN0 1, 1), (F.HIF_IRQ_MAP_VEC0 1, 63)] up
  { s with evOut := [⟨0x61, 2, 3, []⟩], log := { s.log with spent := [(0x61, spent)] } }
theorem met_event_arrival : (arriving 0 0).evOut = ⟨0x61, 2, 3, []⟩ :: [] ∧ State.reset.pwr.starting = true ∧
    (arriving 0 0).pwr.starting = false ∧ (arriving 0 0).pwr.off = false ∧ (arriving 1 0).tokensOf 0x61 = 0 ∧ 0 < (arriving 0 0).tokensOf 0x61 ∧
    (exempt ⟨0x61, 2, 3, []⟩ || (arriving 0 0).get (F.LOG_RATE_CAP 0x61) == 0) = false ∧
    (arriving 0 1).frozen = true ∧ (arriving 0 1).log.queue.length < 64 ∧ (arriving 0 0).frozen = false ∧ (arriving 0 0).banksOk ≠ [] ∧
    (arriving 0 0).logHasRoom = true ∧ (arriving 0 0).get F.LOG_NEXT_SEQ_NEXT_SEQ ≠ 0xFFFFFFFF ∧
    (arriving 0 0).flag F.LOG_IRQ_EN = true ∧ (arriving 0 0).get F.LOG_IRQ_MIN_SEV ≤ 2 ∧ 1 < (arriving 0 0).get F.LOG_IRQ_MIN_SEV ∧
    (arriving 0 0).flag F.LOG_IRQ_FLAG = false ∧ (arriving 0 0).linkUp = true ∧ (arriving 0 0).get (F.HIF_IRQ_MAP_EN0 1) ≠ 0 ∧
    (arriving 0 0).get (F.HIF_IRQ_MAP_VEC0 1) = 63 ∧ (arriving 0 0).flag (F.HIF_MSIX_CTRL_MASK 63) = false ∧
    (regs [(F.HIF_MSIX_CTRL_MASK 63, 1)] (arriving 0 0)).flag (F.HIF_MSIX_CTRL_MASK 63) = true := by decide +kernel
theorem met_marks : { up with turn := 65536 }.turn.toNat % 65536 = 0 ∧ up.log.thawTurn ≠ some (65536 : TurnNo) ∧
    (3, 4) ∉ up.worked ∧ (3, 3) ∉ up.worked ∧ up.pwr.starting = false ∧ up.pwr.off = false ∧
    { up with turn := 65535 }.turn.toNat % 65536 ≠ 0 ∧ { up with turn := 1024 }.turn.toNat % 1024 = 0 ∧
    { up with turn := 1023 }.turn.toNat % 1024 ≠ 0 ∧ sparseGet 0 (arriving 1 0).log.spent 0x61 ≤ (arriving 1 0).get (F.LOG_RATE_CAP 0x61) := by
  decide +kernel
theorem met_record : (nextHeld (0 % 2 ^ 32) (oneRecord up).log.recs).isSome = true ∧ nextHeld (0 % 2 ^ 32) up.log.recs = none := by decide +kernel
theorem met_log_memory : up.bankRetired 31 = false ∧ up.frozen = false ∧ (arriving 0 1).frozen = true := by decide +kernel

/-- Source 46 has been raised; its window holds this count of events. -/
def faulting (count : Nat) : State :=
  let s := plan [(F.FLT_SRC_CLASS_N 46, 255), (F.FLT_SRC_CLASS_W 46, 500), (F.FLT_SRC_REACT_SEVERE 46, 31), (F.FLT_SRC_REACT_MINOR 46, 0)]
    (regs [(F.FLT_SRC_COUNT_OPEN 46, 1), (F.FLT_SRC_COUNT_WINDOW 46, count)] up)
  { s with flt := { s.flt with raised := [46] } }
/-- A source of the Gouge, whose block a reaction holds in reset. -/
def heldSource : State := { up with flt := { up.flt with raised := [10], held := [.gouge] } }
theorem met_fault_event : 46 ∈ (faulting 253).flt.raised ∧ 10 ∈ heldSource.flt.raised ∧ heldSource.srcHeld 10 = true ∧
    (faulting 253).srcHeld 46 = false ∧
    (faulting 253).windowOver 46 = false ∧ { faulting 253 with turn := 500 }.windowOver 46 = true ∧
    (faulting 253).act (F.FLT_SRC_CLASS_N 46) ≤ satAdd 255 ((faulting 254).get (F.FLT_SRC_COUNT_WINDOW 46)) 1 ∧
    ¬ (faulting 253).act (F.FLT_SRC_CLASS_N 46) ≤ satAdd 255 ((faulting 253).get (F.FLT_SRC_COUNT_WINDOW 46)) 1 ∧
    (faulting 253).fltStatus 46 = false ∧ (regs [(F.FLT_STATUS_HI_STATUS, 2 ^ 14)] (faulting 253)).fltStatus 46 = true := by decide +kernel
theorem met_reactions : bit ((faulting 254).act (F.FLT_SRC_REACT_SEVERE 46)) 4 = true ∧
    bit ((faulting 254).act (F.FLT_SRC_REACT_SEVERE 46)) 3 = true ∧
    (faulting 254).flt.chipReset = none ∧ (faulting 254).recentResets.length < 3 ∧ (faulting 254).fltPinAny = false ∧
    { faulting 254 with flt := { (faulting 254).flt with resets := [0, 0, 0] } }.recentResets.length = 3 ∧
    bit 4 2 = true ∧ bit 4 3 = false ∧ srcBlock 10 = some .gouge := by decide +kernel
theorem met_window : { faulting 0 with turn := 500 }.windowOver 46 = true ∧ { faulting 0 with turn := 499 }.windowOver 46 = false := by decide +kernel
theorem met_status_clear : (regs [(F.FLT_LIVE_HI_LIVE, 2 ^ 14)] up).isLive 46 = true ∧ up.isLive 46 = false ∧ up.isLive 0 = false ∧
    up.srcHeld 46 = false ∧ heldSource.srcHeld 10 = true := by decide +kernel
theorem met_alive : { up with turn := 16 }.turn.toNat % 16 = 0 ∧ up.fltPinAny = false ∧ up.pwr.starting = false ∧ up.pwr.off = false ∧
    up.pwr.clkLost = false ∧ (3, 2) ∉ up.worked ∧ { up with turn := 15 }.turn.toNat % 16 ≠ 0 := by decide +kernel
/-- An injection is armed into this checker. -/
def armed (k : Nat) : State := regs [(F.FLT_INJECT_ARMED, 1), (F.FLT_INJECT_CHECKER, k)] up
theorem met_injection : (up.armState && !up.flag F.FLT_INJECT_ARMED && decide (5 < 6) && up.injectIndexOk 5 0) = true ∧
    (up.armState && !up.flag F.FLT_INJECT_ARMED && decide (6 < 6) && up.injectIndexOk 6 0) = false ∧ up.flag F.FLT_INJECT_ARMED = false ∧
    (armed 0).flag F.FLT_INJECT_ARMED = true ∧ (armed 0).get F.FLT_INJECT_CHECKER ∈ [0, 3, 4] ∧ (armed 4).get F.FLT_INJECT_CHECKER = 4 ∧
    (armed 4).flag F.FLT_INJECT_BITS = false ∧ (armed 4).bankRetired 31 = false := by decide +kernel

/-! The Chuck: records signed with the private key 1 over P-256, whose public key is the base point. -/

/-- `n` bytes of zeros but for the numbers listed, each at its offset and of its size. -/
def fields (n : Nat) (l : List (Nat × Nat × Nat)) : List Byte :=
  l.foldl (fun b e => b.take e.1 ++ leBytes e.2.2 e.2.1 ++ b.drop (e.1 + e.2.1)) (List.replicate n 0)
def publicKey : List Byte := leBytes 4184060411307550467377986582390148259921008763507122109671278965834448380445991407126911988662496871210381482036860075396881441336262555845359699213468310 64
def keyHash : List Byte := leBytes 68311739115057719499824643541626932163189052233866935320126486871662677546409 32
/-- A consent for DL, version 1, every serial number 0 to 0, 350 MHz to 7.125 GHz. -/
def consent : List Byte :=
  fields 128 [(0, 4, 0x54435747), (4, 1, 1), (5, 1, 1), (7, 1, 1), (12, 2, 1), (14, 1, 1), (40, 4, 350000), (44, 4, 7125000)] ++ publicKey ++
    leBytes 11002178887352939894796559301153035919245119032335283892278638404898604135525571359471214458901336206310918116334195310705627412188598613352138611738854038 64
/-- A withdrawal at version 1. -/
def withdrawal : List Byte :=
  fields 128 [(0, 4, 0x54435747), (4, 1, 1), (5, 1, 2), (12, 2, 1)] ++ publicKey ++
    leBytes 5142319235252042874756821045917376779521532215449064587130731587902418677561102265028377371153548827504935037539925963695049732217644312960182943240209046 64
/-- INSTALL of operator key slot 0. -/
def install : List Byte :=
  fields 128 [(0, 4, 0x52505747), (4, 1, 1), (5, 1, 1)] ++ publicKey ++
    leBytes 837033507157933674174109012256328751166492450777485738423460870256618225950595447104073970153694084424296689212146596120371461082812255894225650892456598 64
/-- A response to a challenge of nonce 0: HALT for one unit. -/
def response : List Byte :=
  fields 64 [(0, 4, 0x52445747), (4, 1, 1), (6, 2, 1), (48, 2, 1)] ++ publicKey ++
    leBytes 8013998239522129072901662663232972929549124698587858113716555129123053294150998801689616545940129817061205202134031507684611828916979598751454252397806230 64
/-- The self-test has passed, these provisioning rows are committed, and this operation is the oldest. -/
def chuck (rows : List OtpRow) (ops : List SecOp) : State :=
  let s := regs [(F.SEC_STATUS_SELF_TEST, 1)] up
  { s with sec := { s.sec with ops := ops, otp := { s.sec.otp with rows := rows, rootHash := keyHash } } }
/-- With operator key slot 0 installed, and with the service key slot too, in FIELD. -/
def operator : List OtpRow := [⟨true, 1, 0, keyHash⟩]
def field : List OtpRow := [⟨true, 1, 0, keyHash⟩, ⟨true, 2, 8, keyHash⟩, ⟨true, 4, 0, []⟩]

theorem met_token_rejected : (chuck [] [.token consent none none]).sec.ops = .token consent none none :: [] ∧
    (chuck [] [.token consent none none]).sec.burning = none ∧ (chuck [] [.token consent none none]).tokenReason consent = 2 := by decide +kernel
theorem met_token_stored : (chuck operator []).tokenReason consent = 0 ∧ byteAt consent 5 ≠ 2 ∧
    (∀ u ∈ (chuck operator []).sec.tokens, u.digest ≠ tokenDigest consent) := by decide +kernel
theorem met_withdrawal_starts : (chuck operator []).tokenReason withdrawal = 0 ∧ byteAt withdrawal 5 = 2 := by decide +kernel
/-- The withdrawal burns towards this version. -/
def burning (v : Nat) : State :=
  let s := chuck operator [.token withdrawal none none]
  { s with sec := { s.sec with burning := some v } }
theorem met_withdrawal_burns : (burning 1).sec.ops = .token withdrawal none none :: [] ∧ (burning 2).sec.burning = some 2 ∧
    min 1024 ((burning 2).sec.otp.counter + 1) < 2 ∧ 1 ≤ min 1024 ((burning 1).sec.otp.counter + 1) := by decide +kernel
/-- One token of store index 63. -/
def held : Token := ⟨63, [7], 0, true, false, 0, 1, 0, 0, 0, 0, 0, [], 0⟩
def holding (listed : List (List Byte)) : State := { up with active := { up.active with consent := listed }, sec := { up.sec with tokens := [held] } }
theorem met_token_release : (holding []).sec.tokens.find? (fun t => t.index == 63) = some held ∧
    ((holding [[7]]).active.consent.contains held.digest || (holding [[7]]).shadow.consent.contains held.digest) = true ∧
    ((holding []).active.consent.contains held.digest || (holding []).shadow.consent.contains held.digest) = false := by decide +kernel
theorem met_provisioning : up.provBusy = false ∧ (chuck [] [.prov install]).provBusy = true ∧
    (chuck [] [.prov install]).sec.ops = .prov install :: [] ∧ (chuck [] [.prov install]).sec.committing = false ∧
    (chuck operator [.prov install]).provReason install ≠ 0 ∧
    (let s := chuck [] [.prov install]; { s with sec := { s.sec with committing := true } }.sec.committing = true) ∧
    byteAt (bytes64 [(5, 3)]) 5 = 3 ∧ byteAt (bytes64 [(5, 5)]) 5 = 5 := by decide +kernel
theorem met_provisioning_accepted : (chuck [] [.prov install]).provReason install = 0 := by decide +kernel
theorem met_unlock : (flying (desc Op.debugUnlock []) up).offers Op.debugUnlock (desc Op.debugUnlock []) ∧ up.takesCpl 0 ∧
    dStep (desc Op.debugUnlock []).body = 0 ∧ dStep (desc Op.debugUnlock [(8, 2)]).body = 2 ∧ up.challengeReason ≠ 0 ∧
    (chuck field []).challengeReason = 0 ∧ (busy up).hif.cur.isSome = true ∧ up.sec.session = none := by decide +kernel
/-- A challenge of this Turn is open. -/
def challenged (t : TurnNo) : State :=
  let s := chuck field [.respond response none]
  { s with sec := { s.sec with challenge := some ⟨0, t⟩ } }
theorem met_response : (challenged 0).sec.ops = .respond response none :: [] ∧ (challenged 0).respondReason (bytes64 []) ≠ 0 ∧
    3 ≤ (regs [(F.SEC_DEBUG_AUTH_FAILS, 3)] (challenged 0)).get F.SEC_DEBUG_AUTH_FAILS := by decide +kernel
theorem met_response_accepted : (challenged 0).respondReason response = 0 := by decide +kernel
theorem met_expiry : { challenged 0 with turn := 16777216 }.sec.challenge = some ⟨0, 0⟩ ∧
    16777216 ≤ turnsSince { challenged 0 with turn := 16777216 }.turn 0 ∧ turnsSince { challenged 0 with turn := 16777215 }.turn 0 < 16777216 ∧
    { up.sec with session := some (1, 0, 1) }.session = some (1, 0, 1) ∧ 65536 * 1 ≤ turnsSince (65536 : TurnNo) 0 ∧
    turnsSince (65535 : TurnNo) 0 < 65536 * 1 ∧ up.jtagAllowed .bypass = true ∧ up.jtagAllowed .extest = false := by decide +kernel
theorem met_tamper : ((true && (regs [(F.SEC_CFG_MESH_EN, 1)] up).flag F.SEC_CFG_MESH_EN) || false || false) = true ∧
    ((true && (regs [(F.SEC_CFG_MESH_EN, 0)] up).flag F.SEC_CFG_MESH_EN) || false || false) = false := by decide +kernel
theorem met_self_test : (∀ n, some 4 = some n → n < 5) ∧ up.pwr.starting = false ∧ State.reset.pwr.starting = true :=
  ⟨fun _ h => by cases h; decide, by decide +kernel, by decide +kernel⟩

/-! The descriptors that are staged, the converters and the fabric. -/

/-- A calibration that runs. -/
def calibrating (s : State) : State := { s with cva := { s.cva with cal := some ⟨15, 0, 0, 0, none, 0, none⟩ } }
theorem met_calibrations_and_gains :
    (flying (desc Op.calRun []) up).offers Op.calRun (desc Op.calRun []) ∧ up.running = true ∧ State.reset.running = false ∧ up.takesCpl 0 ∧
    (flying (desc Op.calRun []) (inState 1 up)).offers Op.calRun (desc Op.calRun []) ∧ (inState 1 up).running = false ∧
    (calibrating up).cva.cal.isSome = true ∧ (flying (desc Op.slotGain []) up).offers Op.slotGain (desc Op.slotGain []) ∧
    up.slotOn 0 = false ∧ (plan [(F.CHZ_SLOT_CFG_EN 0, 1)] up).slotOn 0 = true ∧ up.actB (F.CTL_LVL_CFG_LVL_EN 0) = false ∧
    (plan [(F.CTL_LVL_CFG_LVL_EN 0, 1)] up).actB (F.CTL_LVL_CFG_LVL_EN 0) = true ∧ dSlot (desc Op.slotGain []).body = 0 := by decide +kernel
/-- A STATE_REQUEST for a state. -/
def asks (n : Nat) : Desc := desc Op.stateRequest [(8, n)]
theorem met_state_request :
    (flying (asks 4) (linked (inState 1 State.reset))).offers Op.stateRequest (asks 4) ∧ dState (asks 4).body = 4 ∧
    (flying (asks 2) (inState 0 up)).offers Op.stateRequest (asks 2) ∧ (inState 0 up).pstate = 0 ∧ up.autoStart = false ∧ up.pwr.req = none ∧
    (flying (asks 2) up).offers Op.stateRequest (asks 2) ∧ up.pstate = 2 ∧ up.pwr.leaving = false ∧ up.pwr.off = false ∧
    (flying (asks 3) up).offers Op.stateRequest (asks 3) ∧ dState (asks 3).body ≠ up.pstate ∧ up.cva.cal = none ∧
    (inState 1 up).mayLeave = true ∧ (regs [(F.FLT_LIVE_HI_LIVE, 1024)] (inState 1 up)).mayLeave = false := by decide +kernel
/-- A CAPTURE of a point, 2 records into 16 MiB. -/
def captures (point : Nat) : Desc := desc Op.capture [(18, 1), (20, point % 256), (21, point / 256), (32, 2)]
/-- Engine 0 has the first descriptor of ring 0, its route in force from time 0 on; it captures slot 0 after the channel filter. -/
def engine (kind : Nat) (at_ : TurnNo) (want : Nat) (trig : Option (TurnNo × Nat)) : Capture :=
  { engine := 0, sq := 0, order := 0, addr := 0, point := 0x1000, kind := kind, trigTurn := at_, want := want, pre := 0, timeout := 10, armed := 4,
    from_ := some 0, trig := trig, recs := [], before := 0, part := [], upto := 0, ended := false, truncated := false, late := false }
def engaged (c : Capture) (s : State) : State := { s with hif := { s.hif with captures := [c] } }
theorem met_capture : (flying (captures 0) up).offers Op.capture (captures 0) ∧ dPoint (captures 0x1000).body = 0x1000 ∧
    dPoint (captures 0).body / 4096 = 0 ∧ bits 0 0 8 < nAdcOf up.variant ∧ up.rawOk = true ∧
    ({ up with sec := { up.sec with otp := { up.sec.otp with rows := field } } }.rawOk = false) ∧
    dLen (captures 0).body = 65536 ∧ dRecords (captures 0).body = 2 ∧ dLen (desc Op.capture []).body < 64 ∧
    (engaged (engine 0 0 1 none) up).hif.captures ≠ [] ∧ (busy up).hif.captures = [] ∧ (busy up).hif.cur = some ⟨0, 0, 8, 0, 3, [], false⟩ :=
      by decide +kernel

/-- Synthesiser `w` in a state, this many attempts made. -/
def synthIn (w st n : Nat) (s : State) : State := regs [(synthField w, st), (F.CVA_SYNTH_STATUS_ATTEMPT w, n)] s
theorem met_synthesisers : (synthIn 1 1 0 up).synth 1 = 1 ∧ up.dieDown 1 = false ∧ up.pwr.clkLost = false ∧ up.pwr.leaving = false ∧
    (synthIn 0 2 0 (synthIn 1 1 0 (inState 1 { up with pwr := { up.pwr with leaving := true } }))).synth (1 - 1) = 2 ∧
    (synthIn 1 2 0 up).synth 1 = 2 ∧ up.synth 1 ≠ 1 ∧ (regs [(F.PWR_SUPPLY_RAIL_UV, 4)] up).dieDown 1 = true := by decide +kernel
theorem met_lock_timeout : { synthIn 1 1 2 up with turn := 75 }.synth 1 = 1 ∧ (synthIn 1 1 2 up).get (F.CVA_SYNTH_STATUS_ATTEMPT 1) = 2 ∧
    (synthIn 1 1 1 up).get (F.CVA_SYNTH_STATUS_ATTEMPT 1) < 2 ∧ turnsSince (74 : TurnNo) (up.synthX 1).lockedAt < 75 ∧
    ¬ turnsSince { up with turn := 75 }.turn (up.synthX 1).lockedAt < 75 ∧ (up.synthX 1).lost = false ∧
    { up.pwr with leaving := true }.leaving = true := by decide +kernel
theorem met_calibration_end : up.cva.cal = none ∧ (calibrating up).cva.cal = some ⟨15, 0, 0, 0, none, 0, none⟩ ∧
    (⟨15, 0, 0, 0, none, 0, none⟩ : Cal).ended = none ∧ (calibrating up).calFails ⟨[(19, 2)], [], []⟩ ⟨15, 0, 0, 0, none, 0, none⟩ = true ∧
    failKind ⟨[(19, 2)], [], []⟩ ⟨15, 0, 0, 0, none, 0, none⟩ .gw6432 19 = some 2 ∧
    (⟨2, 1, 0, 0, none, 0, none⟩ : Cal).hasAdc .gw6432 19 = false := by decide +kernel
/-- ADC 19 in service, tracked in Turn 0. -/
def tracked (now : TurnNo) : State :=
  let s := synthIn 0 2 0 (synthIn 1 2 0 (plan [(F.CVA_ADC_CFG_EN 19, 1)] (regs [(F.CVA_CAL_CTRL_TRACK_EN, 1)] up)))
  { s with turn := now, cva := { s.cva with tracked := [(19, 0)], zeros := [], badAt := [] } }
theorem met_tracking : (tracked 256).adcInService 19 = true ∧ (tracked 256).flag F.CVA_CAL_CTRL_TRACK_EN = true ∧
    (tracked 256).cva.tracked.find? (fun e => e.1 == 19) = some (19, 0) ∧ ¬ turnsSince (tracked 256).turn 0 < 256 ∧
    turnsSince (tracked 255).turn 0 < 256 ∧ (tracked 256).cva.tracked.find? (fun e => e.1 == 18) = none ∧
    (regs [(F.CVA_CAL_CTRL_TRACK_EN, 0)] up).flag F.CVA_CAL_CTRL_TRACK_EN = false ∧ up.adcInService 0 = false ∧
    (tracked 256).adcDirty 19 (tracked 256).now = false ∧
    { tracked 256 with cva := { (tracked 256).cva with badAt := [(0, 0)] } }.adcDirty 19 0 = true := by decide +kernel

theorem met_slips : 3 ∉ up.fab.slipped ∧ 3 ∈ { up.fab with slipped := [3] }.slipped ∧ slotIn up.variant 127 = true ∧ slotIn up.variant 128 = false ∧
    slotIn up.variant 64 = true ∧ 64 ∉ up.fab.mergeNow ∧ 64 ∈ { up.fab with mergeNow := [64] }.mergeNow ∧
    stampsEqual [sideband 5 7 false false, sideband 5 7 true true] = true ∧ stampsEqual [sideband 5 7 false false, sideband 5 8 false false] = false ∧
    wellFormed .gw6432 (.mergeMismatch 0 ⟨64, [0, 1]⟩) = true ∧ (4 : Int).natAbs ≤ 4 ∧ 4 < (-5 : Int).natAbs := by decide +kernel
/-- Slot 0 is enabled, with 32 taps. -/
def lane : State := plan [(F.CHZ_SLOT_CFG_EN 0, 1), (F.GOUGE_SLOT_ALLOC_TAPS 0, 1)] up
theorem met_fabric_errors : slotIn lane.variant 0 = true ∧ lane.slotOn 0 = true ∧ lane.tileRetired 135 = false ∧
    (regs [(F.FAB_TILE_RETIRED_RETIRED 4, 128)] up).tileRetired 135 = true ∧ lane.slotOfTile 0 = some 0 ∧ lane.coefTile 0 = some 0 ∧
    fabErrOk .gw6432 (.lane 19) = true ∧ fabErrOk .gw6432 (.tile 135) = true ∧ fabErrOk .gw6432 (.sideband 19 1) = true ∧
    sideGood (sideband 5 7 true true) = true ∧ sideGood (sideband 5 6 true true + 1) = false ∧ 0 ∈ lane.slotsFrom (lane.srcAdc 0) := by decide +kernel
theorem met_no_migration : ∀ m ∈ lane.fab.migs, m.slot ≠ 0 := by intro m h; cases h
/-- The tile of slot 0 failed in Turn 0. -/
def migrating (spare : Option Nat) (now : TurnNo) : State :=
    { lane with turn := now, fab := { lane.fab with migs := [⟨0, 0, 0, spare, false, false⟩] } }
theorem met_migration : (migrating none 1).fab.migs = [⟨0, 0, 0, none, false, false⟩] ∧ turnsSince (migrating none 1).turn 0 ≠ 0 ∧
    (migrating none 1).freeTiles = 128 :: [129, 130, 131, 132, 133, 134, 135] ∧ turnsSince (migrating (some 128) 4).turn 0 < 5 ∧
    6 ≤ turnsSince (migrating (some 128) 6).turn 0 ∧ (migrating none 1).coefTile 0 = none := by decide +kernel
/-- Slot 0 fills since Turn 0. -/
def filling (now : TurnNo) : State := { lane with turn := now, fab := { lane.fab with fill := [(0, 0)] } }
theorem met_fill : (filling 33).fab.fill.find? (fun e => e.1 == 0) = some (0, 0) ∧
    (filling 33).fillFc 0 = 102400 ∧
    102400 ≤ 3072 * turnsSince (filling 33).turn 0 + 1024 ∧ 3072 * turnsSince (filling 33).turn 0 + 1023 < 102400 := by decide +kernel
theorem met_capture_trigger : (engaged (engine 0 0 1 none) up).findCapture 0 = some (engine 0 0 1 none) ∧
    (engine 0 0 1 none).from_ = some (3072 * up.ticks) ∧ laterThan (engine 1 4 1 none).trigTurn (engine 1 4 1 none).armed = false ∧
    laterThan (engine 1 5 1 none).trigTurn (engine 1 5 1 none).armed = true ∧ { up with turn := 5 }.turn = (engine 1 5 1 none).trigTurn ∧
    3072 % 3072 = 0 ∧ 1 % 3072 ≠ 0 ∧ (engine 1 5 1 (some (5, 0))).trig.isSome = true := by decide +kernel
theorem met_capture_end : (engine 0 0 1 (some (5, 0))).ended = false ∧ (engaged (engine 0 0 1 (some (5, 0))) (busy up)).hif.cur.isSome = true ∧
    (up.recordTo ⟨[], [], []⟩ 1 (engine 0 0 1 (some (5, 0)))).recs.length < 1 ∧
      0 ≤ (up.recordTo ⟨[], [], []⟩ 1 (engine 0 0 0 (some (5, 0)))).recs.length ∧
    (engine 0 0 1 none).full = false ∧
    (engaged (engine 0 0 1 (some (5, 0))) up).undrained (engine 0 0 1 (some (5, 0))) ≤ shareBlocks := by decide +kernel
/-- A transfer of the first descriptor of ring 0 that has taken nothing. -/
def draining : State := { up with hif := { up.hif with xfers := [⟨0, .capture 0, 0, 64, 0, 0, false, false, false, []⟩] } }
theorem met_share_overrun (r : CapRec) :
    shareBlocks < draining.undrained { engine 0 0 9000 (some (5, 0)) with recs := List.replicate 8193 r } := by
  have h : draining.findXfer (0, 0) = some ⟨0, .capture 0, 0, 64, 0, 0, false, false, false, []⟩ := by decide +kernel
  simp only [State.undrained, engine, h, shareBlocks, List.length_replicate, Nat.zero_div]
  decide
theorem met_timeout : turnsSince (13 : TurnNo) (engine 0 0 1 none).armed < (engine 0 0 1 none).timeout ∧
    (engine 0 0 1 none).timeout ≤ turnsSince (14 : TurnNo) (engine 0 0 1 none).armed ∧
    (engaged (engine 0 0 1 none) (flying (captures 0x1000) up)).findDesc (0, 0) = some (captures 0x1000) ∧
    (engaged (engine 0 0 1 none) (flying (captures 0x1000) up)).takesCpl 0 := by decide +kernel

/-! The Gouge and the Guard. -/

/-- The lane of slot 0 in a phase, with so many valid Turns behind it and its step frozen or not. -/
def phased (p n : Nat) (frozen : Bool) : State :=
  let s := plan [(F.GOUGE_SLOT_PROBE_PROBE_TURNS 0, 64), (F.GOUGE_CFG_PROBE_MIN, 10),
      (F.GOUGE_CFG_CKPT_TURNS, 1)] (regs [(F.GOUGE_SLOT_STATUS_PHASE 0, p)] lane)
  { s with gouge := { s.gouge with slots := [(0, { ggNone with validTurns := n, frozen := frozen, taps := [(1, -1)] })] } }
/-- A clean sample, at full scale after the gain, while the group transmits. -/
def clean : Samp := ⟨(100, 0), (3, 4), (50, -50), (-524288, 0), false, false, true, false, false, false, true, false, false, false⟩
/-- Slot 0 has had 40 clean samples, of which 8 are of the last Turn. -/
def heard (s : State) : State := { s with fab := { s.fab with paths := [(0, ⟨List.replicate 40 clean, 8, false, false, false⟩)] } }
/-- The taps of slot 0 in this phase. -/
def adapting (p : Nat) (frozen : Bool) : State :=
  let s := heard (phased p 0 frozen)
  { s with gouge := { s.gouge with slots := [(0, { ggNone with frozen := frozen, taps := List.replicate 32 (1, -1) })] } }
theorem met_adaptation : (adapting 2 false).running = true ∧ (adapting 2 false).blockHeld .gouge = false ∧ (adapting 2 false).hasLane 0 = true ∧
    (adapting 2 false).laneMoving 0 = false ∧ (adapting 2 false).spareless 0 = false ∧ (adapting 2 false).phase 0 = 2 ∧
    ((adapting 2 false).gg 0).frozen = false ∧ (adapting 2 false).gouge.hostFreeze.contains 0 = false ∧ ((adapting 2 true).gg 0).frozen = true ∧
    (adapting 3 false).phase 0 = 3 ∧ ((adapting 2 false).gg 0).taps.length = (adapting 2 false).nTaps 0 ∧
    (adapting 2 false).validSamples 0 ≠ [] ∧ (adapting 3 false).validSamples 0 ≠ [] ∧ (inState 1 up).running = false ∧
    2047 % 3072 = 2047 ∧ 2047 < 2048 % 3072 ∧ bit (adapting 2 false).overran 1 = false ∧ (adapting 2 false).worked.contains (1, 0) = false ∧
    { adapting 2 false with worked := [(1, 0)] }.worked.contains (1, 0) = true := by decide +kernel
theorem met_lane_phases : (phased 1 64 false).phase 0 = 1 ∧ 64 ≤ ((phased 1 64 false).gg 0).validTurns ∧ ((phased 1 63 false).gg 0).validTurns < 64 ∧
    (phased 2 64 false).act (F.GOUGE_SLOT_PROBE_PROBE_TURNS 0) ≤ ((phased 2 64 false).gg 0).validTurns ∧
    ¬ (phased 2 63 false).act (F.GOUGE_SLOT_PROBE_PROBE_TURNS 0) ≤ ((phased 2 63 false).gg 0).validTurns ∧
    10 * (phased 2 64 false).act F.GOUGE_CFG_PROBE_MIN ≤ (regs [(F.GOUGE_SLOT_ESTIMATE_C_EST 0,
        100)] (phased 2 64 false)).get (F.GOUGE_SLOT_ESTIMATE_C_EST 0) ∧
    ¬ 10 * (phased 2 64 false).act F.GOUGE_CFG_PROBE_MIN ≤ (regs [(F.GOUGE_SLOT_ESTIMATE_C_EST 0,
        99)] (phased 2 64 false)).get (F.GOUGE_SLOT_ESTIMATE_C_EST 0) ∧
    (phased 2 64 false).get (F.GOUGE_SLOT_STATUS_PROBE_FAILS 0) < 2 ∧
    2 ≤ (regs [(F.GOUGE_SLOT_STATUS_PROBE_FAILS 0, 2)] up).get (F.GOUGE_SLOT_STATUS_PROBE_FAILS 0) := by decide +kernel
theorem met_checkpoint : (phased 3 64 false).ckptTurns ≤ ((phased 3 64 false).gg 0).validTurns - ((phased 3 64 false).gg 0).ckptDue ∧
    ¬ (phased 3 63 false).ckptTurns ≤ ((phased 3 63 false).gg 0).validTurns - ((phased 3 63 false).gg 0).ckptDue ∧ (phased 3 64 false).phase 0 = 3 ∧
    (phased 3 64 false).gouge.copyAt = none ∧ (phased 3 64 false).gouge.snap = none ∧ ((phased 3 64 false).gg 0).indicator = false ∧
    (phased 3 64 false).flag (F.GOUGE_SLOT_CKPT_CKPT_VALID 0) = false ∧
    (regs [(F.GOUGE_SLOT_CKPT_CKPT_VALID 0, 1), (F.GOUGE_SLOT_CKPT_CKPT_C 0, 31)] (phased 3 64 false)).get (F.GOUGE_SLOT_ESTIMATE_C_EST 0) + 30 <
      (regs [(F.GOUGE_SLOT_CKPT_CKPT_VALID 0, 1), (F.GOUGE_SLOT_CKPT_CKPT_C 0, 31)] (phased 3 64 false)).get (F.GOUGE_SLOT_CKPT_CKPT_C 0) :=
        by decide +kernel
theorem met_host_controls : slotIn .gw6416 127 = false ∧ slotIn lane.variant 0 = true ∧ lane.hasLane 0 = true ∧ lane.laneMoving 0 = false ∧
    up.hasLane 0 = false := by decide +kernel
/-- A snapshot of slot 0 accepted in Turn 4. -/
def snapshot (now : TurnNo) : State :=
  let s := busy (flying (desc Op.snapshot [(16, 69), (24, 1)]) (phased 3 0 false))
  { s with turn := now, gouge := { s.gouge with snap := some ((0, 0), [0], 0, 4) } }
theorem met_snapshot : (flying (desc Op.snapshot []) up).offers Op.snapshot (desc Op.snapshot []) ∧ up.snapBusy = false ∧
    (snapshot 4).snapBusy = true ∧
    up.snapLen [] = 32 ∧ dLen (desc Op.snapshot []).body < 32 ∧ 32 ≤ dLen (desc Op.snapshot [(16, 32)]).body ∧
    (snapshot 5).gouge.snap = some ((0, 0), [0], 0, 4) ∧ laterThan (snapshot 5).turn 4 = true ∧ laterThan (snapshot 4).turn 4 = false ∧
    (snapshot 5).findDesc (0, 0) = some (desc Op.snapshot [(16, 69), (24, 1)]) ∧
    (snapshot 5).snapLen [0] ≤ dLen (desc Op.snapshot [(16, 69), (24, 1)]).body ∧ (snapshot 5).hif.cur = some ⟨0, 0, 8, 0, 3, [], false⟩ :=
      by decide +kernel
/-- The lane of slot 0 failed in Turn 0. -/
def laneMoves (spare : Option Nat) (now : TurnNo) : State :=
    { lane with turn := now, gouge := { lane.gouge with migs := [⟨0, 0, spare, false, false, false⟩] } }
theorem met_gouge_errors : lane.laneRetired 135 = false ∧ (regs [(F.GOUGE_LANE_RETIRED_RETIRED 4, 128)] up).laneRetired 135 = true ∧
    (slotsOf lane.variant).find? (fun sl => lane.laneOf sl == 0) = some 0 ∧ lane.gouge.migs = [] ∧ lane.slotOn 0 = true ∧
    (slotsOf lane.variant).find? (fun sl => lane.laneOf sl == 0 && lane.hasLane sl) = some 0 ∧ lane.gouge.ecc.any (fun e => e.1 == 0) = false ∧
      (laneMoves none 1).gouge.migs = [⟨0, 0, none, false, false, false⟩] ∧
    (laneMoves none 1).freeLanes = 128 :: [129, 130, 131, 132, 133, 134, 135] ∧ turnsSince (laneMoves (some 128) 3).turn 0 < 4 ∧
    4 ≤ turnsSince (laneMoves (some 128) 4).turn 0 ∧ turnsSince (laneMoves none 1).turn 0 ≠ 0 := by decide +kernel

/-- A level of the last Turn 30 dB above what it was, and a correlation that holds. -/
def howling : State :=
  let s := plan [(F.GRD_SLOT_THR_OSC_RISE 0, 1), (F.GRD_SLOT_THR_OSC_MAC 0, 1), (F.GRD_SLOT_THR_OSC_PEAK 0, 1)] (heard lane)
  { s with grd := { s.grd with slots := [(0, { gdNone with ref := [-30000, -30000] })] } }
theorem met_evaluation : lane.running = true ∧ lane.railDown 0 = false ∧ lane.slotOn 0 = true ∧ (lane.gd 0).oscMute = false ∧
    (inState 1 up).running = false ∧ (regs [(F.PWR_SUPPLY_RAIL_UV, 1)] up).railDown 0 = true ∧ bit lane.overran 0 = false ∧
    lane.worked.contains (0, 0) = false ∧ 767 % 3072 = 767 ∧ 767 < 768 % 3072 ∧ (lane.gatedIn 0).isEmpty = true ∧
    ((heard lane).gatedIn 0).isEmpty = false := by decide +kernel
theorem met_oscillation : howling.oscillates 0 ((howling.gatedIn 0).filter Samp.speaks) = true := by decide +kernel
/-- Emission channel 0 watches combiner 0, which slot 0 feeds. -/
def watched : State :=
  heard (plan [(F.CHZ_SLOT_COMB_COMB_MASK 0, 1), (F.GRD_EM_CFG_EN 0, 1), (F.FAB_ROUTE_ZERO 180, 0), (F.FAB_ROUTE_ZERO 196, 1)] lane)
theorem met_emission : emPorts .gw6432 0 = (180, 196, 220) ∧ watched.actB (F.GRD_EM_CFG_EN 0) = true ∧
    (watched.combSlots (watched.act (F.GRD_EM_CFG_COMB 0))).filter (fun sl => (watched.lastSamples sl).any Samp.speaks) = [0] ∧
    watched.worked.contains (0, 256) = false ∧ watched.actB (F.FAB_ROUTE_ZERO 180) = false ∧ watched.actB (F.FAB_ROUTE_ZERO 196) = true :=
        by decide +kernel
/-- Slot 0 has a mute staged; it is muted until Turn 8. -/
def staging : State := { lane with grd := { lane.grd with slots := [(0, { gdNone with stageMute := some true })] } }
def mutedTo (now : TurnNo) : State := { lane with turn := now, grd := { lane.grd with slots := [(0, { gdNone with muteEnd := some 8 })] } }
theorem met_mutes : (3, 1) ∉ staging.worked ∧ (3, 1) ∈ { staging with worked := [(3, 1)] }.worked ∧ (staging.gd 0).stageMute.isSome = true ∧ staging.slotOn 0 = true ∧ ((mutedTo 8).gd 0).muteEnd = some 8 ∧
    (mutedTo 8).grd.dirEnd = [] ∧ (mutedTo 8).grd.allEnd = none ∧ (mutedTo 8).latchOn = false ∧ (mutedTo 8).grd.cleared = false ∧
    (mutedTo 8).reached 8 = true ∧ (mutedTo 7).reached 8 = false := by decide +kernel
theorem met_latch : (regs [(F.GRD_STATUS_LATCHED, 1)] up).latchOn = true ∧ up.latchOn = false := by decide +kernel

/-! The Radio Sequencer. -/

/-- RELAY. -/
def relay : State := inState 3 up
/-- Group 7 is a TDD group with frames of 3,072 fc from time 0, an entry of DL in the first half; in state `st` since time 0. -/
def group (st : Nat) (x : SeqGroup) : State :=
  let s := plan [(F.SEQ_DG_CFG_EN 7, 1), (F.SEQ_DG_CFG_MODE 7, 1), (F.SEQ_DG_CFG_ENTRIES 7, 1), (F.SEQ_DG_PERIOD_PERIOD 7, 3072),
    (F.SEQ_DG_PAT_START_START 7 0, 0), (F.SEQ_DG_PAT_LEN_LENGTH 7 0, 1536), (F.SEQ_DG_LIMITS_TX_MAX_TURNS 7, 2), (F.SEQ_DG_LIMITS_TX_HOLD_LIMIT 7, 4),
    (F.SEQ_DG_LOSS_LOSS_FRAMES 7, 8), (F.SEQ_DG_SYNC_SYNC_TOL 7, 16), (F.SEQ_DG_CFG_SYNC_SRC 7, 1)]
    (regs [(F.SEQ_DG_STATUS_STATE 7, st), (F.SEQ_DG_STATUS_HOLD_TURNS 7, 4)] relay)
  { s with seq := { s.seq with groups := [(7, x)] } }
def frames : SeqGroup := { sgNone with running := true }
theorem met_pattern : (group 0 frames).running = true ∧ (group 0 frames).groupOn 7 = true ∧ (group 0 frames).isTdd 7 = true ∧
    (group 0 frames).blockHeld .sequencer = false ∧ { group 0 frames with fc := 1536 }.isEdge 7 1536 = true ∧
    { group 0 frames with fc := 1535 }.isEdge 7 1535 = false := by decide +kernel
/-- Pin 31 follows group 7; it rises at time 5. -/
def pin (s : State) : State :=
  let s := plan [(F.SEQ_FE_CFG_EN 31, 1), (F.SEQ_FE_CFG_FUNC 31, 1)] s
  { s with seq := { s.seq with edges := [(31, true, 5)] } }
theorem met_pin_edge : (pin relay).pinsForced = false ∧ (pin relay).pinFollows 31 = true ∧ up.pinFollows 31 = false ∧
    (inState 1 up).pinsForced = true ∧
    ((pin relay).seq.edges.filter (fun e => e.1 == 31 && e.2.2 ≤ 5)).getLast? = some (31, true, 5) ∧
    (pin relay).seq.edges.filter (fun e => e.1 == 31 && e.2.2 ≤ 4) = [] := by decide +kernel
theorem met_timeout_and_hold : { group 2 frames with ticks := 2 }.stayOver 7 = true ∧
    { group 2 frames with ticks := 1, fc := 3071 }.stayOver 7 = false ∧
    { group 2 frames with ticks := 2, fc := 1 }.isEdge 7 6145 = false ∧ { group 0 frames with ticks := 2 }.isEdge 7 6144 = true ∧
    (group 5 frames).holdOver 7 = true ∧ (regs [(F.SEQ_DG_STATUS_HOLD_TURNS 7, 3)] (group 5 frames)).holdOver 7 = false := by decide +kernel
theorem met_frame_start : ((group 0 frames).sg 7).running = true ∧ (3071 : Int) < ((group 0 frames).sg 7).frameAt + (group 0 frames).period 7 + 0 ∧
    ((group 0 frames).sg 7).frameAt + (group 0 frames).period 7 + 0 ≤ (3072 : Int) ∧ (group 0 frames).syncState 7 = 0 ∧
    (regs [(F.SEQ_DG_STATUS_SYNC_STATE 7, 3)] up).syncState 7 = 3 ∧ (group 0 frames).act (F.SEQ_DG_LOSS_LOSS_FRAMES 7) ≤ satAdd 65535 7 1 ∧
    satAdd 65535 6 1 < (group 0 frames).act (F.SEQ_DG_LOSS_LOSS_FRAMES 7) := by decide +kernel
theorem met_reference : (group 0 frames).syncRuns 7 1 = true ∧ (group 0 sgNone).syncRuns 7 1 = false ∧
    nearest (16 - 0) ((group 0 frames).period 7) = 16 ∧
    nearest (3056 - 0) ((group 0 frames).period 7) = -16 ∧ nearest (17 - 0) ((group 0 frames).period 7) = 17 ∧
    (group 0 frames).act (F.SEQ_DG_SYNC_SYNC_TOL 7) = 16 ∧ ((group 0 frames).sg 7).anchor = none ∧
    burstFound 1000 1 ((group 0 frames).act (F.SEQ_DG_SYNC_SYNC_THR 7)) = true ∧
    burstFound 0 1 ((plan [(F.SEQ_DG_SYNC_SYNC_THR 7, 1)] (group 0 frames)).act (F.SEQ_DG_SYNC_SYNC_THR 7)) = false := by decide +kernel
theorem met_sync_in : { up.seq with syncEdge := some 5 }.syncEdge = some 5 ∧ 7 ≤ 5 + 2 ∧ 5 + 2 < 8 ∧
    (plan [(F.SEQ_DG_CFG_SYNC_SRC 7, 2)] (group 0 frames)).syncRuns 7 2 = true ∧ (group 0 frames).syncRuns 7 2 = false := by decide +kernel
theorem met_no_edge : ∀ t0, up.seq.syncEdge = some t0 → t0 + 2 < up.now := by intro t0 h; cases h
/-- Mismatch channel 3 watches S ports 6 and 7 from port 6, with a search or not. -/
def search : Search := ⟨7, 0, 0, [1], 0, false, false, 0, 0, 0, 0, 0⟩
def watching (q : Option Search) (ticks : Nat) : State :=
  let s := plan [(F.SEQ_MM_CFG_EN 3, 1), (F.SEQ_MM_CFG_PORTS 3, 192), (F.SEQ_MM_CFG_DWELL 3, 100), (F.SEQ_MM_SEARCH_SETTLE 3, 2),
      (F.SEQ_MM_SEARCH_MEAS 3, 2),
    (F.SEQ_MM_THR_RL_MIN 3, 1), (F.SEQ_MM_THR_RL_HYST 3, 0), (F.SEQ_TUN_STEP_SEARCH_MAX 7, 50)] (regs [(F.SEQ_MM_STATUS_PORT 3, 6)] relay)
  { s with ticks := ticks, seq := { s.seq with mms := [(3, { mmNone with search := q })] } }
theorem met_dwell : 3 < nObsOf relay.variant ∧ (watching none 100).mmRuns 3 = true ∧ up.mmRuns 3 = false ∧ ((watching none 100).mmX 3).search = none ∧
    ((watching none 100).mmX 3).dwell + (watching none 100).act (F.SEQ_MM_CFG_DWELL 3) ≤ (watching none 100).ticks ∧
    ((watching none 100).mmPorts 3).find? (fun p => (watching none 100).get (F.SEQ_MM_STATUS_PORT 3) < p) = some 7 := by decide +kernel
theorem met_search : ((watching (some search) 49).mmX 3).search = some search ∧ search.failed = false ∧ search.written = false ∧
    { search with failed := true }.left = 1 :: [] ∧
    (watching (some search) 49).act (F.SEQ_MM_SEARCH_SETTLE 3) + (watching (some search) 49).act (F.SEQ_MM_SEARCH_MEAS 3) ≤ { search with written := true, count := 4, sum := 20 }.count ∧
    10 * (((watching none 0).act (F.SEQ_MM_THR_RL_MIN 3) : Int) + (watching none 0).act (F.SEQ_MM_THR_RL_HYST 3)) * (watching none 0).act (F.SEQ_MM_SEARCH_MEAS 3) ≤ 20 ∧
    (watching (some search) 49).ticks < search.start + (watching (some search) 49).act (F.SEQ_TUN_STEP_SEARCH_MAX search.port) ∧
    search.start + (watching (some search) 50).act (F.SEQ_TUN_STEP_SEARCH_MAX search.port) ≤ (watching (some search) 50).ticks := by decide +kernel
/-- Bus 1 with a scheduled command due at time 5. -/
def bused (x : RffeBus) : State := { relay with seq := { relay.seq with buses := [(1, x)] } }
/-- A write of the host to register 2 of slave 1, and one of a tuner's. -/
def hostCmd : RffeCmd := ⟨.host, 1, 1, 2, 3⟩
def tunerCmd : RffeCmd := ⟨.tuner 6 9, 1, 1, 2, 9⟩
theorem met_rffe : bit 0x13 0 = true ∧ bits 0x13 1 1 = 1 ∧ bits 0x13 2 3 = 4 ∧ 4 < bits 0x17 2 3 ∧ relay.flag F.SEQ_RFFE_HCMD_BUSY = false ∧
    relay.blockHeld .sequencer = false ∧ (relay.bus 1).cur = none ∧ (relay.bus 1).waiting = [] ∧ relay.rffeAhead 1 .host = false ∧
    ((bused { busNone with due := [(63, 5)] }).bus 1).due.find? (fun d => d.1 == 63 && d.2 ≤ 5) = some (63, 5) ∧ relay.schedRuns = true ∧
    (inState 1 up).schedRuns = false ∧ (bused { busNone with due := [] }).rffeAhead 1 (.sched 63 5) = false := by decide +kernel
theorem met_rffe_end : ((bused { busNone with cur := some (hostCmd, true, 9) }).bus 1).cur = some (hostCmd, true, 9) ∧
    ((bused { busNone with cur := some (tunerCmd, false, 9) }).bus 1).cur = some (tunerCmd, false, 9) ∧ tunerCmd.src = .tuner 6 9 ∧
      hostCmd.src = .host ∧
    ((true || rffeIsRead hostCmd.kind) && (!true || (true && 3 != hostCmd.data))) = false ∧
    ((true || rffeIsRead hostCmd.kind) && (!true || (true && 4 != hostCmd.data))) = true ∧ rffeIsRead 2 = true ∧
    ((bused { busNone with cur := some (hostCmd, true, 9) }).bus 1).waiting = [] := by decide +kernel

/-! The Drive PWM. -/

/-- The carrier runs, its next zero at time 8 and its top at time 4, with matches, outputs and lines as given. -/
def carrier (p : Pwm) : State :=
  let s := regs [(F.PWM_STATUS_RUNNING, 1)] up
  { s with pwm := p }
def counting : Pwm := { pwmNone with nextZero := 8, nextTop := some 4 }
theorem met_carrier : (carrier counting).pwm.sampled = none ∧ (carrier { counting with sampled := some (1, [4], []) }).pwm.sampled.isSome = true ∧
    (carrier counting).pwmRunning = true ∧ (carrier counting).pwmFrozen = false ∧ (7 : Nat) < (carrier counting).pwm.nextZero ∧
    (carrier counting).pwm.nextZero ≤ 8 ∧ (carrier counting).pwm.nextTop = some 4 ∧ (carrier counting).pwm.stopping = false ∧ up.pwmRunning = false ∧
    (carrier { counting with frozenAt := some 0 }).pwmFrozen = true ∧ { counting with stopping := true }.stopping = true := by decide +kernel
/-- A match of CMPB of pair 7 at time 6. -/
def crossing (edge : Bool) : State := carrier { counting with matches_ := [⟨7, true, 6, edge, true⟩] }
theorem met_compare : (crossing false).pwm.matches_.find? (fun m => m.pair == 7 && m.isB == true && decide (m.at_ ≤ 6)) = some ⟨7, true, 6, false,
    true⟩ ∧
    (crossing true).pwm.matches_.find? (fun m => m.pair == 7 && m.isB == true && decide (m.at_ ≤ 6)) = some ⟨7, true, 6, true, true⟩ ∧
    (crossing false).pwm.matches_.find? (fun m => m.pair == 7 && m.isB == true && decide (m.at_ ≤ 5)) = none ∧ ((crossing false).pair 7).mode = 0 ∧
    (carrier { counting with pairs := [(7, { pairNone with mode := 1 })] }).pair 7 = { pairNone with mode := 1 } := by decide +kernel
theorem met_line : sparseGet (0, none) (carrier { counting with lines := [(15, (2, some 9))] }).pwm.lines 15 = (2, some 9) ∧
    (carrier { counting with pairs := [(0, { pairNone with en := true })] }).pair ((carrier counting).act (F.PWM_TRG_CFG_PAIR 15)) = { pairNone with en := true } ∧
    sparseGet (0, none) (carrier counting).pwm.lines 15 = (0, none) := by decide +kernel
theorem met_mask : { counting with due := [(7, true, 3)] }.due.any (fun d => d.1 == 7 && d.2.1 == true && d.2.2 ≤ 3) = true ∧
    { counting with due := [(7, true, 3)] }.due.any (fun d => d.1 == 7 && d.2.1 == true && d.2.2 ≤ 2) = false ∧
        (carrier counting).earlyMask 7 true = false ∧
    bit ((carrier counting).act (F.PWM_MASK_OUT_OUTPUTS 7)) 15 = false ∧ partner 15 = 14 := by decide +kernel
theorem met_trip : (plan [(F.PWM_TRIP_CFG_EN 3, 1), (F.PWM_TRIP_CFG_GROUP 3, 32768)] up).actB (F.PWM_TRIP_CFG_EN 3) = true ∧ up.pwr.off = false ∧
    up.getBit F.PWM_TRIP_STATUS_LIVE 3 = false ∧ up.actB (F.PWM_TRIP_CFG_EN 3) = false ∧
    bit ((plan [(F.PWM_TRIP_CFG_EN 3, 1), (F.PWM_TRIP_CFG_GROUP 3, 32768)] up).act (F.PWM_TRIP_CFG_GROUP 3)) 15 = true := by decide +kernel
/-- Output 15 waits: to rise, or to enter its masked state, at time 6. -/
def waits (rise enter : Option Nat) : State := carrier { counting with outs := [(15, { outNone with rise := rise, enter := enter })] }
theorem met_dead_time : ((carrier { counting with outs := [(15, { outNone with level := true, fall := some 6 })] }).out 15).fall = some 6 ∧
    ((waits (some 6) none).out 15).rise = some 6 ∧ ((waits (some 6) none).out (partner 15)).level = false ∧
      ((waits (some 6) none).out 15).level = false ∧
    ((carrier { counting with outs := [(14, { outNone with level := true })] }).out (partner 15)).level = true ∧
      ((waits (some 6) none).out 15).enter = none ∧
    ((waits none (some 6)).out 15).enter = some 6 ∧ ((waits none (some 6)).out 15).rise = none ∧ (waits none (some 6)).maskFrom 15 ≤ 6 ∧
    0 < (carrier { counting with outs := [(15, { outNone with level := true, enter := some 0 })], pairs := [(7, { pairNone with minOn := 3 })] }).maskFrom 15 := by
  decide +kernel
theorem met_load : (carrier { counting with pairs := [(7, { pairNone with owner := true })] }).owned 7 = true ∧ up.owned 7 = false ∧
    bit 0x180 7 = true ∧ bit 0x180 8 = true := by decide +kernel

/-! The Gauge and the Control Engine. -/

/-- Converter 3, enabled, whose sequence of two entries a PWM line triggers. -/
def gauge (x : GauX) : State :=
  let s := plan [(F.GAU_SEQ_EN 3, 1), (F.GAU_SEQ_TRIG_SRC 3, 2), (F.GAU_SEQ_LEN 3, 2)] up
  { s with gau := [(3, x)] }
theorem met_trigger : (gauge { gauNone with trig := true }).gauRuns = true ∧ (gauge gauNone).actB (F.GAU_SEQ_EN 3) = true ∧
    (gauge gauNone).act (F.GAU_SEQ_TRIG_SRC 3) = 2 ∧ ((gauge { gauNone with trig := true }).gauX 3).trig = true ∧
      ((gauge gauNone).gauX 3).trig = false ∧
    ((gauge { gauNone with seq := .delay 5 }).gauX 3).seq = .delay 5 ∧ (inState 0 up).gauRuns = false ∧
    ((gauge { gauNone with seq := .delay 5, inj := some 15 }).gauX 3).inj.isSome = true ∧ (gauge gauNone).gauX 3 = { gauNone with tail := false } :=
      by decide +kernel
theorem met_conversion : ((gauge { gauNone with seq := .run 1, endAt := 5 }).gauX 3).converting = true ∧ ((gauge gauNone).gauX 3).converting = false ∧
    ((gauge { gauNone with seq := .run 1, endAt := 5 }).gauX 3).discard = false ∧ (gauge gauNone).act (F.GAU_ENT_CFG_ACC_N 3 1) ≤ 10 ∧
    (gauge gauNone).get (F.GAU_ENT_STATE_PARTIAL 3 1) = 0 ∧ 2 ^ (gauge gauNone).act (F.GAU_ENT_CFG_ACC_N 3 1) ≤ 0 + 1 ∧
    0 + 1 < 2 ^ (plan [(F.GAU_ENT_CFG_ACC_N 3 1, 1)] up).act (F.GAU_ENT_CFG_ACC_N 3 1) ∧
        (gauge gauNone).latches.find? (fun l => l.1 == (F.GAU_ENT_TRACK_MIN 3 1).off) = none ∧
    ((gauge { gauNone with inj := some 15, endAt := 5 }).gauX 3).inj = some 15 := by decide +kernel
theorem met_injected_and_calibrated : ((gauge { gauNone with cal := some 1 }).gauX 3).cal.isSome = true ∧ ((gauge gauNone).gauX 3).cal = none ∧
    (gauge gauNone).gauRuns = true ∧
    ((gauge { gauNone with cal := some 1 }).gauX 3).cal = some 1 ∧ (2304000 : Nat) < 1 + 2304000 ∧ 19 * 32768 ≤ 20 * 31130 + 12 ∧
      ¬ 19 * 32768 ≤ 20 * 31129 ∧
    20 * 34406 ≤ 21 * 32768 ∧ ¬ 20 * 34407 ≤ 21 * 32768 := by decide +kernel
/-- Loop 7 in use, with these samples waiting. -/
def looping (l : List (Nat × Nat × Bool × Nat)) : State :=
  let s := plan [(F.CTL_LOOP_CFG_EN 7, 1), (F.CTL_LOOP_SP_LIM_SP_MIN 7, 10), (F.CTL_LOOP_SP_LIM_SP_MAX 7, 20)] up
  { s with ctl := { s.ctl with loops := [(7, { loopNone with samples := l, started := true })] } }
theorem met_supply_loop : (looping [(4095, 0, false, 9)]).ctlRuns = true ∧ (looping []).loopOn 7 = true ∧ up.loopOn 7 = false ∧
    (inState 1 up).ctlRuns = false ∧
    ((looping [(4095, 0, false, 9)]).loop 7).samples = [(4095, 0, false, 9)] ∧ 4095 * 16 / 2 ^ 0 < 65536 ∧
      ((looping [(4095, 0, true, 9)]).loop 7).samples = [(4095, 0, true, 9)] ∧
    ((looping [(1, 0, false, 8), (2, 0, false, 9)]).loop 7).samples = (1, 0, false, 8) :: (2, 0, false, 9) :: [] ∧
      ((looping []).loop 7).samples.length < 2 ∧
    ((looping []).loop 7).started = true ∧ (looping [(4095, 0, false, 9)]).loopWaits 7 = false ∧
    { (looping [(4095, 0, false, 9)]) with ctl := { up.ctl with loops := [(6, { loopNone with samples := [(1, 0, false, 9)] }), (7, { loopNone with samples := [(1, 0, false, 9)] })] },
                                           active := (plan [(F.CTL_LOOP_CFG_EN 6, 1)] (looping [])).active }.loopWaits 7 = true := by decide +kernel
/-- A SUPPLY_SETPOINT of loop 7. -/
def setsPoint (v : Nat) : Desc := desc Op.supplySetpoint [(8, 7), (12, v)]
theorem met_setpoint : (flying (setsPoint 10) (looping [])).offers Op.supplySetpoint (setsPoint 10) ∧ dLoop (setsPoint 10).body = 7 ∧
    dSetpoint (setsPoint 10).body = 10 ∧
    dSetpoint (setsPoint 21).body = 21 ∧ (looping []).act (F.CTL_LOOP_SP_LIM_SP_MIN 7) ≤ 10 ∧ ¬ 21 ≤ (looping []).act (F.CTL_LOOP_SP_LIM_SP_MAX 7) ∧
    (flying (setsPoint 21) (looping [])).takesCpl 0 ∧ (flying (setsPoint 21) (looping [])).offers Op.supplySetpoint (setsPoint 21) :=
      by decide +kernel
/-- The level loop of slot 0 in use. -/
def levelled : State := plan [(F.CTL_LVL_CFG_LVL_EN 0, 1)] lane
theorem met_level_loop : 256 ≤ 256 % 3072 ∧ 2815 % 3072 < 2816 ∧ levelled.ctlRuns = true ∧ bit levelled.overran 2 = false ∧ levelled.lvlOn 0 = true ∧
    lane.lvlOn 0 = false ∧ slotIn levelled.variant 0 = true ∧ levelled.worked.contains (2, 0) = false ∧
    { levelled with worked := [(2, 0)] }.worked.contains (2, 0) = true := by decide +kernel
/-- The group of the slot has transmitted through the Turn just ended; its level loop started in Turn 0. -/
def levelValid : State := { heard (regs [(F.SEQ_DG_STATUS_STATE 0, 2)] levelled) with turn := 1, ticks := 1 }
theorem met_level_loop_valid : (levelValid.lvlSteady 0 && (levelValid.lvl 0).startAt != levelValid.turn) = true ∧
    (levelled.lvlSteady 0 && (levelled.lvl 0).startAt != levelled.turn) = false := by decide +kernel
theorem met_no_fill : ∀ e ∈ levelled.fab.fill, e.1 = 0 → e.2 = levelled.turn.toNat → (levelled.lvl 0).startAt = levelled.turn := by intro e h; cases h
theorem met_halt : up.haltOk = true ∧ (inState 1 up).haltOk = false ∧ (regs [(F.CTL_STATUS_HALTED, 1)] up).flag F.CTL_STATUS_HALTED = true ∧
    up.flag F.CTL_STATUS_HALTED = false ∧ up.ctl.stepping = false := by decide +kernel

/-! Plans. -/

/-- A PLAN_SWAP of a mode for a Turn, offered in Turn 4. -/
def swaps (mode target : Nat) : Desc := desc Op.planSwap [(8, mode), (16, target)]
def swapping (d : Desc) (s : State) : State := flying d { s with turn := 4 }
def locked (s : State) : State := { s with plan := { s.plan with parsing := some .orphan } }
theorem met_swap : (swapping (swaps 1 5) up).offers Op.planSwap (swaps 1 5) ∧ (swapping (swaps 1 5) up).takesCpl 0 ∧ dMode (swaps 1 5).body = 1 ∧
    dMode (swaps 2 5).body ≠ 1 ∧
    up.shadowLocked = false ∧ (locked up).shadowLocked = true ∧ dTarget (swaps 1 5).body = 4 + 1 ∧ laterThan (dTarget (swaps 1 5).body) 4 = true ∧
    laterThan (dTarget (swaps 1 4).body) 4 = false ∧ up.pstate ≠ 0 ∧ up.pwr.off = false ∧ (inState 0 up).pstate = 0 := by
  decide +kernel
/-- A swap that pends. -/
def pends (mode : Nat) (validating commit : Bool) (ended : Option (TurnNo × Nat × Option (Nat × Nat × Nat))) (s : State) : State :=
  { s with plan := { s.plan with swap := some ⟨mode, 5, none, 0, validating, ended, commit⟩ } }
theorem met_validation : (pends 0 true false none up).plan.swap = some ⟨0, 5, none, 0, true, none, false⟩ ∧ up.swapFaults ≠ none ∧
    (regs [(F.PLAN_STATUS_SHADOW_VALID, 1)] up).swapFaults = none ∧ (⟨0, 5, none, 0, false, none, false⟩ : Swap).validating = false :=
      by decide +kernel
theorem met_commit_window : laterThan (5 : TurnNo) 5 = false ∧ laterThan (5 : TurnNo) 0 = true ∧ ({ up with turn := 4 }.turn + 1 = 5) ∧
    up.pwr.off = false ∧ up.pwr.clkLost = false ∧ (3, 0) ∉ up.worked ∧ (3, 0) ∈ { up with worked := [(3, 0)] }.worked ∧ up.plan.swap = none ∧
    (pends 0 true true (some (0, 0, none)) up).plan.swap = some ⟨0, 5, none, 0, true, some (0, 0, none), true⟩ ∧
    State.chuckFaults { pends 0 true false (some (0, 0, none)) up with fc := 2816 } = none ∧
    State.chuckFaults { { up with shadow := lane.active } with fc := 2816 } = some (0x10, 0, 0) ∧ { up.pwr with clkLost := true }.clkLost = true :=
        by decide +kernel
theorem met_shadow_writes : findReg 2 = none ∧ (findReg (F.GOUGE_SLOT_ALLOC_TAPS 0).off).any (fun e => !(rwsOf e.1).isEmpty &&
    namesIn up.variant e.1.names e.2) = true ∧
    routeFixed up.variant (F.GOUGE_SLOT_ALLOC_TAPS 0).off = false ∧ up.pwr.off = false ∧ up.shadowLocked = false ∧ (locked up).shadowLocked = true :=
        by decide +kernel
/-- A sound Plan image of PLAN_ID 77: its header, a directory of one section, and that REGS section, which is empty. -/
def directory : List Byte := leBytes 1 2 ++ leBytes 0 2 ++ leBytes 80 4 ++ leBytes 0 4 ++ leBytes (crc32c []) 4
def head (part : Nat) : List Byte :=
  let h := fields 60 [(0, 4, 0x4C505747), (4, 1, 1), (6, 2, part), (8, 4, 128), (12, 4, 77), (20, 2, 1)]
  h ++ leBytes (crc32c (h ++ directory)) 4 ++ directory
def cells (b : List Byte) : List Host.Cell := (b.zipIdx.filter (fun e => e.1 != 0)).map (fun e => (e.2, e.1))
def parsing (part : Nat) : State := { up with plan := { up.plan with parsing := some .orphan, image := cells (head part) } }
theorem met_parse : (parsing 0x6432).plan.parsing = some .orphan ∧ (parsing 0x6432).plan.replace = none ∧
    (parseImage .gw6432 (parsing 0x6432).plan.image []).isRight = true ∧ (parseImage .gw6432 (parsing 0x6416).plan.image []).isRight = false ∧
      up.plan.parsing = none := by
  decide +kernel
theorem met_parse_sound : (parseImage up.variant (parsing 0x6432).plan.image (parsing 0x6432).plan.imageBad).getRight?.any
    (fun p => p.planId == 77) = true := by decide +kernel
/-- The flash at a stage. -/
def flash (st : FlashStage) : State := { up with flash := { up.flash with stage := st, autostart := true } }
def strapped (rows : List OtpRow) : State :=
  let s := inState 1 (chuck rows [])
  { s with pwr := { s.pwr with straps := 1 } }
/-- The header of the flash, with this many tokens at an address. -/
def flashHead (tokens : Nat) : List Byte :=
  let h := fields 60 [(0, 4, 0x4C465747), (4, 1, 1), (8, 4, 4096), (16, 4, tokens), (20, 2, tokens)]
  h ++ leBytes (crc32c h) 4
theorem met_flash : (strapped operator).pstate = 1 ∧ bit (strapped operator).pwr.straps 0 = true ∧ (strapped operator).get F.PLAN_BOOT_STAGE = 0 ∧
    (strapped operator).flash.stage = .idle ∧ (strapped operator).pwr.leaving = false ∧ (strapped field).lifecycle = 2 ∧
      (strapped operator).lifecycle = 1 ∧
    (strapped []).lifecycle = 0 ∧ flashHeaderOk (flashHead 0) = true ∧ flashHeaderOk (flashHead 2) = true ∧ flashHeaderOk (bytes64 []) = false ∧
      leAt (flashHead 0) 20 2 = 0 ∧
    leAt (flashHead 2) 16 4 ≠ 0 ∧ leAt (flashHead 2) 20 2 ≠ 0 ∧ (flash .header).flash.stage = .header ∧
        (flash (.tokens 2 0 1)).flash.stage = .tokens 2 0 1 ∧
    imageOrder .gw6432 [(0, head 0x6432), (1, head 0x6416)] = [0] ∧ imageOrder .gw6432 [(1, head 0x6416)] = [] ∧
        (flash (.image 0 none)).plan.parsing = none := by decide +kernel

/-! Registers and the Turn. -/

theorem met_part : up.latches.find? (fun e => e.1 == 0) = none := by decide +kernel
/-- A register of one field of each access code is found, is no row's own, and is named by the variant. -/
theorem met_host_write : (findReg F.LOG_IRQ_EN.off).any (fun e => namesIn up.variant e.1.names e.2 && !up.baseKept e.1 e.2 &&
    !up.ownedPair e.1 e.2) = true ∧
    F.LOG_IRQ_EN.off % 4 = 0 ∧ ownRow F.LOG_IRQ_EN.off = false ∧ findReg 2 = none ∧
    (findReg (F.HIF_SQ_BASE_LO_BASE 0).off).any (fun e => up.baseKept e.1 e.2) = true ∧ ownRow (F.PWM_PAIR_CMP_STG_CMPA 7).off = false ∧
    (findReg (F.PWM_PAIR_CMP_STG_CMPA 7).off).any (fun e => e.2 == 7 &&
      (carrier { counting with pairs := [(7, { pairNone with owner := true })] }).ownedPair e.1 e.2) = true := by decide +kernel
theorem met_host_read : isWideLow F.TB_TURN_LO_TURN.off = true ∧ isWideLow (F.TB_TURN_LO_TURN.off + 4 - 4) = true ∧
    isWideLow (F.TB_TURN_LO_TURN.off + 4) = false ∧
    isWideLow (F.GAU_ENT_TRACK_MIN 3 15).off = false ∧ up.latches.find? (fun e => e.1 == (F.GAU_ENT_TRACK_MIN 3 15).off) = none ∧ findReg 2 = none ∧
    { up with latches := [(F.TB_TURN_LO_TURN.off + 4, 1)] }.latches.find? (fun e =>
        e.1 == F.TB_TURN_LO_TURN.off + 4) = some (F.TB_TURN_LO_TURN.off + 4, 1) := by decide +kernel
/-- Nothing measured. -/
def still : TurnMeas := ⟨⟨[], [], []⟩, [], [], none, [], [], [], []⟩
theorem met_boundary : measOk .gw6432 still = true ∧ up.pwr.off = false ∧ up.pwr.clkLost = false ∧ up.get F.APZ_CFG_ROLE ≠ 2 ∧
    up.plan.copyActive = false ∧
    up.plan.clearShadow = false ∧ up.plan.replace = none ∧ { up.pwr with clkLost := true }.clkLost = true := by decide +kernel
theorem met_overrun : (lane.classSlots 1).filter (fun sl => !lane.worked.contains (1, sl)) = [0] ∧
    (up.classSlots 1).filter (fun sl => !up.worked.contains (1, sl)) = [] ∧
    (lane.classSlots 1).filter (fun sl => !{ lane with worked := [(1, 0)] }.worked.contains (1, sl)) = [] ∧ bit up.overran 1 = false ∧
    classEnd 1 ≤ 2047 % 3072 ∧ 2046 % 3072 < classEnd 1 ∧ classEnd 0 ≤ 767 % 3072 ∧ classEnd 2 ≤ 2815 % 3072 ∧
    bit { up with overran := 2 }.overran 1 = true ∧ (lane.classSlots 0).contains 0 = true ∧ (levelled.classSlots 2).contains 0 = true :=
        by decide +kernel

/-! Resets, kills, supplies, and the Apzer Link. -/

def power (p : Pwr → Pwr) (s : State) : State := { s with pwr := p s.pwr }
theorem met_resets : up.pwr.resetLow = false ∧ up.pwr.off = false ∧ (power (fun p => { p with off := true, por := true }) up).pwr.off = true ∧
    (power (fun p => { p with resetLow := true }) up).pwr.resetLow = true ∧ 7 < 8 := by decide +kernel
theorem met_chip_reset : up.flt.chipReset = none ∧ { up.flt with chipReset := some 63 }.chipReset = some 63 := by decide +kernel
theorem met_kill : up.pwr.killPin = false ∧ (power (fun p => { p with killPin := true }) up).pwr.killPin = true ∧ 0 ∈ dacsOf up.variant ∧
    (regs [(F.CVA_DAC_STATUS_MUTED 0, 1)] up).dacMuted 0 = true := by decide +kernel
theorem met_supplies : up.isLive 38 = false ∧ (regs [(F.FLT_LIVE_HI_LIVE, 64)] up).isLive 38 = true ∧ up.railDown 3 = false ∧
    (regs [(F.PWR_SUPPLY_RAIL_UV, 8)] up).railDown 3 = true := by decide +kernel
theorem met_temperatures : ∀ x ∈ ([271, -512, 511, 0] : List Int), -512 ≤ x ∧ x < 512 := by decide
theorem met_hot : 270 < (hottest [270, -512, 271, 0]).2 ∧ (hottest [249, 0, 0, 0]).2 < 250 ∧ up.isLive 42 = false ∧ 2 ≤ up.pstate := by decide +kernel
theorem met_reference_clock : up.pwr.clkLost = false ∧ (power (fun p => { p with clkLost := true }) up).pwr.clkLost = true := by decide +kernel
/-- A follower, both inputs enabled. -/
def follower (role align : Nat) : State :=
  regs [(F.APZ_CFG_ROLE, role), (apzEn 0, 1), (apzEn 1, 1), (F.APZ_STATUS_ALIGN, align), (F.APZ_STATUS_IN0_UP, 1)] up
theorem met_frames : (follower 2 2).apzTakes 0 = true ∧ up.apzTakes 0 = false ∧ (follower 2 2).get F.APZ_CFG_ROLE = 2 ∧
    (follower 2 2).get F.APZ_STATUS_ALIGN = 2 ∧
    (follower 1 0).get F.APZ_CFG_ROLE ≠ 0 ∧ 31 < 32 ∧ 49151 < 49152 := by decide +kernel
theorem met_echo : (follower 2 2).apzTakes 1 = true ∧ 1026 = 1024 + 2 * 1 ∧ ∀ x ∈ up.apz.trips, x = 1026 :=
  ⟨by decide +kernel, by decide, by intro x h; cases h⟩
def counted (valid invalid acq : Nat) (s : State) : State :=
  { s with apz := { s.apz with valid := [(1, valid)], invalid := [(0, invalid)], acqTurns := acq } }
theorem met_inputs : sparseGet 0 (follower 2 2).apz.heard 0 + 64 ≤ ((follower 2 2).at 64).now ∧
    ((follower 2 2).at 63).now < sparseGet 0 (follower 2 2).apz.heard 0 + 64 ∧ (follower 2 2).flag (apzUp 0) = true ∧ ¬ sparseGet 0 (counted 0 3 0 (follower 2 2)).apz.invalid 0 < 3 ∧
    sparseGet 0 (counted 0 2 0 (follower 2 2)).apz.invalid 0 < 3 ∧ (follower 2 2).flag (apzUp 1) = false ∧
        192 ≤ sparseGet 0 (counted 192 0 0 (follower 2 2)).apz.valid 1 ∧
    sparseGet 0 (counted 191 0 0 (follower 2 2)).apz.valid 1 < 192 ∧ (follower 2 1).get F.APZ_STATUS_ALIGN = 1 ∧
        4096 ≤ (counted 0 0 4096 up).apz.acqTurns ∧
    (follower 2 1).apz.noLeader = false ∧ (counted 0 0 4095 up).apz.acqTurns < 4096 ∧ (inState 3 (follower 2 2)).inRelay = true := by decide +kernel

/-! ### Ill-formed commands: one for each check, which the check refuses and exec stops on -/

/-- Commands that name no part of a GW6432-M, or lie outside their rows' ranges. -/
def illFormed : List Instr :=
  [.turnBoundary { still with stream := ⟨[(20, [])], [], []⟩ }, .turnBoundary { still with stream := ⟨[], [(128, [])], []⟩ },
   .turnBoundary { still with stream := ⟨[], [], [⟨128, [], []⟩]⟩ }, .turnBoundary { still with mm := [⟨4, 0, 0⟩] },
   .turnBoundary { still with readBack := [128] }, .guardEvaluation 0 [128] [], .guardEvaluation 0 [] [⟨16, [], [], []⟩],
   .gougeAdaptationStep 0 [128], .levelLoopRun 256 [128],
   .turnOverrun 0 3, .coalesceTimeout 0 8, .sqCfgWrite 0 8 0, .cqCfgWrite 0 8 0, .hwtWrite 0 1024, .hwtRead 0 1024,
   .hwtInvalidate 0 1024, .freeze 0 128 true, .reprobe 0 128 true, .rffeCommandEnd 0 2 true 0, .rffeCommandEnd 0 1 true 256,
   .rffeScheduledCommand 0 2 0, .rffeScheduledCommand 0 1 64] ++
  [.selfCal 0 4, .injGo 0 4 0, .injGo 0 3 16, .fltInjectArm 0 8 false 0, .fltInjectArm 0 0 false 256, .injectedError 0 ⟨32, 0⟩, .injectedError 0 ⟨0, 256⟩,
      .tokenRelease 0 64,
   .wideLowRead 0 0 4, .wideUpperRead 0 0 4, .porRelease 0 8, .resetNRelease 0 8, .tripActive 0 4, .tripInactive 0 4, .pwrVinUv 0 256,
   .pwrVinOv 0 256, .vinShutdown 0 256, .pwrRail 0 5 [], .railRecovery 0 4, .tempSensorRead 0 512 0 0 0, .tempSensorRead 0 0 0 0 (-513),
   .linkUp 0 0 1, .linkUp 0 6 1, .linkUp 0 1 3] ++
  [.apzMark 49152 0 false, .apzMark 0 32 false, .apzCountFrame 0 0 0 false, .apzCountFrame 0 11 0 false, .apzCountFrame 0 1 32 false,
   .apzEpochFrame 0 10 0 false, .apzEpochFrame 0 15 0 false, .apzHopFrame 0 32 false, .apzDelayFrame 0 15 0 false, .apzDelayFrame 0 19 0 false,
   .apzEcho 49152 false, .apzIdleFrame 0 2 false, .apzInvalidFrame 0 2, .apzInputDown 0 2 0, .apzInputDown 0 0 2, .apzInputUp 0 2,
   .synthLocked 0 2, .synthLockTimeout 0 2, .synthLockLoss 0 2, .trackUpdate 0 20 ⟨0, []⟩, .trackUpdate 0 0 ⟨256, []⟩, .dovetailSlip 0 ⟨4, 5⟩] ++
  [.mergeMismatch 0 ⟨144, []⟩, .mergeMismatch 0 ⟨176, []⟩, .mergeMismatch 0 ⟨196, []⟩, .fabEcc 0 (.tile 136) true, .fabEcc 0 (.lane 256) true,
   .fabEcc 0 (.sideband 0 1048576) true, .chzCoefParity 0 128, .fabTileFail 0 136, .fillEnd 0 128,
   .captureTrigger 0 ⟨8, [], [], []⟩, .noTrigger 0 8, .captureRecordingEnd 0 8 ⟨[], []⟩ [], .captureShareOverrun 0 8 ⟨[], []⟩ [],
       .delaySearchEnd 0 128 0 0 0,
   .delaySearchEnd 0 0 8192 0 0, .probePhaseEnd 0 128, .checkpoint 0 128, .gougeTapEcc 0 4 ⟨0, 0⟩ true, .gougeTapEcc 0 3 ⟨136, 0⟩ true,
       .gougeTapEcc 0 2 ⟨128, 0⟩ true,
   .laneFail 0 136] ++
  [.patternBoundary 0 8, .fePinEdge 0 32, .seqTxTimeout 0 8, .seqHoldExpired 0 8, .frameStart 0 8, .syncBurst 0 8 ⟨0, 0, 0⟩ [],
      .syncBurst 0 0 ⟨0, 0, 0⟩ [(4, 0, 0)],
   .mismatchDwell 0 4, .tunerSearchStep 0 4, .searchTimeout 0 4, .compareMatch 0 8 true, .pwmTriggerLine 0 16, .maskAssert 0 8, .maskRelease 0 8,
   .deadTimeEnd 0 16, .minIntervalReached 0 16, .gaugeTrigger 0 4, .gaugeDelayEnd 0 4, .conversionEnd 0 4 0, .gaugeSelfCalEnd 0 4 0 0,
   .gaugeSelfCalEnd 0 0 0 65536, .supplyLoopRun 0 8, .supplyLoopMiss 0 8, .faultWindowClose 0 47, .logMem 0 32 0 true, .logMem 0 0 3 true,
   .selfTestEnd 0 (some 5) none, .planEcc 0 4 0 true, .planEcc 0 0 98304 true]
def stops (c : Instr) (s : State) : Bool := match exec c s with | .fault .illFormed => true | _ => false
theorem test_ill_formed : illFormed.all (fun c => !wellFormed .gw6432 c) = true := by decide +kernel
theorem test_ill_formed_stops : illFormed.all (fun c => stops c up) = true := by decide +kernel
/-- A part that the smaller variant does not have. -/
theorem test_variant : wellFormed .gw6432 (.fabTileFail 0 68) = true ∧ wellFormed .gw6416 (.fabTileFail 0 68) = false ∧
    wellFormed .gw6432 (.trackUpdate 0 10 ⟨0, []⟩) = true ∧ wellFormed .gw6416 (.trackUpdate 0 10 ⟨0, []⟩) = false := by decide +kernel
/-- The table gives its rows no bits. -/
theorem test_no_word : decodeTableWord 8 0 = none ∧ up.withFetchWord 8 0 = up := ⟨rfl, rfl⟩

/-! ### The spec's own examples -/

/-- spec/00_scope.md, the example of R12: the Turn counter goes on between the two reads, and the pair is consistent. -/
theorem test_wide_read :
    ((nextOf (.wideLowRead 0 F.TB_TURN_LO_TURN.off 4) { up with turn := 0x1FFFFFFFF }).bind (fun s =>
      nextOf (.wideUpperRead 0 F.TB_TURN_HI_TURN.off 4) { s with turn := 0x200000000 })).map (fun s => s.linkOut) =
    some [.read F.TB_TURN_LO_TURN.off 0xFFFFFFFF, .read F.TB_TURN_HI_TURN.off 1] := by decide +kernel
/-- R314: CRC-32C of the nine bytes "123456789". -/
theorem test_crc32c : crc32c [0x31, 0x32, 0x33, 0x34, 0x35, 0x36, 0x37, 0x38, 0x39] = 0xE3069283 := by decide +kernel
/-- FIPS 180-4: SHA-256 of "abc". -/
theorem test_sha256 : beNat (sha256 [0x61, 0x62, 0x63]) = 0xba7816bf8f01cfea414140de5dae2223b00361a396177a9cb410ff61f20015ad := by decide +kernel
/-- spec/04_gouge.md, Table 4.2: a peak at lag 1,310 with PRE_TAPS 8 gives DELAY 1,054. -/
theorem test_delay_search : (nextOf (.delaySearchEnd 0 0 1310 200 584) (plan [(F.GOUGE_SLOT_ALLOC_PRE_TAPS 0, 8)] (phased 1 64 false))).map
    (fun t => ((t.gg 0).delay, t.phase 0, t.flag (F.GOUGE_SLOT_STATUS_VALID 0))) = some (1054, 2, true) := by decide +kernel
/-- spec/05_network_guard.md: DL03 with ISO_PRESET 65.0 dB is limited to 50.00 dB; Table 5.5: UL21, 60.0 + 20.0 above G_OSC 52.00 dB, returns at
31.00 dB. -/
def limited (iso c : Nat) (s : State) : State :=
  plan [(F.GRD_SLOT_CFG_MARGIN 0, 150)] { s with gouge := { s.gouge with slots := [(0, { ggNone with snap := (iso, c, true) })] } }
theorem test_limit : (limited 650 0 up).gLim 0 0 = 1000 ∧
    (limited 600 200 (regs [(F.GRD_SLOT_STATUS_OSC_CAP 0, 1), (F.GRD_SLOT_OSC_G_OSC 0, 1040)] up)).gLim 0 60 = 620 := by decide +kernel
/-- spec/07_plans.md, Table 7.7: the 1,024-tap filter of a slot at 7.68 MS/s fills in 133.3 μs, 204,800 fc. -/
theorem test_fill : (plan [(F.CHZ_SLOT_CFG_TRANS 0, 0), (F.CHZ_SLOT_CFG_REJ 0, 2), (F.CHZ_SLOT_CFG_RATE 0, 0)] up).fillFc 0 = 204800 :=
    by decide +kernel
/-- spec/10_drive_pwm.md, Table 10.2: PERIOD 640 is a carrier period of 2,560 fc. -/
theorem test_carrier : (nextOf (.carrierZero 8) (regs [(F.PWM_PERIOD_STG_PERIOD_NOW, 640)] (carrier counting))).map
    (fun t => (t.pwm.nextZero, t.pwm.nextTop)) = some (2568, some 1288) := by decide +kernel
/-- spec/11_control_engine.md, Table 11.1: a ramp of SLEW 400 towards 44,000, turned to 38,000. -/
theorem test_ramp : ramp 40000 44000 400 = 40400 ∧ ramp 41200 38000 400 = 40800 ∧ ramp 38400 38000 400 = 38000 := by decide
/-- spec/11_control_engine.md: 0.8 V at gain x1 is code 2,730 of 4,096 (R233); beyond the range the code carries OVR (R238). -/
theorem test_code : gauCode 0 (800000, 1) = (2730, false) ∧ gauCode 1 (800000, 1) = (4095, true) ∧ gauCode 0 (-1, 1) = (0, true) := by decide
/-- spec/09_gauge.md, Table 9.1: 12 V at VIN divides by 20, 85 degrees is 670 mV, the reference is 0.600 V whatever is applied, and 40 A is 600 mV. -/
theorem test_inputs : gauCode 0 (gauInput 48 12000000) = (2048, false) ∧ gauInput 49 85000 = (670000, 1) ∧ gauInput 55 7 = (600000, 1) ∧
    gauInput 56 40000 = (600000, 1) ∧ gauInput 60 7 = (0, 1) := by decide
/-- spec/01_system.md, Table 1.8: word 0x123 of a Turn that ends in 5, clipped: four ones below bit 9, three from bit 9 on. -/
theorem test_sideband : sideband 0x5 0x123 true false = 0x95123 ∧ sideGood 0x95123 = true ∧ sideGood 0x95122 = false := by decide
/-- R37: the clip codes are 0x7_FFC0 and 0x8_0000; R6: the low six bits are 0. -/
theorem test_clip : adcSample 9000 = 0x7FFC0 ∧ unsgn 20 (adcSample (-9000)) = 0x80000 ∧ adcSample 3 = 192 := by decide
/-- R78: sample 1 of a full-rate record stands in bits 39 to 20, the sideband in bytes 40 to 42. -/
theorem test_record :
    let r := fullRecord ⟨0x95123, [1, -1] ++ List.replicate 14 0⟩
    r.length = 48 ∧ r.take 6 = [0x01, 0x00, 0xF0, 0xFF, 0xFF, 0x00] ∧ r.drop 40 = [0x23, 0x51, 0x09, 0, 0, 0, 0, 0] := by decide +kernel
/-- spec/12_faults.md, Table 12.7: the third trip within W reaches N and is severe. -/
theorem test_third_trip :
    let s := plan [(F.FLT_SRC_CLASS_N 25, 3), (F.FLT_SRC_CLASS_W 25, 1000)] (regs [(F.FLT_SRC_COUNT_OPEN 25, 1), (F.FLT_SRC_COUNT_WINDOW 25, 2)] up)
    (nextOf (.faultEvent 0 [25]) { s with flt := { s.flt with raised := [25] } }).map
      (fun t => (t.get (F.FLT_SRC_COUNT_WINDOW 25), bit (t.get F.FLT_SEVERE_LO_SEVERE) 25)) = some (3, true) := by decide +kernel
/-- spec/14_chuck_security.md, Table 14.7: at the step that takes C to V the withdrawal is over, and a token of a later VERSION is kept. -/
theorem test_withdrawal :
    let s := burning 4
    let t (v i : Nat) : Token := { held with version := v, index := i, digest := [BitVec.ofNat 8 i] }
    let s : State := { s with sec := { s.sec with otp := { s.sec.otp with counter := 3 }, tokens := [t 3 0, t 5 1] } }
    (nextOf (.consentCounterStep 0) s).map (fun t => (t.sec.otp.counter, t.sec.burning, t.sec.tokens.map (fun x => x.version))) = some (4, none,
      [5]) := by
  decide +kernel
/-- spec/15_power_clocks_reset.md, Table 15.4: a round trip of 152.5 fc is a delay of 44.25 fc, sent as 708. -/
theorem test_echo : ∀ up : Bool, openDiv (2440 - 1024) 2 up = 708 := by decide
/-- Ring, index, SQ_HEAD and phase of a completion on the link. -/
def placed (m : LinkMsg) : Option (List Nat) := match m with | .cpl cq i _ b => some [cq, i, leAt b 24 2, byteAt b 31] | _ => none
/-- spec/08_host_interface.md, Table 8.11: a NOP completes with its ring's index, head and phase; the ring's tail goes on. -/
theorem test_nop : (nextOf (.nop 1702 0 0) (regs [(F.HIF_CQ_STATUS_TAIL 0, 15), (F.HIF_CQ_HEAD_SEEN_HEAD 0, 14),
    (F.HIF_SQ_STATUS_HEAD 0, 1)] (flying (desc Op.nop []) up))).map
    (fun t => ([t.get (F.HIF_CQ_STATUS_TAIL 0), t.get (F.HIF_CQ_STATUS_PHASE 0), t.hif.inflight.length], t.linkOut.map placed)) =
    some ([0, 0, 0], [some [0, 15, 1, 1]]) := by decide +kernel

end Sys2Proof.Tests
end

/-! PROOFS. ID_PART (R3): what a read of it answers, and that a write to it does nothing. -/
section
namespace Sys2Proof.Machine

/-- The row of ID_PART: one read-only field in bits 15 to 0. -/
def idPartRow : RegRow := ⟨0x0, 1, 0x4, 1, 0x4, .all, [⟨0, 16, 0, .ro⟩]⟩

@[simp] theorem findReg_idPart : findReg 0 = some (idPartRow, 0) := rfl

@[simp] theorem isWideLow_idPart : isWideLow 0 = false := by
  rw [isWideLow, findReg_idPart]
  decide

@[simp] theorem ownRow_idPart : ownRow 0 = false := by
  rw [ownRow, findReg_idPart]
  decide

theorem partOf_mod (v : Variant) {n : Nat} (h : 16 ≤ n) : partOf v % 2 ^ n = partOf v := by
  have hlt : partOf v < 2 ^ 16 := by cases v <;> decide
  exact Nat.mod_eq_of_lt (Nat.lt_of_lt_of_le hlt (Nat.pow_le_pow_right (by decide) h))

section
variable (s : State)

/-- PART is computed, so nothing stored shows through. -/
theorem State.readField_idPart : s.readField idPartRow 0 0 ⟨0, 16, 0, .ro⟩ = partOf s.variant := by
  have hview : s.view idPartRow 0 0 0 = some (partOf s.variant) := rfl
  have hroute : routeFixed s.variant 0 = false := rfl
  simp only [State.readField, hview, hroute, Option.getD_some, Bool.false_eq_true, if_false]
  rw [partOf_mod _ (Nat.le_refl 16), Nat.pow_zero, Nat.mul_one]

/-- The word is PART alone: bits 31 to 16 hold no field. -/
theorem State.readWord_idPart : s.readWord 0 = partOf s.variant := by
  rw [State.readWord, findReg_idPart]
  exact (Nat.zero_add _).trans s.readField_idPart

/-- ID_PART has no RC field. -/
theorem State.clearOnRead_idPart : s.clearOnRead 0 = s := by
  rw [State.clearOnRead, findReg_idPart]
  rfl

theorem State.hostRead_idPart (h : s.latches.find? (fun e => e.1 == 0) = none) :
    s.hostRead 0 4 = s.link (.read 0 (partOf s.variant)) := by
  have hread : s.readReg 0 = (partOf s.variant, s) := by
    simp [State.readReg, h, State.readWord_idPart, State.clearOnRead_idPart]
  simp only [State.hostRead, Nat.zero_div, Nat.zero_mul, hread, Nat.zero_mod, Nat.mul_zero, Nat.pow_zero, Nat.div_one]
  rw [partOf_mod _ (by decide : 16 ≤ 8 * 4)]

/-- The only field of ID_PART takes no write, and nothing follows a write to this register. -/
theorem State.writeReg_idPart (v : Nat) : s.writeReg 0 v = s := by
  have hkept : s.baseKept idPartRow 0 = false := rfl
  have howned : s.ownedPair idPartRow 0 = false := rfl
  have hblock : blockOf 0 ≠ 10 := by decide
  have hfields : s.each idPartRow.fields (fun s f => s.writeField 0 v f) = s := rfl
  have hafter (role : Nat) : s.afterWrite idPartRow 0 0 role = s := rfl
  simp [State.writeReg, hkept, howned, hblock, hfields, hafter]

theorem execRegisterWrite_idPart (fc len v : Nat) : execRegisterWrite fc 0 len v s = .next (s.at fc) := by
  have hbar : (0 : Nat) ≠ bar2 := by decide
  simp [execRegisterWrite, hbar, State.writeReg_idPart]

end

/-- Settles O53: the word is the computed PART, and the register's one field is read-only. -/
theorem idPartTellsTheVariant : Obligations.IdPartTellsTheVariant := by
  unfold Obligations.IdPartTellsTheVariant
  intro s fc
  refine ⟨fun h => ⟨(s.at fc).link (.read 0 (partOf s.variant)), ?_, ?_, rfl, fun _ _ => rfl⟩, execRegisterWrite_idPart s fc⟩
  · exact congrArg Host.Outcome.next ((s.at fc).hostRead_idPart h)
  · cases hv : s.variant <;> rfl

end Sys2Proof.Machine
end

/-! PROOFS. An event at the collector (R294 to R298): what latching, classifying and reacting write, and O19 assembled from them. -/
section
namespace Sys2Proof.Machine

section
variable {s t : State} {l m : List Field}

/-! ### Register updates -/

theorem sameRegsBut_putB {f : Field} (h : s.sameRegsBut l t) (hf : f ∈ l) (b : Bool) : s.sameRegsBut l (t.putB f b) := fun g hg =>
  (State.get_putB_other t f g b (hg f hf)).trans (h g hg)
theorem sameRegsBut_bump {f : Field} (h : s.sameRegsBut l t) (hf : f ∈ l) (k : Nat) : s.sameRegsBut l (t.bump f k) := fun g hg =>
  (State.get_bump_other t f g k (hg f hf)).trans (h g hg)
theorem sameRegsBut_putBit {f : Field} (h : s.sameRegsBut l t) (hf : f ∈ l) (i : Nat) (b : Bool) :
    s.sameRegsBut l (t.putBit f i b) := fun g hg => by
  rw [State.get, State.putBit_regs, getF_setF_other _ _ _ _ (hg f hf)]
  exact h g hg
theorem sameRegsBut_setFlt (h : s.sameRegsBut l t) (x : Flt) : s.sameRegsBut l (t.setFlt x) := h
theorem sameRegsBut_setPair {lo hi : Field} (h : s.sameRegsBut l t) (hlo : lo ∈ l) (hhi : hi ∈ l) (i : Nat) (b : Bool) :
    s.sameRegsBut l (t.setPair lo hi i b) := by
  unfold State.setPair
  split
  · exact sameRegsBut_putBit h hlo _ _
  · exact sameRegsBut_putBit h hhi _ _

theorem State.get_bump_same (s : State) (f : Field) (k : Nat) : (s.bump f k).get f = satAdd (2 ^ f.width - 1) (s.get f) k := by
  rw [State.bump_eq, State.get_put_same, Nat.mod_eq_of_lt]
  have := Nat.two_pow_pos f.width
  unfold satAdd
  split <;> omega

/-- A bit set inside its field reads back. -/
theorem State.getBit_putBit_true (s : State) (f : Field) {i : Nat} (h : i < f.width) : (s.putBit f i true).getBit f i = true := by
  simp [State.getBit, State.putBit_eq, bit, setBit, Nat.testBit_mod_two_pow, Nat.testBit_or, Nat.testBit_shiftLeft, h]

/-- A bit set in a pair of fields of 32 and `hi.width` bits reads back. -/
theorem State.pairBit_setPair_true (s : State) {lo hi : Field} {i : Nat} (hlo : lo.width = 32) (h : i < 32 + hi.width) :
    (s.setPair lo hi i true).pairBit lo hi i = true := by
  unfold State.setPair State.pairBit
  split
  · exact State.getBit_putBit_true s lo (by omega)
  · exact State.getBit_putBit_true s hi (by omega)

theorem State.pairBit_congr {lo hi : Field} (hlo : t.get lo = s.get lo) (hhi : t.get hi = s.get hi) (i : Nat) :
    t.pairBit lo hi i = s.pairBit lo hi i := by
  rw [State.pairBit, State.getBit, State.getBit, hlo, hhi]
  rfl

@[simp] theorem State.setPair_keeps (s : State) (lo hi : Field) (i : Nat) (b : Bool) :
    (s.setPair lo hi i b).turn = s.turn ∧ (s.setPair lo hi i b).active = s.active ∧ (s.setPair lo hi i b).flt = s.flt ∧
    (s.setPair lo hi i b).evOut = s.evOut := by
  unfold State.setPair
  split <;> cases b <;> exact ⟨rfl, rfl, rfl, rfl⟩
@[simp] theorem State.putB_keeps (s : State) (f : Field) (b : Bool) :
    (s.putB f b).turn = s.turn ∧ (s.putB f b).active = s.active ∧ (s.putB f b).flt = s.flt ∧ (s.putB f b).evOut = s.evOut := by
  cases b <;> exact ⟨rfl, rfl, rfl, rfl⟩

/-! ### Latch and capture (R296, R297) -/

/-- A Turn and an fc written into the three fields of a capture. -/
def State.capture (s : State) (lo hi fc : Field) (t n : Nat) : State := ((s.put lo t).put hi (t / 2 ^ 32)).put fc n

/-- The three fields can hold a Turn and an fc, and are different ones. -/
def captures (lo hi fc : Field) : Prop :=
  lo.width = 32 ∧ hi.width = 16 ∧ fc.width = 12 ∧ lo.key ≠ hi.key ∧ lo.key ≠ fc.key ∧ hi.key ≠ fc.key

theorem sameRegsBut_capture {lo hi fc : Field} (h : s.sameRegsBut l t) (hlo : lo ∈ l) (hhi : hi ∈ l) (hfc : fc ∈ l) (a n : Nat) :
    s.sameRegsBut l (t.capture lo hi fc a n) := sameRegsBut_put (sameRegsBut_put (sameRegsBut_put h hlo _) hhi _) hfc _

theorem State.capturedAt_capture (s : State) {lo hi fc : Field} (h : captures lo hi fc) (a : TurnNo) {n : Nat} (hn : n < 3072) :
    (s.capture lo hi fc a.toNat n).capturedAt lo hi fc a n := by
  obtain ⟨wlo, whi, wfc, hlh, hlf, hhf⟩ := h
  have ha : a.toNat < 2 ^ 48 := a.isLt
  constructor
  · simp only [State.capture, State.get_put_other _ _ _ _ hlf, State.get_put_other _ _ _ _ hhf, State.get_put_other _ _ _ _ hlh,
      State.get_put_same, wlo, whi]
    omega
  · rw [State.capture, State.get_put_same, wfc]
    omega

theorem State.capturedAt_congr {lo hi fc : Field} (hlo : t.get lo = s.get lo) (hhi : t.get hi = s.get hi) (hfc : t.get fc = s.get fc)
    {a : TurnNo} {n : Nat} (h : s.capturedAt lo hi fc a n) : t.capturedAt lo hi fc a n := by
  unfold State.capturedAt
  rw [hlo, hhi, hfc]
  exact h

end

/-! ### The fields of a source -/

/-- The keys of a source's own fields rise by 64 bytes from one source to the next (Table 12.14). -/
@[simp] theorem srcKeys (i : Nat) :
    (F.FLT_SRC_FIRST_LO_TURN i).key = 2048 * i + 0x91010 * 32 ∧ (F.FLT_SRC_FIRST_HI_TURN i).key = 2048 * i + 0x91014 * 32 ∧
    (F.FLT_SRC_FIRST_HI_FC i).key = 2048 * i + (0x91014 * 32 + 16) ∧ (F.FLT_SRC_LAST_LO_TURN i).key = 2048 * i + 0x91018 * 32 ∧
    (F.FLT_SRC_LAST_HI_TURN i).key = 2048 * i + 0x9101c * 32 ∧ (F.FLT_SRC_LAST_HI_FC i).key = 2048 * i + (0x9101c * 32 + 16) ∧
    (F.FLT_SRC_COUNT_COUNT i).key = 2048 * i + 0x91020 * 32 ∧ (F.FLT_SRC_COUNT_WINDOW i).key = 2048 * i + (0x91020 * 32 + 16) ∧
    (F.FLT_SRC_COUNT_OPEN i).key = 2048 * i + (0x91020 * 32 + 24) := by
  simp only [Field.key, F.FLT_SRC_FIRST_LO_TURN, F.FLT_SRC_FIRST_HI_TURN, F.FLT_SRC_FIRST_HI_FC, F.FLT_SRC_LAST_LO_TURN,
    F.FLT_SRC_LAST_HI_TURN, F.FLT_SRC_LAST_HI_FC, F.FLT_SRC_COUNT_COUNT, F.FLT_SRC_COUNT_WINDOW, F.FLT_SRC_COUNT_OPEN]
  omega
@[simp] theorem statusKeys :
    F.FLT_STATUS_LO_STATUS.key = 0x90000 * 32 ∧ F.FLT_STATUS_HI_STATUS.key = 0x90004 * 32 ∧
    F.FLT_SEVERE_LO_SEVERE.key = 0x90010 * 32 ∧ F.FLT_SEVERE_HI_SEVERE.key = 0x90014 * 32 := ⟨rfl, rfl, rfl, rfl⟩

/-- The capture of a source's first event. -/
def firstFields (i : Nat) : List Field := [F.FLT_SRC_FIRST_LO_TURN i, F.FLT_SRC_FIRST_HI_TURN i, F.FLT_SRC_FIRST_HI_FC i]

/-- The capture of a source's last event. -/
def lastFields (i : Nat) : List Field := [F.FLT_SRC_LAST_LO_TURN i, F.FLT_SRC_LAST_HI_TURN i, F.FLT_SRC_LAST_HI_FC i]

/-- What latching an event writes. -/
def latchFields (i : Nat) : List Field :=
  firstFields i ++ lastFields i ++ [F.FLT_SRC_COUNT_COUNT i, F.FLT_STATUS_LO_STATUS, F.FLT_STATUS_HI_STATUS]

/-- What classifying an event writes. -/
def classFields (i : Nat) : List Field :=
  [F.FLT_SRC_COUNT_OPEN i, F.FLT_SRC_COUNT_WINDOW i, F.FLT_SEVERE_LO_SEVERE, F.FLT_SEVERE_HI_SEVERE]

/-- What carrying out reactions writes. -/
def reactFields : List Field :=
  [F.FLT_IRQ_LO_IRQ, F.FLT_IRQ_HI_IRQ, F.HIF_TRAP_PENDING, F.HIF_TRAP_PIN, F.HIF_TRAP_COUNT, F.FLT_PIN_LO_PIN, F.FLT_PIN_HI_PIN,
   F.FLT_ALIVE_STOPPED, F.FLT_ALIVE_STOPS, F.FLT_RESET_SUPPRESSED] ++ reportFields

theorem captures_first (i : Nat) : captures (F.FLT_SRC_FIRST_LO_TURN i) (F.FLT_SRC_FIRST_HI_TURN i) (F.FLT_SRC_FIRST_HI_FC i) :=
  ⟨rfl, rfl, rfl, by simp, by simp, by simp⟩
theorem captures_last (i : Nat) : captures (F.FLT_SRC_LAST_LO_TURN i) (F.FLT_SRC_LAST_HI_TURN i) (F.FLT_SRC_LAST_HI_FC i) :=
  ⟨rfl, rfl, rfl, by simp, by simp, by simp⟩

/-- Every field that reactions write lies below the sources' own fields, and none is a bit of STATUS or SEVERE. -/
theorem reactFields_keys : ∀ f ∈ reactFields, f.key < 0x91000 * 32 ∧
    f.key ∉ [0x90000 * 32, 0x90004 * 32, 0x90010 * 32, 0x90014 * 32] := by decide

theorem srcFields_apart_react (i : Nat) : ∀ g ∈ latchFields i ++ classFields i, ∀ f ∈ reactFields, g.key ≠ f.key := fun g hg f hf => by
  obtain ⟨hlt, hne⟩ := reactFields_keys f hf
  simp only [List.mem_cons, List.not_mem_nil, not_or, or_false] at hne
  revert g
  simp only [latchFields, firstFields, lastFields, classFields, List.cons_append, List.nil_append, List.forall_mem_cons,
    List.not_mem_nil, false_implies, implies_true, and_true, srcKeys, statusKeys]
  omega
theorem latchFields_apart_class (i : Nat) : ∀ g ∈ latchFields i, ∀ f ∈ classFields i, g.key ≠ f.key := by
  simp only [latchFields, firstFields, lastFields, classFields, List.cons_append, List.nil_append, List.forall_mem_cons,
    List.not_mem_nil, false_implies, implies_true, and_true, srcKeys, statusKeys]
  omega

/-! ### Latching an event (R296, R297) -/

/-- FIRST captured, while the status bit is clear. -/
def State.latchFirst (s : State) (i : Nat) : State :=
  if s.fltStatus i then s
  else
    let u := s.setFlt { s.flt with latchAt := some s.now }
    u.capture (F.FLT_SRC_FIRST_LO_TURN i) (F.FLT_SRC_FIRST_HI_TURN i) (F.FLT_SRC_FIRST_HI_FC i) s.turn.toNat u.fc

/-- LAST captured, after FIRST. -/
def State.latchLast (s : State) (i : Nat) : State :=
  (s.latchFirst i).capture (F.FLT_SRC_LAST_LO_TURN i) (F.FLT_SRC_LAST_HI_TURN i) (F.FLT_SRC_LAST_HI_FC i) s.turn.toNat (s.latchFirst i).fc

theorem State.latchSrc_eq (s : State) (i : Nat) : s.latchSrc i =
    ((s.latchLast i).bump (F.FLT_SRC_COUNT_COUNT i) 1).setPair F.FLT_STATUS_LO_STATUS F.FLT_STATUS_HI_STATUS i true := rfl

/-- Capturing FIRST leaves the time, the Plan, the windows and the events on their way as they are. -/
theorem State.latchFirst_keeps (s : State) (i : Nat) : (s.latchFirst i).turn = s.turn ∧ (s.latchFirst i).active = s.active ∧
    (s.latchFirst i).flt.winStart = s.flt.winStart ∧ (s.latchFirst i).evOut = s.evOut ∧ (s.latchFirst i).fc = s.fc := by
  unfold State.latchFirst
  split <;> exact ⟨rfl, rfl, rfl, rfl, rfl⟩

/-- So does latching. -/
theorem State.latchSrc_keeps (s : State) (i : Nat) : (s.latchSrc i).turn = s.turn ∧ (s.latchSrc i).active = s.active ∧
    (s.latchSrc i).flt.winStart = s.flt.winStart ∧ (s.latchSrc i).evOut = s.evOut := by
  obtain ⟨hturn, hact, hwin, hev, -⟩ := s.latchFirst_keeps i
  simp only [State.latchSrc_eq, State.setPair_keeps, State.bump_eq, State.latchLast, State.capture, State.put_fields, State.note_fields]
  exact ⟨hturn, hact, hwin, hev⟩

theorem State.latchFirst_regs (s : State) (i : Nat) : s.sameRegsBut (firstFields i) (s.latchFirst i) := by
  unfold State.latchFirst
  split
  · exact sameRegsBut_refl
  · exact sameRegsBut_capture (t := s.setFlt _) sameRegsBut_refl (by simp [firstFields]) (by simp [firstFields]) (by simp [firstFields]) _ _

theorem State.latchLast_regs (s : State) (i : Nat) : (s.latchFirst i).sameRegsBut (lastFields i) (s.latchLast i) :=
  sameRegsBut_capture sameRegsBut_refl (by simp [lastFields]) (by simp [lastFields]) (by simp [lastFields]) _ _

theorem State.latchSrc_regs_last (s : State) (i : Nat) :
    (s.latchLast i).sameRegsBut [F.FLT_SRC_COUNT_COUNT i, F.FLT_STATUS_LO_STATUS, F.FLT_STATUS_HI_STATUS] (s.latchSrc i) :=
  sameRegsBut_setPair (sameRegsBut_bump sameRegsBut_refl (by simp) 1) (by simp) (by simp) _ _

/-- After FIRST, latching writes no field of it. -/
theorem State.latchSrc_regs_first (s : State) (i : Nat) :
    ∀ f ∈ firstFields i, (s.latchSrc i).get f = (s.latchFirst i).get f := by
  have hrest := sameRegsBut_trans
    (sameRegsBut_mono (m := lastFields i ++ [F.FLT_SRC_COUNT_COUNT i, F.FLT_STATUS_LO_STATUS, F.FLT_STATUS_HI_STATUS])
      (s.latchLast_regs i) fun _ => List.mem_append_left _)
    (sameRegsBut_mono (s.latchSrc_regs_last i) fun _ => List.mem_append_right _)
  intro f hf
  refine hrest f ?_
  revert f
  simp [firstFields, lastFields]

/-- The status bit is set; LAST holds the present time; FIRST takes it when the bit was clear, and else stays; COUNT counts one. -/
theorem State.latchSrc_spec (s : State) {i : Nat} (hi : i < 47) (hfc : s.fc < 3072) :
    let t := s.latchSrc i
    t.fltStatus i = true ∧
    t.capturedAt (F.FLT_SRC_LAST_LO_TURN i) (F.FLT_SRC_LAST_HI_TURN i) (F.FLT_SRC_LAST_HI_FC i) s.turn s.fc ∧
    (s.fltStatus i = false →
      t.capturedAt (F.FLT_SRC_FIRST_LO_TURN i) (F.FLT_SRC_FIRST_HI_TURN i) (F.FLT_SRC_FIRST_HI_FC i) s.turn s.fc) ∧
    (s.fltStatus i = true → ∀ f ∈ firstFields i, t.get f = s.get f) ∧
    t.get (F.FLT_SRC_COUNT_COUNT i) = satAdd 65535 (s.get (F.FLT_SRC_COUNT_COUNT i)) 1 := by
  obtain ⟨-, -, -, -, hfirstfc⟩ := s.latchFirst_keeps i
  refine ⟨State.pairBit_setPair_true _ rfl hi, ?_, fun hclear => ?_, fun hset f hf => ?_, ?_⟩
  · have hc : (s.latchLast i).capturedAt (F.FLT_SRC_LAST_LO_TURN i) (F.FLT_SRC_LAST_HI_TURN i) (F.FLT_SRC_LAST_HI_FC i) s.turn s.fc := by
      rw [State.latchLast, hfirstfc]
      exact State.capturedAt_capture _ (captures_last i) s.turn hfc
    have hsame := s.latchSrc_regs_last i
    exact State.capturedAt_congr (hsame _ (by simp)) (hsame _ (by simp)) (hsame _ (by simp)) hc
  · have hc : (s.latchFirst i).capturedAt (F.FLT_SRC_FIRST_LO_TURN i) (F.FLT_SRC_FIRST_HI_TURN i) (F.FLT_SRC_FIRST_HI_FC i) s.turn s.fc := by
      rw [State.latchFirst, if_neg (by simp [hclear])]
      exact State.capturedAt_capture _ (captures_first i) s.turn hfc
    have hsame := s.latchSrc_regs_first i
    exact State.capturedAt_congr (hsame _ (by simp [firstFields])) (hsame _ (by simp [firstFields])) (hsame _ (by simp [firstFields])) hc
  · rw [s.latchSrc_regs_first i f hf, State.latchFirst, if_pos hset]
  · have hpair : ((s.latchLast i).bump (F.FLT_SRC_COUNT_COUNT i) 1).sameRegsBut [F.FLT_STATUS_LO_STATUS, F.FLT_STATUS_HI_STATUS]
        (s.latchSrc i) := sameRegsBut_setPair sameRegsBut_refl (by simp) (by simp) i true
    rw [hpair _ (by simp), State.get_bump_same, s.latchLast_regs i _ (by simp [lastFields]), s.latchFirst_regs i _ (by simp [firstFields])]
    rfl

theorem State.latchSrc_regs (s : State) (i : Nat) : s.sameRegsBut (latchFields i) (s.latchSrc i) :=
  sameRegsBut_trans (sameRegsBut_trans
    (sameRegsBut_mono (s.latchFirst_regs i) fun _ h => List.mem_append_left _ (List.mem_append_left _ h))
    (sameRegsBut_mono (s.latchLast_regs i) fun _ h => List.mem_append_left _ (List.mem_append_right _ h)))
    (sameRegsBut_mono (s.latchSrc_regs_last i) fun _ => List.mem_append_right _)

/-! ### Classifying an event (R298) -/

/-- The events of the source's window with the present one: 1 when the window is over and a new one opens. -/
def State.windowCount (s : State) (i : Nat) : Nat := if s.windowOver i then 1 else satAdd 255 (s.get (F.FLT_SRC_COUNT_WINDOW i)) 1

/-- The state in which a window that is over has closed. -/
def State.windowClosed (s : State) (i : Nat) : State := if s.windowOver i then s.closeWindow i else s

/-- The state in which a window is open. -/
def State.windowOpened (s : State) (i : Nat) : State :=
  let u := s.windowClosed i
  if u.flag (F.FLT_SRC_COUNT_OPEN i) then u
  else (u.putB (F.FLT_SRC_COUNT_OPEN i) true).setFlt { u.flt with winStart := sparseInsert u.flt.winStart i u.turn.toNat }

/-- The state in which the open window has counted the event. -/
def State.windowCounted (s : State) (i : Nat) : State := (s.windowOpened i).bump (F.FLT_SRC_COUNT_WINDOW i) 1

theorem State.classify_eq (s : State) (i : Nat) :
    let u := s.windowCounted i
    s.classify i = (if u.act (F.FLT_SRC_CLASS_N i) ≤ u.get (F.FLT_SRC_COUNT_WINDOW i) then
        u.setPair F.FLT_SEVERE_LO_SEVERE F.FLT_SEVERE_HI_SEVERE i true else u,
      decide (u.act (F.FLT_SRC_CLASS_N i) ≤ u.get (F.FLT_SRC_COUNT_WINDOW i))) := rfl

theorem State.windowClosed_spec (s : State) (i : Nat) :
    (s.windowClosed i).get (F.FLT_SRC_COUNT_WINDOW i) = (if s.windowOver i then 0 else s.get (F.FLT_SRC_COUNT_WINDOW i)) ∧
    s.sameRegsBut (classFields i) (s.windowClosed i) ∧ (s.windowClosed i).active = s.active ∧ (s.windowClosed i).evOut = s.evOut := by
  unfold State.windowClosed
  split
  · unfold State.closeWindow
    refine ⟨by simp, ?_, by simp, by simp⟩
    exact sameRegsBut_setFlt (sameRegsBut_put (sameRegsBut_putB sameRegsBut_refl (by simp [classFields]) _) (by simp [classFields]) _) _
  · exact ⟨rfl, sameRegsBut_refl, rfl, rfl⟩

theorem State.windowOpened_spec (s : State) (i : Nat) :
    (s.windowOpened i).flag (F.FLT_SRC_COUNT_OPEN i) = true ∧
    (s.windowOpened i).get (F.FLT_SRC_COUNT_WINDOW i) = (s.windowClosed i).get (F.FLT_SRC_COUNT_WINDOW i) ∧
    s.sameRegsBut (classFields i) (s.windowOpened i) ∧ (s.windowOpened i).active = s.active ∧ (s.windowOpened i).evOut = s.evOut := by
  obtain ⟨-, hregs, hact, hev⟩ := s.windowClosed_spec i
  unfold State.windowOpened
  extract_lets u
  split
  next hopen => exact ⟨hopen, rfl, hregs, hact, hev⟩
  · refine ⟨?_, ?_, ?_, ?_, ?_⟩
    · rw [State.flag_eq, State.setFlt_get]
      exact State.flag_putB_same u _ true rfl
    · rw [State.setFlt_get, State.get_putB_other _ _ _ _ (by simp)]
    · exact sameRegsBut_setFlt (sameRegsBut_putB hregs (by simp [classFields]) true) _
    · rw [(State.setFlt_fields _ _).2.2.2.2.2.2.1, (State.putB_keeps u _ _).2.1]
      exact hact
    · simp only [State.setFlt_fields, State.putB_keeps]
      exact hev

theorem State.windowCounted_spec (s : State) (i : Nat) :
    (s.windowCounted i).flag (F.FLT_SRC_COUNT_OPEN i) = true ∧ (s.windowCounted i).get (F.FLT_SRC_COUNT_WINDOW i) = s.windowCount i ∧
    s.sameRegsBut (classFields i) (s.windowCounted i) ∧ (s.windowCounted i).active = s.active ∧ (s.windowCounted i).evOut = s.evOut := by
  obtain ⟨hopen, hwindow, hregs, hact, hev⟩ := s.windowOpened_spec i
  unfold State.windowCounted
  refine ⟨?_, ?_, sameRegsBut_bump hregs (by simp [classFields]) 1, ?_, ?_⟩
  · rw [State.flag_eq, State.get_bump_other _ _ _ _ (by simp)]
    exact hopen
  · rw [State.get_bump_same, hwindow, (s.windowClosed_spec i).1, State.windowCount]
    cases s.windowOver i <;> rfl
  · simpa only [State.bump_eq, State.put_fields, State.note_fields] using hact
  · simpa only [State.bump_eq, State.put_fields, State.note_fields] using hev

/-- The event's window is open and counts it; it is severe from the N-th on. -/
theorem State.classify_spec (s : State) {i : Nat} (hi : i < 47) :
    let t := (s.classify i).1
    let severe := s.act (F.FLT_SRC_CLASS_N i) ≤ s.windowCount i
    (s.classify i).2 = decide severe ∧
    t.flag (F.FLT_SRC_COUNT_OPEN i) = true ∧ t.get (F.FLT_SRC_COUNT_WINDOW i) = s.windowCount i ∧
    (severe → t.pairBit F.FLT_SEVERE_LO_SEVERE F.FLT_SEVERE_HI_SEVERE i = true) ∧
    s.sameRegsBut (classFields i) t ∧ t.evOut = s.evOut := by
  obtain ⟨hopen, hwindow, hregs, hact, hev⟩ := s.windowCounted_spec i
  have hn : (s.windowCounted i).act (F.FLT_SRC_CLASS_N i) = s.act (F.FLT_SRC_CLASS_N i) := by rw [State.act, hact, State.act]
  rw [State.classify_eq, hn, hwindow]
  intro t severe
  refine ⟨rfl, ?_⟩
  by_cases h : severe
  · have ht : t = (s.windowCounted i).setPair F.FLT_SEVERE_LO_SEVERE F.FLT_SEVERE_HI_SEVERE i true := if_pos h
    have hpair : (s.windowCounted i).sameRegsBut [F.FLT_SEVERE_LO_SEVERE, F.FLT_SEVERE_HI_SEVERE] t := by
      rw [ht]
      exact sameRegsBut_setPair sameRegsBut_refl (by simp) (by simp) i true
    refine ⟨?_, ?_, fun _ => ?_, sameRegsBut_trans hregs (sameRegsBut_mono hpair (by simp [classFields])), ?_⟩
    · rw [State.flag_eq, hpair _ (by simp)]
      exact hopen
    · rw [hpair _ (by simp)]
      exact hwindow
    · rw [ht]
      exact State.pairBit_setPair_true _ rfl hi
    · rw [ht, (State.setPair_keeps ..).2.2.2]
      exact hev
  · have ht : t = s.windowCounted i := if_neg h
    rw [ht]
    exact ⟨hopen, hwindow, fun hs => absurd hs h, hregs, hev⟩

/-! ### Reactions (R300) -/

/-- `t` reads as `s` but for what reactions write, and the recorder is sent nothing. -/
def State.reacted (s t : State) : Prop := s.sameRegsBut reactFields t ∧ t.evOut = s.evOut

section
variable {s t u : State}

theorem State.reacted_refl : s.reacted s := ⟨sameRegsBut_refl, rfl⟩
theorem State.reacted_trans (h : s.reacted t) (g : t.reacted u) : s.reacted u := ⟨sameRegsBut_trans h.1 g.1, g.2.trans h.2⟩
theorem State.reacted_ite {c : Prop} [Decidable c] (h : s.reacted t) (g : s.reacted u) : s.reacted (if c then t else u) := by
  split
  · exact h
  · exact g
theorem State.reacted_putB {f : Field} (hf : f ∈ reactFields) (b : Bool) : s.reacted (s.putB f b) :=
  ⟨sameRegsBut_putB sameRegsBut_refl hf b, (State.putB_keeps s f b).2.2.2⟩
theorem State.reacted_bump {f : Field} (hf : f ∈ reactFields) (k : Nat) : s.reacted (s.bump f k) :=
  ⟨sameRegsBut_bump sameRegsBut_refl hf k, rfl⟩
theorem State.reacted_setPair {lo hi : Field} (hlo : lo ∈ reactFields) (hhi : hi ∈ reactFields) (i : Nat) (b : Bool) :
    s.reacted (s.setPair lo hi i b) :=
  ⟨sameRegsBut_setPair sameRegsBut_refl hlo hhi i b, (State.setPair_keeps s lo hi i b).2.2.2⟩
theorem State.reacted_setFlt (x : Flt) : s.reacted (s.setFlt x) := ⟨sameRegsBut_refl, rfl⟩
theorem State.reacted_each {α : Type} {f : State → α → State} (l : List α) (h : ∀ t a, State.reacted t (f t a)) :
    s.reacted (s.each l f) := by
  induction l generalizing s with
  | nil => exact State.reacted_refl
  | cons a l ih => exact State.reacted_trans (h s a) ih

theorem State.sendVec_evOut (s : State) (v : Nat) : (s.sendVec v).evOut = s.evOut := by
  unfold State.sendVec
  split
  · rfl
  · split <;> rfl
theorem State.irq_evOut (s : State) (k : Nat) : (s.irq k).evOut = s.evOut := by
  unfold State.irq
  extract_lets m en vec
  split
  · rfl
  · exact State.sendVec_evOut s vec

theorem State.reacted_sendVec {v : Nat} (hv : v < 64) : s.reacted (s.sendVec v) :=
  ⟨sameRegsBut_mono (told_sendVec (l := []) hv).1 fun _ => List.mem_append_right _, State.sendVec_evOut s v⟩
theorem State.reacted_irq (k : Nat) : s.reacted (s.irq k) :=
  ⟨sameRegsBut_mono (told_irq (l := []) k).1 fun _ => List.mem_append_right _, State.irq_evOut s k⟩

theorem State.reactIrq_reacted (l : List Nat) : s.reacted (s.reactIrq l) := by
  have hbits := State.reacted_each (s := s) l fun t i =>
    t.reacted_setPair (lo := F.FLT_IRQ_LO_IRQ) (hi := F.FLT_IRQ_HI_IRQ) (by simp [reactFields]) (by simp [reactFields]) i true
  exact State.reacted_ite State.reacted_refl (State.reacted_ite hbits (State.reacted_trans hbits (State.reacted_irq 0)))

theorem State.trap_reacted : s.reacted s.trap :=
  State.reacted_trans (State.reacted_putB (by simp [reactFields]) true) <|
  State.reacted_trans (State.reacted_putB (by simp [reactFields]) true) <|
  State.reacted_trans (State.reacted_bump (by simp [reactFields]) 1) (State.reacted_sendVec (by decide))

theorem State.reactPin_reacted (l : List Nat) : s.reacted (s.reactPin l) := by
  have hbits := State.reacted_each (s := s) l fun t i =>
    t.reacted_setPair (lo := F.FLT_PIN_LO_PIN) (hi := F.FLT_PIN_HI_PIN) (by simp [reactFields]) (by simp [reactFields]) i true
  exact State.reacted_ite State.reacted_refl <| State.reacted_ite hbits <| State.reacted_trans hbits <|
    State.reacted_trans (State.reacted_putB (by simp [reactFields]) true) (State.reacted_bump (by simp [reactFields]) 1)

theorem State.reactChip_reacted (l : List Nat) : s.reacted (s.reactChip l) := by
  unfold State.reactChip
  split
  · exact State.reacted_refl
  · exact State.reacted_ite State.reacted_refl <| State.reacted_ite
      (State.reacted_trans (State.reacted_bump (by simp [reactFields]) 1) (State.reacted_setFlt _)) (State.reacted_setFlt _)

theorem State.reactBlock_reacted (l : List Nat) : s.reacted (s.reactBlock l) :=
  State.reacted_each _ fun _ _ => State.reacted_ite State.reacted_refl (State.reacted_setFlt _)

/-- Carrying out reactions writes the fields of the reactions alone. -/
theorem State.react_reacted (rs : List (Nat × Nat)) : s.reacted (s.react rs) := by
  unfold State.react
  extract_lets s1 s2 s3 chip s4
  have h1 : s.reacted s1 := State.reactIrq_reacted _
  have h2 : s1.reacted s2 := State.reacted_ite State.reacted_refl State.trap_reacted
  have h3 : s2.reacted s3 := State.reactPin_reacted _
  have h4 : s3.reacted s4 := State.reactChip_reacted _
  have h : s.reacted s4 := State.reacted_trans h1 (State.reacted_trans h2 (State.reacted_trans h3 h4))
  exact State.reacted_ite h (State.reacted_trans h (State.reactBlock_reacted _))

end

/-! ### The command -/

/-- Taking an event latches and classifies it, and sends its record unless the recorder is its source (R326). -/
theorem State.takeEvent_spec (s : State) (i : Nat) :
    let c := (s.latchSrc i).classify i
    (s.takeEvent i).1.regs = c.1.regs ∧
    (i ≠ 33 → i ≠ 34 → ∃ p, (s.takeEvent i).1.evOut = c.1.evOut ++ [⟨0x10 + i, if c.2 then 5 else 4, srcUnit i, p⟩]) := by
  intro c
  have ht : (s.takeEvent i).1 = if i = 33 ∨ i = 34 then c.1 else c.1.emit (0x10 + i) (if c.2 then 5 else 4) (srcUnit i)
      (leBytes i 1 ++ leBytes (b2n c.2) 1 ++ leBytes (c.1.get (F.FLT_SRC_COUNT_WINDOW i)) 1 ++
        leBytes (c.1.get (F.FLT_SRC_COUNT_COUNT i)) 2) := rfl
  rw [ht]
  clear_value c
  split
  next h => exact ⟨rfl, fun h33 h34 => absurd h (not_or.2 ⟨h33, h34⟩)⟩
  · simp only [State.emit_fields]
    exact ⟨trivial, fun _ _ => ⟨_, rfl⟩⟩

/-- The count and the class of an event do not depend on its having been latched. -/
theorem State.latchSrc_windowCount (s : State) (i : Nat) :
    (s.latchSrc i).windowCount i = s.windowCount i ∧ (s.latchSrc i).act (F.FLT_SRC_CLASS_N i) = s.act (F.FLT_SRC_CLASS_N i) := by
  obtain ⟨hturn, hact, hwin, -⟩ := s.latchSrc_keeps i
  have hclass : ∀ g ∈ classFields i, (s.latchSrc i).get g = s.get g := fun g hg =>
    s.latchSrc_regs i g fun f hf => (latchFields_apart_class i f hf g hg).symm
  have hover : (s.latchSrc i).windowOver i = s.windowOver i := by
    rw [State.windowOver, State.flag_eq, hclass _ (by simp [classFields]), State.act, hturn, hact, hwin]
    rfl
  refine ⟨?_, by rw [State.act, hact, State.act]⟩
  rw [State.windowCount, hover, hclass _ (by simp [classFields]), State.windowCount]

/-- A taken event, its reactions carried out (R296 to R298): reactions and classifying leave what has been latched, and reactions leave the
event's class. -/
theorem State.takeEvent_react_spec (s : State) {i : Nat} (hi : i < 47) (hfc : s.fc < 3072) (rs : List (Nat × Nat)) :
    let t := (s.takeEvent i).1.react rs
    let severe := s.act (F.FLT_SRC_CLASS_N i) ≤ s.windowCount i
    t.fltStatus i = true ∧
    t.capturedAt (F.FLT_SRC_LAST_LO_TURN i) (F.FLT_SRC_LAST_HI_TURN i) (F.FLT_SRC_LAST_HI_FC i) s.turn s.fc ∧
    (s.fltStatus i = false →
      t.capturedAt (F.FLT_SRC_FIRST_LO_TURN i) (F.FLT_SRC_FIRST_HI_TURN i) (F.FLT_SRC_FIRST_HI_FC i) s.turn s.fc) ∧
    (s.fltStatus i = true → ∀ f ∈ firstFields i, t.get f = s.get f) ∧
    t.get (F.FLT_SRC_COUNT_COUNT i) = satAdd 65535 (s.get (F.FLT_SRC_COUNT_COUNT i)) 1 ∧
    t.flag (F.FLT_SRC_COUNT_OPEN i) = true ∧ t.get (F.FLT_SRC_COUNT_WINDOW i) = s.windowCount i ∧
    (severe → t.pairBit F.FLT_SEVERE_LO_SEVERE F.FLT_SEVERE_HI_SEVERE i = true) ∧
    (i ≠ 33 → i ≠ 34 → ∃ p, t.evOut = s.evOut ++ [⟨0x10 + i, if severe then 5 else 4, srcUnit i, p⟩]) := by
  intro t severe
  obtain ⟨-, -, -, hlev⟩ := s.latchSrc_keeps i
  obtain ⟨hstatus, hlast, hfirst, hkept, hcount⟩ := s.latchSrc_spec hi hfc
  obtain ⟨hsev, hopen, hwindow, hpair, hcregs, hcev⟩ := (s.latchSrc i).classify_spec hi
  obtain ⟨hwc, hn⟩ := s.latchSrc_windowCount i
  rw [hwc, hn] at hsev hpair
  rw [hwc] at hwindow
  obtain ⟨htregs, htev⟩ := s.takeEvent_spec i
  obtain ⟨hrregs, hrev⟩ : (s.takeEvent i).1.reacted t := State.react_reacted rs
  have hclass : ∀ g ∈ classFields i, t.get g = ((s.latchSrc i).classify i).1.get g := fun g hg => by
    rw [hrregs g (srcFields_apart_react i g (List.mem_append_right _ hg)), State.get, htregs, State.get]
  have hlatch : ∀ g ∈ latchFields i, t.get g = (s.latchSrc i).get g := fun g hg => by
    rw [hrregs g (srcFields_apart_react i g (List.mem_append_left _ hg)), State.get, htregs]
    exact hcregs g (latchFields_apart_class i g hg)
  have hlatchFirst : ∀ g ∈ firstFields i, t.get g = (s.latchSrc i).get g := fun g hg =>
    hlatch g (List.mem_append_left _ (List.mem_append_left _ hg))
  have hlatchLast : ∀ g ∈ lastFields i, t.get g = (s.latchSrc i).get g := fun g hg =>
    hlatch g (List.mem_append_left _ (List.mem_append_right _ hg))
  refine ⟨?_, ?_, fun hclear => ?_, fun hset f hf => ?_, ?_, ?_, ?_, fun hs => ?_, fun h33 h34 => ?_⟩
  · rw [State.fltStatus, State.pairBit_congr (hlatch _ (by simp [latchFields])) (hlatch _ (by simp [latchFields]))]
    exact hstatus
  · exact State.capturedAt_congr (hlatchLast _ (by simp [lastFields])) (hlatchLast _ (by simp [lastFields]))
      (hlatchLast _ (by simp [lastFields])) hlast
  · exact State.capturedAt_congr (hlatchFirst _ (by simp [firstFields])) (hlatchFirst _ (by simp [firstFields]))
      (hlatchFirst _ (by simp [firstFields])) (hfirst hclear)
  · exact (hlatchFirst f hf).trans (hkept hset f hf)
  · exact (hlatch _ (by simp [latchFields])).trans hcount
  · rw [State.flag_eq, hclass _ (by simp [classFields])]
    exact hopen
  · exact (hclass _ (by simp [classFields])).trans hwindow
  · rw [State.pairBit_congr (hclass _ (by simp [classFields])) (hclass _ (by simp [classFields]))]
    exact hpair hs
  · obtain ⟨p, hp⟩ := htev h33 h34
    refine ⟨p, ?_⟩
    rw [hrev, hp, hcev, hlev, hsev]
    simp only [severe, decide_eq_true_eq]

/-- A number occurs once below `n`, or not at all. -/
theorem filter_range_eq (n i : Nat) : (List.range n).filter (· == i) = if i < n then [i] else [] := by
  induction n with
  | zero => rfl
  | succ n ih =>
    rw [List.range_succ, List.filter_append, ih]
    by_cases h : n = i
    · subst h
      rw [if_neg (Nat.lt_irrefl n), if_pos (Nat.lt_succ_self n), List.filter_cons_of_pos (p := (· == n)) (beq_self_eq_true n)]
      rfl
    · rw [List.filter_cons_of_neg (by simpa only [beq_iff_eq] using h), List.filter_nil, List.append_nil]
      have hlt : i < n + 1 ↔ i < n := by omega
      simp only [hlt]

/-- Of the sources in their order, the one asked for is found, when the other condition holds of it. -/
theorem filter_range_singleton {n i : Nat} (hi : i < n) {p : Nat → Bool} (hp : p i = true) :
    (List.range n).filter (fun j => [i].contains j && p j) = [i] := by
  have hcongr : (List.range n).filter (fun j => [i].contains j && p j) = (List.range n).filter (· == i) :=
    List.filter_congr fun j _ => by
      by_cases h : j = i
      · simp [h, hp]
      · simp [h]
  rw [hcongr, filter_range_eq, if_pos hi]

/-- `s` at `fc`, with the event line of source `i` taken. -/
def State.lineTaken (s : State) (fc i : Nat) : State :=
  { s.at fc with flt := { s.flt with raised := s.flt.raised.filter (· != i) } }

theorem State.lineTaken_reads (s : State) (fc i : Nat) :
    (s.lineTaken fc i).fc = fc % 3072 ∧ (s.lineTaken fc i).turn = s.turn ∧ (s.lineTaken fc i).evOut = s.evOut ∧
    (∀ f, (s.lineTaken fc i).get f = s.get f) ∧ (∀ f, (s.lineTaken fc i).act f = s.act f) ∧
    (∀ j, (s.lineTaken fc i).fltStatus j = s.fltStatus j) ∧ (∀ j, (s.lineTaken fc i).windowCount j = s.windowCount j) :=
  ⟨rfl, rfl, rfl, fun _ => rfl, fun _ => rfl, fun _ => rfl, fun _ => rfl⟩

/-- One raised event: of a block held in reset it is dropped (R295), and else it is taken and its reactions are carried out. -/
theorem execFaultEvent_single (s : State) (fc : Nat) {i : Nat} (hi : i < 47) (hr : i ∈ s.flt.raised) :
    execFaultEvent fc [i] s = .next (if s.srcHeld i then s.lineTaken fc i
      else ((s.lineTaken fc i).takeEvent i).1.react [(i, ((s.lineTaken fc i).takeEvent i).2)]) := by
  have htake := filter_range_singleton hi (p := (s.at fc).flt.raised.contains) (List.contains_iff_mem.2 hr)
  have hraised : s.flt.raised.filter (fun j => !([i] : List Nat).contains j) = s.flt.raised.filter (· != i) :=
    List.filter_congr fun j _ => by
      by_cases h : j = i
      · simp [h]
      · simp [h]
  have hu : (s.at fc).setFlt { (s.at fc).flt with raised := (s.at fc).flt.raised.filter (fun j => !([i] : List Nat).contains j) } =
      s.lineTaken fc i := congrArg (fun l => (s.at fc).setFlt { s.flt with raised := l }) hraised
  have hheld : (s.lineTaken fc i).srcHeld i = s.srcHeld i := rfl
  simp only [execFaultEvent, htake, hu]
  cases h : s.srcHeld i
  · simp [hheld, h, State.takeEvents]
  · simp only [List.filter_cons, List.filter_nil, hheld, h]
    rfl

/-- Settles O19: the event is latched, classified and recorded, and what its reactions write is none of it. -/
theorem anEventIsLatchedCapturedAndClassified : Obligations.AnEventIsLatchedCapturedAndClassified := by
  unfold Obligations.AnEventIsLatchedCapturedAndClassified
  intro s fc i hi hr
  have hexec : exec (.faultEvent fc [i]) s = _ := execFaultEvent_single s fc hi hr
  refine ⟨fun hheld => ?_, fun hheld => ?_⟩
  · rw [hexec, hheld]
    rfl
  · rw [hheld] at hexec
    obtain ⟨hfc, hturn, hev, hget, hact, hstatus, hcount⟩ := s.lineTaken_reads fc i
    have hspec := (s.lineTaken fc i).takeEvent_react_spec hi (hfc ▸ Nat.mod_lt _ (by decide)) [(i, ((s.lineTaken fc i).takeEvent i).2)]
    simp only [hfc, hturn, hev, hget, hact, hstatus, hcount] at hspec
    exact ⟨_, hexec, hspec⟩

end Sys2Proof.Machine
end

/-! PROOFS. A completion that finds the held list full (R224): what losing it changes, for every completion, and O12 as NOP's. -/
section
namespace Sys2Proof.Machine

variable {s : State}

/-! ### Losing a completion (R224) -/

/-- The state in which a completion for ring `sq` and tag `tag` has been lost. -/
def State.loseCpl (s : State) (sq tag : Nat) : State :=
  ((s.bump F.HIF_ORPHAN_LOST 1).emit 0x51 3 1 (leBytes sq 1 ++ leBytes tag 2)).raise 32

theorem State.post_eq_loseCpl (c : Cpl) (hfull : ¬ s.takesCpl c.cq) : s.post c = s.loseCpl c.sq c.tag := by
  obtain ⟨hready, hheld⟩ := not_or.1 hfull
  rw [State.post, if_neg hready, if_neg hheld]
  rfl

/-- A loss is counted, raised and recorded; the link, the held list and the descriptors in flight stay. -/
theorem State.loseCpl_spec (sq tag : Nat) :
    (s.loseCpl sq tag).get F.HIF_ORPHAN_LOST = satAdd 65535 (s.get F.HIF_ORPHAN_LOST) 1 ∧
    (s.loseCpl sq tag).flt.raised = s.flt.raised ++ [32] ∧
    (s.loseCpl sq tag).evOut = s.evOut ++ [⟨0x51, 3, 1, leBytes sq 1 ++ leBytes tag 2⟩] ∧
    (s.loseCpl sq tag).linkOut = s.linkOut ∧ (s.loseCpl sq tag).hif = s.hif ∧
    s.sameRegsBut [F.HIF_ORPHAN_LOST] (s.loseCpl sq tag) := by
  refine ⟨?_, rfl, rfl, rfl, rfl, ?_⟩
  · exact s.get_bump_same F.HIF_ORPHAN_LOST 1
  · exact sameRegsBut_regs (sameRegsBut_bump sameRegsBut_refl List.mem_cons_self 1) rfl

/-! ### Completing a descriptor whose completion is lost (R213, R224) -/

/-- The state with descriptor `k` out of flight, before its completion is posted (R213). -/
def State.landed (s : State) (k : DescKey) : State :=
  s.setHif { s.hif with inflight := s.hif.inflight.filter (fun e => e.key != k) }

theorem State.finishAt_eq_loseCpl {d : Desc} {k : DescKey} (hf : s.findDesc k = some d) (hfull : ¬ s.takesCpl d.cq)
    (st cause res det fl : Nat) (t : TurnNo) (fc : Nat) :
    s.finishAt k st cause res det fl t fc = (s.landed k).loseCpl d.sq d.tag := by
  rw [State.finishAt, hf]
  exact State.post_eq_loseCpl (s := s.landed k) _ hfull

/-- Where no FENCE in flight has started, none completes. -/
theorem State.settleFences_eq_self (hidle : ∀ e ∈ s.hif.inflight, e.opcode = Op.fence → e.started = false) (n : Nat) :
    State.settleFences n s = s := by
  cases n with
  | zero => rfl
  | succ n =>
    have hnone : s.hif.inflight.find? (fun d => d.opcode == 1 && d.started && fenceClear s.hif.inflight d) = none := by
      refine List.find?_eq_none.2 fun e he => ?_
      by_cases hop : e.opcode = Op.fence
      · simp [hidle e he hop]
      · have hop' : e.opcode ≠ 1 := hop
        simp [hop']
    rw [State.settleFences, hnone]

/-- A descriptor whose completion finds no room leaves the flight and its completion is lost; nothing else follows where no FENCE beside
it has started. -/
theorem State.completeAt_eq_loseCpl {d : Desc} {k : DescKey} (hf : s.findDesc k = some d) (hfull : ¬ s.takesCpl d.cq)
    (hidle : ∀ e ∈ s.hif.inflight, e.key ≠ k → e.opcode = Op.fence → e.started = false)
    (st cause res det fl : Nat) (t : TurnNo) (fc : Nat) :
    s.completeAt k st cause res det fl t fc = (s.landed k).loseCpl d.sq d.tag := by
  rw [State.completeAt, State.finishAt_eq_loseCpl hf hfull]
  refine State.settleFences_eq_self (fun e he => ?_) _
  obtain ⟨he, hkey⟩ := List.mem_filter.1 he
  exact hidle e he (bne_iff_ne.1 hkey)

theorem State.findDesc_landed (k : DescKey) : (s.landed k).findDesc k = none :=
  State.findDesc_none.2 fun _ he => (Bool.not_eq_eq_eq_not).1 (List.mem_filter.1 he).2

/-! ### The descriptor that has just started -/

/-- A descriptor that is found is found as well once it has started, and has then started. -/
theorem State.findDesc_started {d : Desc} {k : DescKey} (fc : Nat) (hf : s.findDesc k = some d) :
    (s.started fc k).findDesc k = some { d with started := true } := by
  have hkey : (d.key == k) = true := List.find?_some (p := fun e : Desc => e.key == k) hf
  have hcomp : (fun e : Desc => e.key == k) ∘ (fun e => if e.key == k then { e with started := true } else e) =
      fun e => e.key == k := by
    funext e
    simp only [Function.comp]
    split <;> rfl
  have hf' : s.hif.inflight.find? (fun e => e.key == k) = some d := hf
  simp only [State.findDesc, State.started, List.find?_map, hcomp, hf', Option.map_some, hkey, if_true]

/-- Starting a descriptor starts no other. -/
theorem State.mem_started_inflight {e : Desc} {k : DescKey} {fc : Nat} (he : e ∈ (s.started fc k).hif.inflight) (hk : e.key ≠ k) :
    e ∈ s.hif.inflight := by
  obtain ⟨a, ha, rfl⟩ := List.mem_map.1 he
  by_cases hak : (a.key == k) = true
  · rw [if_pos hak] at hk
    exact (hk (beq_iff_eq.1 hak)).elim
  · rwa [if_neg hak]

/-! ### The command -/

/-- A NOP whose completion finds no room starts, leaves the flight, and its completion is lost. -/
theorem execNop_eq_loseCpl (fc : Nat) {d : Desc} (ho : s.offers Op.nop d) (hfull : ¬ s.takesCpl d.cq)
    (hidle : ∀ e ∈ s.hif.inflight, e.opcode = Op.fence → e.started = false) :
    execNop fc d.sq d.idx s = .next (((s.started fc d.key).landed d.key).loseCpl d.sq d.tag) := by
  have ⟨_, hfind, _⟩ := ho
  have hidle' : ∀ e ∈ (s.started fc d.key).hif.inflight, e.key ≠ d.key → e.opcode = Op.fence → e.started = false :=
    fun e he hk => hidle e (State.mem_started_inflight he hk)
  rw [execNop, State.withDesc_offers _ ho]
  exact congrArg Host.Outcome.next (State.completeAt_eq_loseCpl (State.findDesc_started fc hfind) hfull hidle' _ _ _ _ _ _ _)

/-- Settles O12: NOP completes on acceptance, so its completion is the one lost. -/
theorem aFullHeldListLosesACompletion : Obligations.AFullHeldListLosesACompletion := by
  unfold Obligations.AFullHeldListLosesACompletion
  intro s fc d ho hfull hidle
  obtain ⟨hlost, hraised, hev, hlink, hhif, hregs⟩ := ((s.started fc d.key).landed d.key).loseCpl_spec d.sq d.tag
  refine ⟨_, execNop_eq_loseCpl fc ho hfull hidle, hlost, hraised, hev, hlink, congrArg (·.held) hhif, ?_, hregs⟩
  rw [State.findDesc, hhif]
  exact State.findDesc_landed d.key

end Sys2Proof.Machine
end

/-! PROOFS. A conversion that has ended (R233, R235, R238 to R240): what its result writes, how the converter goes on, what a read of the
tracker answers and clears, and O45 assembled from them. -/
section
namespace Sys2Proof.Machine

/-! ### The fields of an entry -/

/-- The keys of an entry's results: the converters lie 256 bytes apart, the entries 16 (Table 9.5). -/
@[simp] theorem entKeys (n e : Nat) :
    (F.GAU_ENT_ACC_SUM n e).key = 8192 * n + (512 * e + 0x62000 * 32) ∧
    (F.GAU_ENT_ACC_OVR n e).key = 8192 * n + (512 * e + (0x62000 * 32 + 22)) ∧
    (F.GAU_ENT_ACC_SETTLING n e).key = 8192 * n + (512 * e + (0x62000 * 32 + 23)) ∧
    (F.GAU_ENT_ACC_NEW n e).key = 8192 * n + (512 * e + (0x62000 * 32 + 24)) ∧
    (F.GAU_ENT_ACC_OVERWRITTEN n e).key = 8192 * n + (512 * e + (0x62000 * 32 + 25)) ∧
    (F.GAU_ENT_ACC_N n e).key = 8192 * n + (512 * e + (0x62000 * 32 + 26)) ∧
    (F.GAU_ENT_STATE_WIN n e).key = 8192 * n + (512 * e + 0x62004 * 32) ∧
    (F.GAU_ENT_STATE_LAST_OVR n e).key = 8192 * n + (512 * e + (0x62004 * 32 + 2)) ∧
    (F.GAU_ENT_STATE_LAST_SETTLING n e).key = 8192 * n + (512 * e + (0x62004 * 32 + 3)) ∧
    (F.GAU_ENT_STATE_PARTIAL n e).key = 8192 * n + (512 * e + (0x62004 * 32 + 4)) ∧
    (F.GAU_ENT_STATE_COMPLETIONS n e).key = 8192 * n + (512 * e + (0x62004 * 32 + 16)) ∧
    (F.GAU_ENT_TRACK_MIN n e).key = 8192 * n + (512 * e + 0x62008 * 32) ∧
    (F.GAU_ENT_TRACK_MAX n e).key = 8192 * n + (512 * e + (0x62008 * 32 + 16)) := by
  simp only [Field.key, F.GAU_ENT_ACC_SUM, F.GAU_ENT_ACC_OVR, F.GAU_ENT_ACC_SETTLING, F.GAU_ENT_ACC_NEW, F.GAU_ENT_ACC_OVERWRITTEN,
    F.GAU_ENT_ACC_N, F.GAU_ENT_STATE_WIN, F.GAU_ENT_STATE_LAST_OVR, F.GAU_ENT_STATE_LAST_SETTLING, F.GAU_ENT_STATE_PARTIAL,
    F.GAU_ENT_STATE_COMPLETIONS, F.GAU_ENT_TRACK_MIN, F.GAU_ENT_TRACK_MAX]
  omega

/-- The keys of what a converter shows of its sequence lie 64 bytes apart (Table 9.5). -/
@[simp] theorem gauKeys (n : Nat) :
    (F.GAU_STATE_STATE n).key = 2048 * n + 0x60110 * 32 ∧ (F.GAU_STATE_ENTRY n).key = 2048 * n + (0x60110 * 32 + 2) := by
  simp only [Field.key, F.GAU_STATE_STATE, F.GAU_STATE_ENTRY]
  omega
@[simp] theorem gauSharedKeys :
    F.GAU_STATUS_SEQ_BUSY.key = 0x60000 * 32 ∧ F.GAU_STATUS_CAL_BUSY.key = 0x60000 * 32 + 4 ∧
    F.GAU_WIN_FLAG0_FLAG.key = 0x60004 * 32 ∧ F.GAU_WIN_FLAG1_FLAG.key = 0x60008 * 32 ∧ F.FLT_LIVE_LO_LIVE.key = 0x90008 * 32 :=
  ⟨rfl, rfl, rfl, rfl, rfl⟩

/-- What the accumulator of an entry writes (R239). -/
def sumFields (n e : Nat) : List Field :=
  [F.GAU_ENT_STATE_PARTIAL n e, F.GAU_ENT_ACC_OVERWRITTEN n e, F.GAU_ENT_ACC_SUM n e, F.GAU_ENT_ACC_OVR n e, F.GAU_ENT_ACC_SETTLING n e,
   F.GAU_ENT_ACC_NEW n e, F.GAU_ENT_ACC_N n e, F.GAU_ENT_STATE_COMPLETIONS n e]

/-- The tracker of an entry (R240). -/
def trackFields (n e : Nat) : List Field := [F.GAU_ENT_TRACK_MIN n e, F.GAU_ENT_TRACK_MAX n e]

/-- What an entry shows of its latest result (R238). -/
def latestFields (n e : Nat) : List Field := [F.GAU_ENT_STATE_LAST_OVR n e, F.GAU_ENT_STATE_LAST_SETTLING n e]

/-- What a result leaves in its entry, the window apart. -/
def storeFields (n e : Nat) : List Field := trackFields n e ++ sumFields n e ++ latestFields n e

/-- What goes on beside those stores: the window and its interrupt, the live line of GAU_OVR, what the converter shows. -/
def besideFields (n e : Nat) : List Field :=
  [F.GAU_ENT_STATE_WIN n e, F.GAU_WIN_FLAG0_FLAG, F.GAU_WIN_FLAG1_FLAG, F.FLT_LIVE_LO_LIVE, F.GAU_STATE_STATE n, F.GAU_STATE_ENTRY n,
   F.GAU_STATUS_SEQ_BUSY, F.GAU_STATUS_CAL_BUSY] ++ reportFields

/-- The stores of an entry are among the entries' results, and its window is none of them. -/
theorem storeFields_keys {n e : Nat} (hn : n < 4) (he : e < 16) : ∀ g ∈ storeFields n e,
    0x62000 * 32 ≤ g.key ∧ g.key < 0x62400 * 32 ∧ g.key ≠ (F.GAU_ENT_STATE_WIN n e).key := by
  simp only [storeFields, trackFields, sumFields, latestFields, List.cons_append, List.nil_append, List.forall_mem_cons, List.not_mem_nil,
    false_implies, implies_true, and_true, entKeys]
  omega

/-- What telling the host writes lies below the Gauge. -/
theorem reportFields_keys : ∀ f ∈ reportFields, f.key < 0x60000 * 32 := by decide

/-- Of what goes on beside the stores only the window is among the entries' results. -/
theorem besideFields_keys {n : Nat} (hn : n < 4) (e : Nat) : ∀ f ∈ besideFields n e,
    f.key = (F.GAU_ENT_STATE_WIN n e).key ∨ f.key < 0x62000 * 32 ∨ 0x62400 * 32 ≤ f.key := by
  refine List.forall_mem_append.2 ⟨?_, fun f hf => ?_⟩
  · simp only [List.forall_mem_cons, List.not_mem_nil, false_implies, implies_true, and_true, true_or, true_and, entKeys, gauKeys,
      gauSharedKeys]
    omega
  · have hlow := reportFields_keys f hf
    omega

theorem storeFields_apart_beside {n e : Nat} (hn : n < 4) (he : e < 16) :
    ∀ g ∈ storeFields n e, ∀ f ∈ besideFields n e, g.key ≠ f.key := by
  intro g hg f hf
  obtain ⟨hlo, hhi, hwin⟩ := storeFields_keys hn he g hg
  rcases besideFields_keys hn e f hf with h | h | h
  · rwa [h]
  · omega
  · omega
theorem sumFields_apart_track (n e : Nat) : ∀ g ∈ sumFields n e, ∀ f ∈ trackFields n e, g.key ≠ f.key := by simp [sumFields, trackFields]
theorem latestFields_apart (n e : Nat) : ∀ g ∈ trackFields n e ++ sumFields n e, ∀ f ∈ latestFields n e, g.key ≠ f.key := by
  simp [sumFields, trackFields, latestFields]

/-! ### A converter's record -/

section
variable {s t u : State} {n e : Nat} {l m : List Field}

@[simp] theorem State.gauX_setGau_same (s : State) (n : Nat) (x : GauX) : (s.setGau n x).gauX n = x := by
  rw [State.gauX, State.setGau, sparseGet_insert, if_pos rfl]

/-- `t` reads as `s` but for the fields listed, at the same fc and with the same latches; the sequence and the injection of converter `n`
stand as they stood. -/
structure Leaves (n : Nat) (l : List Field) (s t : State) : Prop where
  regs : s.sameRegsBut l t
  fc : t.fc = s.fc
  latches : t.latches = s.latches
  seq : (t.gauX n).seq = (s.gauX n).seq
  inj : (t.gauX n).inj = (s.gauX n).inj

theorem Leaves.refl (s : State) : Leaves n l s s := ⟨sameRegsBut_refl, rfl, rfl, rfl, rfl⟩
theorem Leaves.trans (h : Leaves n l s t) (g : Leaves n l t u) : Leaves n l s u :=
  ⟨sameRegsBut_trans h.regs g.regs, g.fc.trans h.fc, g.latches.trans h.latches, g.seq.trans h.seq, g.inj.trans h.inj⟩
theorem Leaves.mono (h : Leaves n l s t) (hs : ∀ f ∈ l, f ∈ m) : Leaves n m s t := { h with regs := sameRegsBut_mono h.regs hs }
theorem Leaves.ite {c : Prop} [Decidable c] (h : Leaves n l s t) (g : Leaves n l s u) : Leaves n l s (if c then t else u) := by
  split
  · exact h
  · exact g
theorem Leaves.put {f : Field} (h : Leaves n l s t) (hf : f ∈ l) (v : Nat) : Leaves n l s (t.put f v) :=
  h.trans ⟨sameRegsBut_put sameRegsBut_refl hf v, rfl, rfl, rfl, rfl⟩
theorem Leaves.note (h : Leaves n l s t) (f : Field) (k : Nat) : Leaves n l s (t.note f k) := h.trans ⟨sameRegsBut_refl, rfl, rfl, rfl, rfl⟩
theorem Leaves.putB {f : Field} (h : Leaves n l s t) (hf : f ∈ l) (b : Bool) : Leaves n l s (t.putB f b) :=
  (Leaves.ite (h.note f 1) h).put hf _
theorem Leaves.putBit {f : Field} (h : Leaves n l s t) (hf : f ∈ l) (i : Nat) (b : Bool) : Leaves n l s (t.putBit f i b) :=
  (Leaves.ite (h.note f (2 ^ i)) h).put hf _
theorem Leaves.raise (h : Leaves n l s t) (i : Nat) : Leaves n l s (t.raise i) := h.trans ⟨sameRegsBut_refl, rfl, rfl, rfl, rfl⟩
theorem Leaves.told (h : Leaves n l s t) (g : t.told [] u) (hl : ∀ f ∈ reportFields, f ∈ l) : Leaves n l s u := by
  obtain ⟨hregs, heq⟩ := g
  refine h.trans ⟨sameRegsBut_mono hregs hl, ?_, ?_, ?_, ?_⟩ <;> rw [heq] <;> rfl
theorem Leaves.setGau (h : Leaves n l s t) {x : GauX} (hs : x.seq = (t.gauX n).seq) (hi : x.inj = (t.gauX n).inj) :
    Leaves n l s (t.setGau n x) :=
  h.trans ⟨sameRegsBut_refl, rfl, rfl, by rw [State.gauX_setGau_same, hs], by rw [State.gauX_setGau_same, hi]⟩

/-! ### What goes on beside an entry's tracker and accumulator (R235, R241, Table 9.4) -/

theorem winFlag_mem_beside (n e : Nat) : winFlag n ∈ besideFields n e := by
  unfold winFlag
  split <;> simp [besideFields]

theorem State.window_leaves (s : State) (n e code : Nat) (ovr : Bool) : Leaves n (besideFields n e) s (s.window n e code ovr) := by
  unfold State.window
  extract_lets i
  refine Leaves.ite (Leaves.refl s) ?_
  split
  extract_lets s1 was s2
  have h1 : Leaves n (besideFields n e) s s1 := (Leaves.refl s).put (by simp [besideFields]) _
  have h2 : Leaves n (besideFields n e) s s2 := Leaves.ite (h1.putBit (winFlag_mem_beside n e) _ _) h1
  exact Leaves.ite (h2.told (told_irq 1) fun _ => List.mem_append_right _) h2

theorem State.syncGauOvr_leaves (s : State) (n e : Nat) : Leaves n (besideFields n e) s s.syncGauOvr :=
  (Leaves.refl s).putBit (f := F.FLT_LIVE_LO_LIVE) (by simp [besideFields]) 26 _

theorem State.syncGau_leaves (s : State) (n e : Nat) : Leaves n (besideFields n e) s (s.syncGau n) :=
  (((Leaves.refl s).put (f := F.GAU_STATE_STATE n) (by simp [besideFields]) _).putBit (f := F.GAU_STATUS_SEQ_BUSY)
    (by simp [besideFields]) n _).putBit (f := F.GAU_STATUS_CAL_BUSY) (by simp [besideFields]) n _

theorem State.convStart_leaves (s : State) (n e m at_ : Nat) : Leaves n (besideFields n e) s (s.convStart n m at_) :=
  ((Leaves.refl s).setGau (by rfl) (by rfl)).put (f := F.GAU_STATE_ENTRY n) (by simp [besideFields]) m

/-! ### The accumulator (R239) -/

/-- The words of a sum that completes; NEW still set makes it OVERWRITTEN. -/
def State.closeSum (s : State) (n e sum k : Nat) (o t : Bool) : State :=
  let s := if s.flag (F.GAU_ENT_ACC_NEW n e) then s.putB (F.GAU_ENT_ACC_OVERWRITTEN n e) true else s
  let s := ((s.put (F.GAU_ENT_ACC_SUM n e) sum).putB (F.GAU_ENT_ACC_OVR n e) o).putB (F.GAU_ENT_ACC_SETTLING n e) t
  let s := ((s.putB (F.GAU_ENT_ACC_NEW n e) true).put (F.GAU_ENT_ACC_N n e) k).put (F.GAU_ENT_STATE_PARTIAL n e) 0
  s.put (F.GAU_ENT_STATE_COMPLETIONS n e) (s.get (F.GAU_ENT_STATE_COMPLETIONS n e) + 1)

/-- A result adds one to the partial sum, or completes it. -/
theorem State.accumulate_eq (s : State) (n e code : Nat) (ovr settling : Bool) :
    let x := s.gauX n
    let p := sparseGet (0, false, false) x.sums e
    let k := s.act (F.GAU_ENT_CFG_ACC_N n e)
    let u (q : Nat × Bool × Bool) : State := s.setGau n { x with sums := sparseSet (0, false, false) x.sums e q }
    s.accumulate n e code ovr settling = if s.get (F.GAU_ENT_STATE_PARTIAL n e) + 1 < 2 ^ k
      then (u (p.1 + code, p.2.1 || ovr, p.2.2 || settling)).put (F.GAU_ENT_STATE_PARTIAL n e) (s.get (F.GAU_ENT_STATE_PARTIAL n e) + 1)
      else ((u (0, false, false)).closeSum n e (p.1 + code) k (p.2.1 || ovr) (p.2.2 || settling)).loopSample n e (p.1 + code) k
        (p.2.1 || ovr) := rfl

theorem State.closeSum_leaves (s : State) (n e sum k : Nat) (o t : Bool) : Leaves n (sumFields n e) s (s.closeSum n e sum k o t) := by
  unfold State.closeSum
  extract_lets s1 s2 s3
  have h1 : Leaves n (sumFields n e) s s1 := Leaves.ite ((Leaves.refl s).putB (by simp [sumFields]) _) (Leaves.refl s)
  have h2 : Leaves n (sumFields n e) s s2 :=
    ((h1.put (by simp [sumFields]) _).putB (by simp [sumFields]) _).putB (by simp [sumFields]) _
  have h3 : Leaves n (sumFields n e) s s3 :=
    ((h2.putB (by simp [sumFields]) _).put (by simp [sumFields]) _).put (by simp [sumFields]) _
  exact h3.put (by simp [sumFields]) _

/-- A completed sum is shown as SUM, with NEW and N, and the next one starts from nothing. -/
theorem State.closeSum_spec (s : State) (n e sum : Nat) {k : Nat} (hk : k ≤ 10) (o t : Bool) :
    let u := s.closeSum n e sum k o t
    u.get (F.GAU_ENT_STATE_PARTIAL n e) = 0 ∧ u.flag (F.GAU_ENT_ACC_NEW n e) = true ∧ u.get (F.GAU_ENT_ACC_N n e) = k ∧
    u.get (F.GAU_ENT_ACC_SUM n e) = sum % 2 ^ 22 := by
  have hN : k % 2 ^ (F.GAU_ENT_ACC_N n e).width = k := Nat.mod_eq_of_lt (Nat.lt_of_le_of_lt hk (by decide : 10 < 2 ^ 4))
  have hW : (F.GAU_ENT_ACC_NEW n e).width = 1 := rfl
  have hS : (F.GAU_ENT_ACC_SUM n e).width = 22 := rfl
  simp [State.closeSum, State.flag_eq, State.get_put_other, State.get_putB_other, hN, hW, hS, b2n]

theorem State.loopSample_get (s : State) (n e sum k : Nat) (o : Bool) (g : Field) : (s.loopSample n e sum k o).get g = s.get g := rfl
theorem State.loopSample_leaves (s : State) (n e sum k : Nat) (o : Bool) (l : List Field) : Leaves n l s (s.loopSample n e sum k o) :=
  ⟨sameRegsBut_refl, rfl, rfl, rfl, rfl⟩

theorem State.accumulate_leaves (s : State) (n e code : Nat) (ovr settling : Bool) :
    Leaves n (sumFields n e) s (s.accumulate n e code ovr settling) := by
  rw [State.accumulate_eq]
  exact Leaves.ite (((Leaves.refl s).setGau (by rfl) (by rfl)).put (by simp [sumFields]) _)
    ((((Leaves.refl s).setGau (by rfl) (by rfl)).trans (State.closeSum_leaves _ _ _ _ _ _ _)).trans (State.loopSample_leaves _ _ _ _ _ _ _))

/-- In `t` the sum of entry `e` holds one result more than in `s`, or has completed with it (R239). -/
def State.summed (s : State) (n e code : Nat) (t : State) : Prop :=
  let k := s.act (F.GAU_ENT_CFG_ACC_N n e)
  let cnt := s.get (F.GAU_ENT_STATE_PARTIAL n e) + 1
  (cnt < 2 ^ k → t.get (F.GAU_ENT_STATE_PARTIAL n e) = cnt ∧ t.get (F.GAU_ENT_ACC_SUM n e) = s.get (F.GAU_ENT_ACC_SUM n e)) ∧
  (2 ^ k ≤ cnt → t.get (F.GAU_ENT_STATE_PARTIAL n e) = 0 ∧ t.flag (F.GAU_ENT_ACC_NEW n e) = true ∧ t.get (F.GAU_ENT_ACC_N n e) = k ∧
    t.get (F.GAU_ENT_ACC_SUM n e) = ((sparseGet (0, false, false) (s.gauX n).sums e).1 + code) % 2 ^ 22)

theorem State.summed_congr {code : Nat} (h : s.summed n e code t) (hg : ∀ g ∈ sumFields n e, u.get g = t.get g) : s.summed n e code u := by
  unfold State.summed
  rw [State.flag_eq, hg _ (by simp [sumFields]), hg (F.GAU_ENT_ACC_SUM n e) (by simp [sumFields]),
    hg (F.GAU_ENT_ACC_NEW n e) (by simp [sumFields]), hg (F.GAU_ENT_ACC_N n e) (by simp [sumFields])]
  exact h

theorem State.accumulate_summed (s : State) {n e : Nat} (hk : s.act (F.GAU_ENT_CFG_ACC_N n e) ≤ 10) (code : Nat) (ovr settling : Bool) :
    s.summed n e code (s.accumulate n e code ovr settling) := by
  rw [State.accumulate_eq]
  refine ⟨fun hlt => ?_, fun hle => ?_⟩
  · have hfits : s.get (F.GAU_ENT_STATE_PARTIAL n e) + 1 < 2 ^ (F.GAU_ENT_STATE_PARTIAL n e).width :=
      Nat.lt_of_lt_of_le hlt (Nat.pow_le_pow_right (by decide) hk)
    rw [if_pos hlt]
    refine ⟨?_, ?_⟩
    · rw [State.get_put_same, Nat.mod_eq_of_lt hfits]
    · rw [State.get_put_other _ _ _ _ (by simp), State.setGau_get]
  · rw [if_neg (Nat.not_lt.2 hle)]
    simp only [State.flag_eq, State.loopSample_get]
    exact State.closeSum_spec _ n e _ hk _ _

/-! ### A result (R238 to R240) -/

/-- In `t` the result `code` has gone into entry `e` of `s`: its tracker, its latest flags and its sum. -/
def State.entered (s : State) (n e code : Nat) (ovr settling : Bool) (t : State) : Prop :=
  t.get (F.GAU_ENT_TRACK_MIN n e) = min code (s.get (F.GAU_ENT_TRACK_MIN n e)) ∧
  t.get (F.GAU_ENT_TRACK_MAX n e) = max code (s.get (F.GAU_ENT_TRACK_MAX n e)) ∧
  t.flag (F.GAU_ENT_STATE_LAST_OVR n e) = ovr ∧ t.flag (F.GAU_ENT_STATE_LAST_SETTLING n e) = settling ∧
  s.summed n e code t

theorem State.entered_congr {code : Nat} {ovr settling : Bool} (h : s.entered n e code ovr settling t)
    (hg : ∀ g ∈ storeFields n e, u.get g = t.get g) : s.entered n e code ovr settling u := by
  obtain ⟨hmin, hmax, hovr, hset, hsum⟩ := h
  refine ⟨(hg _ (by simp [storeFields, trackFields])).trans hmin, (hg _ (by simp [storeFields, trackFields])).trans hmax, ?_, ?_,
    State.summed_congr hsum fun g h => hg g (by simp [storeFields, h])⟩
  · rwa [State.flag_eq, hg _ (by simp [storeFields, latestFields])]
  · rwa [State.flag_eq, hg _ (by simp [storeFields, latestFields])]

/-- The tracker with one result more (R240). -/
def State.track (s : State) (n e code : Nat) : State :=
  (s.put (F.GAU_ENT_TRACK_MIN n e) (min code (s.get (F.GAU_ENT_TRACK_MIN n e)))).put (F.GAU_ENT_TRACK_MAX n e)
    (max code (s.get (F.GAU_ENT_TRACK_MAX n e)))

theorem State.track_spec (s : State) (n e : Nat) {code : Nat} (hc : code < 4096) :
    (s.track n e code).get (F.GAU_ENT_TRACK_MIN n e) = min code (s.get (F.GAU_ENT_TRACK_MIN n e)) ∧
    (s.track n e code).get (F.GAU_ENT_TRACK_MAX n e) = max code (s.get (F.GAU_ENT_TRACK_MAX n e)) ∧
    Leaves n (trackFields n e) s (s.track n e code) := by
  have hmin : min code (s.get (F.GAU_ENT_TRACK_MIN n e)) < 2 ^ (F.GAU_ENT_TRACK_MIN n e).width := Nat.lt_of_le_of_lt (Nat.min_le_left _ _) hc
  have hmax : max code (s.get (F.GAU_ENT_TRACK_MAX n e)) < 2 ^ (F.GAU_ENT_TRACK_MAX n e).width := Nat.max_lt.2 ⟨hc, s.get_lt _⟩
  refine ⟨?_, ?_, ((Leaves.refl s).put (by simp [trackFields]) _).put (by simp [trackFields]) _⟩
  · rw [State.track, State.get_put_other _ _ _ _ (by simp), State.get_put_same, Nat.mod_eq_of_lt hmin]
  · rw [State.track, State.get_put_same, Nat.mod_eq_of_lt hmax]

/-- The flags of the latest result (R238). -/
def State.showLatest (s : State) (n e : Nat) (ovr settling : Bool) : State :=
  (s.putB (F.GAU_ENT_STATE_LAST_OVR n e) ovr).putB (F.GAU_ENT_STATE_LAST_SETTLING n e) settling

theorem State.showLatest_spec (s : State) (n e : Nat) (ovr settling : Bool) :
    (s.showLatest n e ovr settling).flag (F.GAU_ENT_STATE_LAST_OVR n e) = ovr ∧
    (s.showLatest n e ovr settling).flag (F.GAU_ENT_STATE_LAST_SETTLING n e) = settling ∧
    Leaves n (latestFields n e) s (s.showLatest n e ovr settling) := by
  refine ⟨?_, State.flag_putB_same _ _ _ rfl, ((Leaves.refl s).putB (by simp [latestFields]) _).putB (by simp [latestFields]) _⟩
  rw [State.showLatest, State.flag_eq, State.get_putB_other _ _ _ _ (by simp), ← State.flag_eq, State.flag_putB_same _ _ _ rfl]

/-- A result goes into its entry, and its converter goes on with what it was doing. -/
theorem State.gauResult_spec (s : State) {n e code : Nat} (hn : n < 4) (he : e < 16) (hk : s.act (F.GAU_ENT_CFG_ACC_N n e) ≤ 10)
    (hc : code < 4096) (ovr settling : Bool) :
    let t := s.gauResult n e code ovr settling
    s.entered n e code ovr settling t ∧ Leaves n (storeFields n e ++ besideFields n e) s t := by
  unfold State.gauResult
  extract_lets s1 s2 s3 s4 t
  have h1 : Leaves n (sumFields n e) s s1 := s.accumulate_leaves n e code ovr settling
  have hsum : s.summed n e code s1 := s.accumulate_summed hk code ovr settling
  obtain ⟨hmin, hmax, h2⟩ : _ ∧ _ ∧ Leaves n (trackFields n e) s1 s2 := s1.track_spec n e hc
  have h4 : Leaves n (besideFields n e) s2 s4 := (s2.window_leaves n e code ovr).trans (Leaves.ite ((Leaves.refl _).raise 26) (Leaves.refl _))
  obtain ⟨hovr, hset, h5⟩ := s4.showLatest_spec n e ovr settling
  have h6 : Leaves n (besideFields n e) (s4.showLatest n e ovr settling) t := State.syncGauOvr_leaves _ n e
  have hapart := storeFields_apart_beside hn he
  have hback : ∀ g ∈ trackFields n e ++ sumFields n e, (s4.showLatest n e ovr settling).get g = s2.get g := fun g hg =>
    (h5.regs g (latestFields_apart n e g hg)).trans (h4.regs g (hapart g (List.mem_append_left _ hg)))
  have hold : ∀ g ∈ trackFields n e, s1.get g = s.get g := fun g hg =>
    h1.regs g fun f hf => (sumFields_apart_track n e f hf g hg).symm
  refine ⟨State.entered_congr ⟨?_, ?_, hovr, hset, ?_⟩ fun g hg => h6.regs g (hapart g hg), ?_⟩
  · exact (hback _ (by simp [trackFields])).trans (hmin.trans (congrArg _ (hold _ (by simp [trackFields]))))
  · exact (hback _ (by simp [trackFields])).trans (hmax.trans (congrArg _ (hold _ (by simp [trackFields]))))
  · exact State.summed_congr hsum fun g hg =>
      (hback g (List.mem_append_right _ hg)).trans (h2.regs g (sumFields_apart_track n e g hg))
  · have hstores : ∀ f ∈ storeFields n e, f ∈ storeFields n e ++ besideFields n e := fun _ => List.mem_append_left _
    have hbeside : ∀ f ∈ besideFields n e, f ∈ storeFields n e ++ besideFields n e := fun _ => List.mem_append_right _
    exact ((((h1.mono fun f hf => hstores f (by simp [storeFields, hf])).trans
      (h2.mono fun f hf => hstores f (by simp [storeFields, hf]))).trans (h4.mono hbeside)).trans
      (h5.mono fun f hf => hstores f (by simp [storeFields, hf]))).trans (h6.mono hbeside)

/-! ### The command (R232, R235, R236) -/

theorem gauCode_lt (g : Nat) (uv : Int × Nat) : (gauCode g uv).1 < 4096 := by
  unfold gauCode
  extract_lets w
  split
  · decide
  · split
    · decide
    · exact Nat.lt_of_le_of_lt (Nat.min_le_left _ _) (by decide)

/-- The result of entry `e` when `v` is at the source of its INPUT. -/
def State.codeOf (s : State) (n e : Nat) (v : Int) : Nat × Bool :=
  gauCode (s.act (F.GAU_ENT_CFG_GAIN n e)) (gauInput (s.act (F.GAU_ENT_CFG_INPUT n e)) v)

/-- `s` at `fc` with the conversion of entry `e` over, its result entered unless a swap discards it, before the converter goes on. -/
def State.converted (s : State) (fc n e : Nat) (v : Int) : State :=
  let x := s.gauX n
  let r := s.codeOf n e v
  let u := (s.at fc).setGau n { x with lastEnd := some (s.at fc).now, lastOvr := r.2 && !x.discard, discard := false }
  if x.discard then u else u.gauResult n e r.1 r.2 x.settling

theorem State.converted_spec (s : State) (fc : Nat) {n e : Nat} (hn : n < 4) (he : e < 16) (hk : s.act (F.GAU_ENT_CFG_ACC_N n e) ≤ 10)
    (hd : (s.gauX n).discard = false) (v : Int) :
    let w := s.converted fc n e v
    s.entered n e (s.codeOf n e v).1 (s.codeOf n e v).2 (s.gauX n).settling w ∧
    Leaves n (storeFields n e ++ besideFields n e) (s.at fc) w ∧ w.active = s.active := by
  unfold State.converted
  extract_lets x r u w
  have hw : w = u.gauResult n e r.1 r.2 x.settling := if_neg (Bool.eq_false_iff.1 hd)
  have hu : Leaves n (storeFields n e ++ besideFields n e) (s.at fc) u := (Leaves.refl (s.at fc)).setGau (by rfl) (by rfl)
  have hsums : (u.gauX n).sums = (s.gauX n).sums := by rw [State.gauX_setGau_same]
  obtain ⟨hent, hres⟩ := u.gauResult_spec hn he hk (gauCode_lt _ _) r.2 x.settling
  unfold State.entered State.summed at hent
  rw [hsums] at hent
  rw [hw]
  exact ⟨hent, hu.trans hres, (State.gauResult_kept (im := false) n e _ _ _ (Kept.refl u)).active⟩

/-- A conversion of converter `n` has ended by `fc` (R235). -/
def State.ended (s : State) (fc n : Nat) : Bool := s.gauRuns && (s.gauX n).converting && decide ((s.gauX n).endAt ≤ (s.at fc).now)

/-- The condition under which CONVERSION_END does nothing. -/
theorem State.not_ended (s : State) (fc n : Nat) :
    (!(s.at fc).gauRuns || !((s.at fc).gauX n).converting || decide ((s.at fc).now < ((s.at fc).gauX n).endAt)) = !s.ended fc n := by
  have hruns : (s.at fc).gauRuns = s.gauRuns := rfl
  have hx : (s.at fc).gauX n = s.gauX n := rfl
  have hlate : decide (¬ (s.gauX n).endAt ≤ (s.at fc).now) = decide ((s.at fc).now < (s.gauX n).endAt) := decide_eq_decide.2 Nat.not_le
  rw [State.ended, hruns, hx, Bool.not_and, Bool.not_and, ← decide_not, hlate]

section
variable {fc : Nat}

theorem execConversionEnd_waiting (hn : n < 4) (h : s.ended fc n = false) (v : Int) : execConversionEnd fc n v s = .next (s.at fc) := by
  unfold execConversionEnd
  extract_lets u x run after
  rw [okIf, if_pos (decide_eq_true hn), if_pos ((s.not_ended fc n).trans (by rw [h]; rfl))]

/-- An injected conversion ends; the sequence goes on with what it was doing. -/
theorem execConversionEnd_injected (hn : n < 4) (h : s.ended fc n = true) (hi : (s.gauX n).inj = some e) (hl : (s.gauX n).seq ≠ .late)
    (v : Int) :
    let w := s.converted fc n e v
    execConversionEnd fc n v s = .next ((w.setGau n { w.gauX n with inj := none }).syncGau n) := by
  intro w
  unfold execConversionEnd
  extract_lets u x run after
  rw [okIf, if_pos (decide_eq_true hn), if_neg (Bool.eq_false_iff.1 ((s.not_ended fc n).trans (by rw [h]; rfl)))]
  split
  next f hf =>
    cases hf.symm.trans hi
    exact congrArg Host.Outcome.next (if_neg hl)
  next hf => cases hf.symm.trans hi

/-- A conversion of the sequence ends; the next entry follows at once, or the sequence is over. -/
theorem execConversionEnd_run (hn : n < 4) (h : s.ended fc n = true) (hi : (s.gauX n).inj = none) (ht : (s.gauX n).tail = false)
    (hr : (s.gauX n).seq = .run e) (v : Int) :
    let w := s.converted fc n e v
    execConversionEnd fc n v s = .next (if e + 1 < w.act (F.GAU_SEQ_LEN n)
      then ((w.setGau n { w.gauX n with seq := .run (e + 1) }).convStart n (e + 1) w.now).syncGau n
      else (w.setGau n { w.gauX n with seq := .idle }).syncGau n) := by
  intro w
  unfold execConversionEnd
  extract_lets u x run after
  rw [okIf, if_pos (decide_eq_true hn), if_neg (Bool.eq_false_iff.1 ((s.not_ended fc n).trans (by rw [h]; rfl)))]
  split
  next f hf => cases hf.symm.trans hi
  next hf =>
    refine congrArg Host.Outcome.next ((if_neg (Bool.eq_false_iff.1 ht)).trans ?_)
    split
    next f hf =>
      cases hf.symm.trans hr
      rfl
    next hf => exact absurd hr (hf e)

end

/-! ### Reading the tracker (R10, R11, R240) -/

/-- The rows of the entries' results (Tables 9.16 to 9.18). -/
def accRow : RegRow :=
  ⟨0x62000, 4, 0x100, 16, 0x10, .all,
    [⟨0, 22, 0, .ro⟩, ⟨22, 1, 0, .ro⟩, ⟨23, 1, 0, .ro⟩, ⟨24, 1, 0, .rc⟩, ⟨25, 1, 0, .rc⟩, ⟨26, 4, 0, .ro⟩]⟩
def entStateRow : RegRow :=
  ⟨0x62004, 4, 0x100, 16, 0x10, .all, [⟨0, 2, 0, .ro⟩, ⟨2, 1, 0, .ro⟩, ⟨3, 1, 0, .ro⟩, ⟨4, 10, 0, .ro⟩, ⟨16, 8, 0, .ro⟩]⟩
def trackRow : RegRow := ⟨0x62008, 4, 0x100, 16, 0x10, .all, [⟨0, 12, 4095, .rc⟩, ⟨16, 12, 0, .rc⟩]⟩

/-- All of a row lies below an offset. -/
def rowBelow (b : Nat) (r : RegRow) : Bool := decide (0 < r.s1) && decide (r.base + r.n1 * r.s1 ≤ b)

theorem rowAt_eq_none {b off : Nat} {r : RegRow} (h : b ≤ off) (hr : rowBelow b r = true) : rowAt r off = none := by
  simp only [rowBelow, Bool.and_eq_true, decide_eq_true_eq] at hr
  obtain ⟨hs, hend⟩ := hr
  have hout : r.n1 ≤ (off - r.base) / r.s1 := (Nat.le_div_iff_mul_le hs).2 (by omega)
  simp [rowAt, hout]

/-- Rows that lie below an offset do not matter for finding it. -/
theorem findIn_dropWhile {b off : Nat} (h : b ≤ off) (k : List RegRow) : findIn off k = findIn off (k.dropWhile (rowBelow b)) := by
  induction k with
  | nil => rfl
  | cons r k ih =>
    rw [List.dropWhile_cons]
    split
    next hr => rw [findIn, rowAt_eq_none h hr, ih]
    next => rfl

/-- They follow the rows that lie below them. -/
theorem resultRows : (regTable.dropWhile (rowBelow 0x62000)).take 3 = [accRow, entStateRow, trackRow] := by decide +kernel

/-- In a row laid out as the entries' results are, an offset lies at its entry or between two registers. -/
theorem rowAt_entry {n e k : Nat} (hn : n < 4) (he : e < 16) (hk : k < 16) (b : Nat) (nm : Names) (l : List FieldRow) :
    rowAt ⟨b, 4, 0x100, 16, 0x10, nm, l⟩ (b + 0x100 * n + 0x10 * e + k) = if k = 0 then some (n, e) else none := by
  have hd : b + 0x100 * n + 0x10 * e + k - b = 0x100 * n + (0x10 * e + k) := by omega
  have hi : (0x100 * n + (0x10 * e + k)) / 0x100 = n := by omega
  have hm : (0x100 * n + (0x10 * e + k)) % 0x100 = 0x10 * e + k := by omega
  have hj : (0x10 * e + k) / 0x10 = e := by omega
  have hr : (0x10 * e + k) % 0x10 = k := by omega
  have hb : ¬ b + 0x100 * n + 0x10 * e + k < b := by omega
  simp [rowAt, hd, hi, hm, hj, hr, hb, Nat.not_le.2 hn, Nat.not_le.2 he]

theorem findReg_track {n e : Nat} (hn : n < 4) (he : e < 16) : findReg (F.GAU_ENT_TRACK_MIN n e).off = some (trackRow, n) := by
  have hacc : rowAt accRow (0x62008 + 0x100 * n + 0x10 * e) = none := by
    rw [show 0x62008 + 0x100 * n + 0x10 * e = 0x62000 + 0x100 * n + 0x10 * e + 8 by omega]
    exact rowAt_entry hn he (by decide) _ _ _
  have hstate : rowAt entStateRow (0x62008 + 0x100 * n + 0x10 * e) = none := by
    rw [show 0x62008 + 0x100 * n + 0x10 * e = 0x62004 + 0x100 * n + 0x10 * e + 4 by omega]
    exact rowAt_entry hn he (by decide) _ _ _
  have htrack : rowAt trackRow (0x62008 + 0x100 * n + 0x10 * e) = some (n, e) := rowAt_entry hn he (k := 0) (by decide) _ _ _
  rw [findReg, findIn_dropWhile (b := 0x62000) (by simp only [F.GAU_ENT_TRACK_MIN]; omega), ← List.take_append_drop 3 (regTable.dropWhile _),
    resultRows]
  simp only [F.GAU_ENT_TRACK_MIN, List.cons_append, findIn, hacc, hstate, htrack]

theorem isWideLow_track (hn : n < 4) (he : e < 16) : isWideLow (F.GAU_ENT_TRACK_MIN n e).off = false := by
  have hwide : ∀ w ∈ wideLows, w < 0x62008 ∨ 0x62408 ≤ w := by decide
  have hout : (F.GAU_ENT_TRACK_MIN n e).off ∉ wideLows := fun h => by
    have := hwide _ h
    simp only [F.GAU_ENT_TRACK_MIN] at this
    omega
  have hrow : wideRows.contains trackRow.base = false := by decide
  simp only [isWideLow, findReg_track hn he, hrow, Bool.or_false]
  exact Bool.eq_false_iff.2 fun h => hout (List.contains_iff_mem.1 h)

theorem routeFixed_track (v : Variant) (n e : Nat) : routeFixed v (F.GAU_ENT_TRACK_MIN n e).off = false := by
  have h : ¬ (F.GAU_ENT_TRACK_MIN n e).off < (F.FAB_ROUTE_SRC 256).off := by
    simp only [F.GAU_ENT_TRACK_MIN, F.FAB_ROUTE_SRC]
    omega
  simp [routeFixed, h]

/-- Nothing has set or counted in the field in the present fc (R11). -/
def State.unnoted (s : State) (f : Field) : Prop := ∀ x ∈ s.fresh, x.1 ≠ f.key

/-- A fold that takes up only the entries of one key passes over a list without it. -/
theorem foldl_skip {α : Type} {g : α → Nat × Nat × Nat → α} {k : Nat} {l : List (Nat × Nat × Nat)} (h : ∀ x ∈ l, x.1 ≠ k) (a : α) :
    l.foldl (fun a x => if x.1 = k then g a x else a) a = a := by
  induction l with
  | nil => rfl
  | cons x l ih =>
    rw [List.foldl_cons, if_neg (h x List.mem_cons_self), ih fun y hy => h y (List.mem_cons_of_mem _ hy)]

theorem State.beforeFresh_of_unnoted {f : Field} (h : s.unnoted f) : s.beforeFresh f = s.get f := foldl_skip h _
theorem State.freshCount_of_unnoted {f : Field} (h : s.unnoted f) : s.freshCount f = 0 := foldl_skip h _

theorem State.unnoted_at {f : Field} {later : Nat} (h : later % 3072 ≠ s.fc ∨ s.unnoted f) : (s.at later).unnoted f := by
  intro x hx
  have hx : x ∈ if s.fc = later % 3072 then s.fresh else [] := hx
  split at hx
  next hfc => exact h.resolve_left (not_not_intro hfc.symm) x hx
  next => cases hx

/-- An RC field with no event of this fc returns to its reset value, and every other field reads as before. -/
theorem State.get_clearRc_same {f : FieldRow} {g : Field} (h : s.unnoted g) (hr : f.reset < 2 ^ g.width) :
    (s.clearRc f g).get g = f.reset := by
  rw [State.clearRc, State.freshCount_of_unnoted h, State.get_put_same, satAdd, if_neg (by omega), Nat.add_zero, Nat.mod_eq_of_lt hr]
theorem State.get_clearRc_other (f : FieldRow) {g g' : Field} (h : g'.key ≠ g.key) : (s.clearRc f g).get g' = s.get g' :=
  State.get_put_other _ _ _ _ h
theorem State.unnoted_clearRc (f : FieldRow) (g : Field) {g' : Field} (h : s.unnoted g') : (s.clearRc f g).unnoted g' :=
  fun x hx => h x (List.mem_filter.1 hx).1

theorem State.readField_rc (s : State) (r : RegRow) {off : Nat} (h : routeFixed s.variant off = false) (i lo w reset : Nat) :
    s.readField r off i ⟨lo, w, reset, .rc⟩ = s.beforeFresh ⟨off, lo, w, reset⟩ % 2 ^ w * 2 ^ lo := by
  simp only [State.readField, h, Bool.false_eq_true, if_false, fieldAt]

theorem State.readWord_track (hn : n < 4) (he : e < 16) (hmin : s.unnoted (F.GAU_ENT_TRACK_MIN n e))
    (hmax : s.unnoted (F.GAU_ENT_TRACK_MAX n e)) :
    s.readWord (F.GAU_ENT_TRACK_MIN n e).off = s.get (F.GAU_ENT_TRACK_MIN n e) + 65536 * s.get (F.GAU_ENT_TRACK_MAX n e) := by
  have hroute := routeFixed_track s.variant n e
  have hfields : trackRow.fields = [⟨0, 12, 4095, .rc⟩, ⟨16, 12, 0, .rc⟩] := rfl
  have hlow : s.readField trackRow (F.GAU_ENT_TRACK_MIN n e).off n ⟨0, 12, 4095, .rc⟩ = s.get (F.GAU_ENT_TRACK_MIN n e) % 2 ^ 12 * 2 ^ 0 := by
    rw [State.readField_rc _ _ hroute, ← State.beforeFresh_of_unnoted hmin]
    rfl
  have hhigh : s.readField trackRow (F.GAU_ENT_TRACK_MIN n e).off n ⟨16, 12, 0, .rc⟩ = s.get (F.GAU_ENT_TRACK_MAX n e) % 2 ^ 12 * 2 ^ 16 := by
    rw [State.readField_rc _ _ hroute, ← State.beforeFresh_of_unnoted hmax]
    rfl
  have hlo : s.get (F.GAU_ENT_TRACK_MIN n e) < 2 ^ 12 := s.get_lt _
  have hhi : s.get (F.GAU_ENT_TRACK_MAX n e) < 2 ^ 12 := s.get_lt _
  rw [State.readWord, findReg_track hn he]
  refine (if_pos rfl).trans ?_
  rw [hfields, List.foldl_cons, List.foldl_cons, List.foldl_nil, hlow, hhigh]
  omega

theorem State.clearOnRead_track (hn : n < 4) (he : e < 16) (hmin : s.unnoted (F.GAU_ENT_TRACK_MIN n e))
    (hmax : s.unnoted (F.GAU_ENT_TRACK_MAX n e)) :
    (s.clearOnRead (F.GAU_ENT_TRACK_MIN n e).off).get (F.GAU_ENT_TRACK_MIN n e) = 0xFFF ∧
    (s.clearOnRead (F.GAU_ENT_TRACK_MIN n e).off).get (F.GAU_ENT_TRACK_MAX n e) = 0 ∧
    (s.clearOnRead (F.GAU_ENT_TRACK_MIN n e).off).linkOut = s.linkOut := by
  have hclear : s.clearOnRead (F.GAU_ENT_TRACK_MIN n e).off =
      (s.clearRc ⟨0, 12, 4095, .rc⟩ (F.GAU_ENT_TRACK_MIN n e)).clearRc ⟨16, 12, 0, .rc⟩ (F.GAU_ENT_TRACK_MAX n e) := by
    rw [State.clearOnRead, findReg_track hn he]
    rfl
  rw [hclear]
  refine ⟨?_, State.get_clearRc_same (State.unnoted_clearRc _ _ hmax) (by decide : 0 < 2 ^ 12), rfl⟩
  rw [State.get_clearRc_other _ (by simp), State.get_clearRc_same hmin (by decide : 4095 < 2 ^ 12)]

/-- A read of the tracker answers it and clears it, in an fc in which nothing sets it. -/
theorem execClearOnRead_track (hn : n < 4) (he : e < 16) {later : Nat}
    (hl : s.latches.find? (fun x => x.1 == (F.GAU_ENT_TRACK_MIN n e).off) = none)
    (hf : later % 3072 ≠ s.fc ∨ s.unnoted (F.GAU_ENT_TRACK_MIN n e) ∧ s.unnoted (F.GAU_ENT_TRACK_MAX n e)) :
    ∃ r, execClearOnRead later (F.GAU_ENT_TRACK_MIN n e).off 4 s = .next r ∧
      r.get (F.GAU_ENT_TRACK_MIN n e) = 0xFFF ∧ r.get (F.GAU_ENT_TRACK_MAX n e) = 0 ∧
      r.linkOut = s.linkOut ++ [.read (F.GAU_ENT_TRACK_MIN n e).off
        (s.get (F.GAU_ENT_TRACK_MIN n e) + 65536 * s.get (F.GAU_ENT_TRACK_MAX n e))] := by
  have hu : (s.at later).unnoted (F.GAU_ENT_TRACK_MIN n e) ∧ (s.at later).unnoted (F.GAU_ENT_TRACK_MAX n e) :=
    ⟨State.unnoted_at (hf.imp_right And.left), State.unnoted_at (hf.imp_right And.right)⟩
  have hlo : s.get (F.GAU_ENT_TRACK_MIN n e) < 2 ^ 12 := s.get_lt _
  have hhi : s.get (F.GAU_ENT_TRACK_MAX n e) < 2 ^ 12 := s.get_lt _
  have hdiv : (F.GAU_ENT_TRACK_MIN n e).off / 4 * 4 = (F.GAU_ENT_TRACK_MIN n e).off := by
    simp only [F.GAU_ENT_TRACK_MIN]
    omega
  have hmod : (F.GAU_ENT_TRACK_MIN n e).off % 4 = 0 := by
    simp only [F.GAU_ENT_TRACK_MIN]
    omega
  have hlatch : (s.at later).latches.find? (fun x => x.1 == (F.GAU_ENT_TRACK_MIN n e).off) = none := hl
  have hread : (s.at later).hostRead (F.GAU_ENT_TRACK_MIN n e).off 4 = ((s.at later).clearOnRead (F.GAU_ENT_TRACK_MIN n e).off).link
      (.read (F.GAU_ENT_TRACK_MIN n e).off (s.get (F.GAU_ENT_TRACK_MIN n e) + 65536 * s.get (F.GAU_ENT_TRACK_MAX n e))) := by
    rw [State.hostRead, hdiv, hmod, State.readReg, isWideLow_track hn he, hlatch, State.readWord_track hn he hu.1 hu.2, State.at_get,
      State.at_get]
    simp only [Bool.false_eq_true, if_false]
    rw [Nat.mul_zero, Nat.pow_zero, Nat.div_one, Nat.mod_eq_of_lt (by omega)]
  obtain ⟨hmin, hmax, hlink⟩ := State.clearOnRead_track hn he hu.1 hu.2
  refine ⟨_, congrArg Host.Outcome.next hread, (State.link_get _ _ _).trans hmin, (State.link_get _ _ _).trans hmax, ?_⟩
  rw [State.link, hlink]
  rfl

/-! ### The obligation -/

/-- Beside the result nothing changes of the entry's stores or the latches; an injection is over, and the sequence goes on as it stood; a
conversion of the sequence is followed by the next entry's, or by none. -/
theorem execConversionEnd_ended {fc : Nat} (hn : n < 4) (h : s.ended fc n = true)
    (hx : (s.gauX n).inj = some e ∧ (s.gauX n).seq ≠ .late ∨ (s.gauX n).inj = none ∧ (s.gauX n).tail = false ∧ (s.gauX n).seq = .run e)
    (v : Int) :
    let w := s.converted fc n e v
    ∃ t, execConversionEnd fc n v s = .next t ∧ w.sameRegsBut (besideFields n e) t ∧ t.fc = w.fc ∧ t.latches = w.latches ∧
      ((s.gauX n).inj = some e → (t.gauX n).inj = none ∧ (t.gauX n).seq = (w.gauX n).seq) ∧
      ((s.gauX n).inj = none → (t.gauX n).seq = if e + 1 < w.act (F.GAU_SEQ_LEN n) then .run (e + 1) else .idle) := by
  intro w
  have hset : ∀ x : GauX, w.sameRegsBut (besideFields n e) (w.setGau n x) := fun _ _ _ => State.setGau_get _ _ _ _
  rcases hx with ⟨hi, hl⟩ | ⟨hi, ht, hr⟩
  · obtain ⟨hregs, hfc, hlat, hseq, hinj⟩ := (w.setGau n { w.gauX n with inj := none }).syncGau_leaves n e
    rw [State.gauX_setGau_same] at hseq hinj
    exact ⟨_, execConversionEnd_injected hn h hi hl v, sameRegsBut_trans (hset _) hregs, hfc, hlat, fun _ => ⟨hinj, hseq⟩,
      fun hnone => absurd (hi.symm.trans hnone) (Option.some_ne_none e)⟩
  · have hidle : (s.gauX n).inj ≠ some e := hi ▸ (Option.some_ne_none e).symm
    rw [execConversionEnd_run hn h hi ht hr v]
    split
    · obtain ⟨hregs, hfc, hlat, hseq, -⟩ := ((w.setGau n { w.gauX n with seq := .run (e + 1) }).convStart_leaves n e (e + 1) w.now).trans
        (State.syncGau_leaves _ n e)
      rw [State.gauX_setGau_same] at hseq
      exact ⟨_, rfl, sameRegsBut_trans (hset _) hregs, hfc, hlat, fun hinj => absurd hinj hidle, fun _ => hseq⟩
    · obtain ⟨hregs, hfc, hlat, hseq, -⟩ := (w.setGau n { w.gauX n with seq := .idle }).syncGau_leaves n e
      rw [State.gauX_setGau_same] at hseq
      exact ⟨_, rfl, sameRegsBut_trans (hset _) hregs, hfc, hlat, fun hinj => absurd hinj hidle, fun _ => hseq⟩

end

/-- Settles O45: the result enters its entry, what follows is beside the entry's stores, and a read finds them as they are. -/
theorem aConversionEntersItsEntry : Obligations.AConversionEntersItsEntry := by
  unfold Obligations.AConversionEntersItsEntry
  intro s fc n v hn u x works code
  refine ⟨fun h => execConversionEnd_waiting hn h v, fun h hd e he hk hx => ?_⟩
  obtain ⟨hent, ⟨-, hwfc, hwlat, hwseq, -⟩, hact⟩ := s.converted_spec fc hn he hk hd v
  obtain ⟨t, hexec, hregs, hfc, hlat, hinj, hrun⟩ := execConversionEnd_ended hn h hx v
  obtain ⟨hmin, hmax, hovr, hset, hopen, hclosed⟩ := State.entered_congr hent fun g hg => hregs g (storeFields_apart_beside hn he g hg)
  have hfc' : t.fc = fc % 3072 := hfc.trans hwfc
  have hlat' : t.latches = s.latches := hlat.trans hwlat
  have hlen : (s.converted fc n e v).act (F.GAU_SEQ_LEN n) = s.act (F.GAU_SEQ_LEN n) := by rw [State.act, hact, State.act]
  refine ⟨t, hexec, hmin, hmax, hovr, hset, hopen, hclosed, fun hfree later hlater => ?_, fun hi => ?_, fun hi => ?_⟩
  · refine execClearOnRead_track hn he (hlat' ▸ hfree) ?_
    rw [hfc']
    exact hlater.imp_right fun hf => ⟨fun y hy => (hf y hy).1, fun y hy => (hf y hy).2⟩
  · exact ⟨(hinj hi).1, (hinj hi).2.trans hwseq⟩
  · rw [hrun hi, hlen]

end Sys2Proof.Machine
end

/-! PROOFS. An event at the recorder (R316, R318, R320, R325): its token, its record, the interrupt of a record, and O17 assembled from
them. -/
section
namespace Sys2Proof.Machine

section
variable (s : State)

/-! ### The interrupt of a record (R325) -/

theorem State.irq_logSource : s.irq 4 =
    if s.get (F.HIF_IRQ_MAP_EN0 1) = 0 ∨ s.get (F.HIF_IRQ_MAP_VEC0 1) = 0 then s else s.sendVec (s.get (F.HIF_IRQ_MAP_VEC0 1)) := rfl

theorem State.sendVec_unmasked {s : State} {v : Nat} (hup : s.linkUp = true) (hmask : s.flag (F.HIF_MSIX_CTRL_MASK v) = false) :
    s.sendVec v = s.link (.msix v) := by
  simp [State.sendVec, hup, hmask]
theorem State.sendVec_masked {s : State} {v : Nat} (hup : s.linkUp = true) (hmask : s.flag (F.HIF_MSIX_CTRL_MASK v) = true) :
    s.sendVec v = s.putBit (F.HIF_MSIX_PBA_PENDING (v / 32)) (v % 32) true := by
  simp [State.sendVec, hup, hmask]

/-- An interrupt message, or the pending bit in its place, is all that sending a vector leaves. -/
theorem State.sendVec_eq (v : Nat) :
    s.sendVec v = { s with regs := (s.sendVec v).regs, fresh := (s.sendVec v).fresh, linkOut := (s.sendVec v).linkOut } := by
  unfold State.sendVec
  split
  · rfl
  · split <;> rfl
theorem State.irq_logSource_eq :
    s.irq 4 = { s with regs := (s.irq 4).regs, fresh := (s.irq 4).fresh, linkOut := (s.irq 4).linkOut } := by
  rw [State.irq_logSource]
  split
  · rfl
  · exact s.sendVec_eq _

/-- A record of severity `sev` sets FLAG. -/
def State.flagsAt (sev : Nat) : Prop := s.flag F.LOG_IRQ_EN = true ∧ s.get F.LOG_IRQ_MIN_SEV ≤ sev

theorem State.logFlag_unflagged {s : State} {sev : Nat} (h : ¬ s.flagsAt sev) : s.logFlag sev = s :=
  if_neg fun hc => h (by simpa [State.flagsAt] using hc)
theorem State.logFlag_flagged {s : State} {sev : Nat} (h : s.flagsAt sev) :
    s.logFlag sev = if s.flag F.LOG_IRQ_FLAG then s.putB F.LOG_IRQ_FLAG true else (s.putB F.LOG_IRQ_FLAG true).irq 4 :=
  if_pos (by simpa [State.flagsAt] using h)

/-- Signalling a record writes FLAG and pending bits and puts a message on the link, and nothing else. -/
theorem State.logFlag_frame (sev : Nat) :
    let t := s.logFlag sev
    s.sameRegsBut (F.LOG_IRQ_FLAG :: reportFields) t ∧ t = { s with regs := t.regs, fresh := t.fresh, linkOut := t.linkOut } := by
  intro t
  have hset : s.sameRegsBut (F.LOG_IRQ_FLAG :: reportFields) (s.putB F.LOG_IRQ_FLAG true) :=
    sameRegsBut_putB sameRegsBut_refl List.mem_cons_self true
  by_cases h : s.flagsAt sev
  · have ht : t = _ := State.logFlag_flagged h
    clear_value t
    subst ht
    split
    · exact ⟨hset, rfl⟩
    · refine ⟨sameRegsBut_trans hset (told_irq (l := [F.LOG_IRQ_FLAG]) 4).1, ?_⟩
      rw [State.irq_logSource_eq]
      rfl
  · have ht : t = s := State.logFlag_unflagged h
    rw [ht]
    exact ⟨sameRegsBut_refl, rfl⟩

/-- The vector that `s` maps source 4 to has been sent in `t`, or pends while it is masked (R228). -/
def State.sendsLogVec (t : State) : Prop :=
  let v := s.get (F.HIF_IRQ_MAP_VEC0 1)
  (s.flag (F.HIF_MSIX_CTRL_MASK v) = false → t.linkOut = s.linkOut ++ [.msix v]) ∧
  (s.flag (F.HIF_MSIX_CTRL_MASK v) = true → t.linkOut = s.linkOut ∧ t.getBit (F.HIF_MSIX_PBA_PENDING (v / 32)) (v % 32) = true)

/-- The vectors, the interrupt map and the link of `w` are those of `s`. -/
def State.sameVectors (w : State) : Prop := (∀ g : Field, g.key < 0x60000 * 32 → w.get g = s.get g) ∧ w.linkOut = s.linkOut

/-- What a record of severity `sev` makes of FLAG and of the link. -/
def State.signalsRec (sev : Nat) (t : State) : Prop :=
  (s.flag F.LOG_IRQ_EN = true → s.get F.LOG_IRQ_MIN_SEV ≤ sev → t.flag F.LOG_IRQ_FLAG = true ∧
    (s.flag F.LOG_IRQ_FLAG = false → s.linkUp = true → s.get (F.HIF_IRQ_MAP_EN0 1) ≠ 0 → s.get (F.HIF_IRQ_MAP_VEC0 1) ≠ 0 →
      s.sendsLogVec t)) ∧
  (s.flag F.LOG_IRQ_EN = false ∨ sev < s.get F.LOG_IRQ_MIN_SEV ∨ s.flag F.LOG_IRQ_FLAG = true →
    t.linkOut = s.linkOut ∧ (s.flag F.LOG_IRQ_FLAG = false → t.flag F.LOG_IRQ_FLAG = false))

end

section
variable {s w t : State} {sev : Nat}

theorem State.irq_sendsLogVec (hup : s.linkUp = true) (hen : s.get (F.HIF_IRQ_MAP_EN0 1) ≠ 0)
    (hvec : s.get (F.HIF_IRQ_MAP_VEC0 1) ≠ 0) : s.sendsLogVec (s.irq 4) := by
  rw [State.irq_logSource, if_neg (not_or.2 ⟨hen, hvec⟩)]
  refine ⟨fun h => ?_, fun h => ?_⟩
  · rw [State.sendVec_unmasked hup h]
    rfl
  · rw [State.sendVec_masked hup h]
    exact ⟨rfl, State.getBit_putBit_true _ _ (Nat.mod_lt _ (by decide))⟩

theorem State.flag_irq_logSource : (s.irq 4).flag F.LOG_IRQ_FLAG = s.flag F.LOG_IRQ_FLAG := by
  have hfar : ∀ f ∈ ([] : List Field) ++ reportFields, F.LOG_IRQ_FLAG.key ≠ f.key := by decide
  rw [State.flag_eq, (told_irq (s := s) (l := []) 4).1 _ hfar, State.flag_eq]

/-- What is said of the link and of the pending bits can be said of a state whose vectors are the same. -/
theorem State.sameVectors.sendsLogVec (h : s.sameVectors w) : s.sendsLogVec t ↔ w.sendsLogVec t := by
  obtain ⟨hlow, hlink⟩ := h
  have hvec : w.get (F.HIF_IRQ_MAP_VEC0 1) = s.get (F.HIF_IRQ_MAP_VEC0 1) := hlow _ (by decide)
  have hlt : s.get (F.HIF_IRQ_MAP_VEC0 1) < 64 := s.get_lt _
  have hmask := hlow (F.HIF_MSIX_CTRL_MASK (s.get (F.HIF_IRQ_MAP_VEC0 1))) (by
    simp only [Field.key, F.HIF_MSIX_CTRL_MASK]
    omega)
  simp only [State.sendsLogVec, State.flag_eq, hvec, hmask, hlink]

theorem State.sameVectors.signalsRec (h : s.sameVectors w)
    (hirq : ∀ g ∈ [F.LOG_IRQ_EN, F.LOG_IRQ_MIN_SEV, F.LOG_IRQ_FLAG], w.get g = s.get g) : s.signalsRec sev t ↔ w.signalsRec sev t := by
  have hen := hirq F.LOG_IRQ_EN (by simp)
  have hmin := hirq F.LOG_IRQ_MIN_SEV (by simp)
  have hflag := hirq F.LOG_IRQ_FLAG (by simp)
  have ⟨hlow, hlink⟩ := h
  have hup : w.linkUp = s.linkUp := congrArg (· != 0) (hlow F.HIF_STATUS_LINK_UP (by decide))
  simp only [State.signalsRec, State.flag_eq, hen, hmin, hflag, hup, hlow (F.HIF_IRQ_MAP_EN0 1) (by decide),
    hlow (F.HIF_IRQ_MAP_VEC0 1) (by decide), hlink, h.sendsLogVec]

theorem State.sameVectors_putB {f : Field} (hf : 0x60000 * 32 ≤ f.key) (b : Bool) : s.sameVectors (s.putB f b) :=
  ⟨fun g hg => s.get_putB_other f g b (by omega), by cases b <;> rfl⟩

theorem State.logFlag_signalsRec (s : State) (sev : Nat) : s.signalsRec sev (s.logFlag sev) := by
  by_cases h : s.flagsAt sev
  · have hset : (s.putB F.LOG_IRQ_FLAG true).flag F.LOG_IRQ_FLAG = true := s.flag_putB_same _ _ rfl
    have hsame : s.sameVectors (s.putB F.LOG_IRQ_FLAG true) := State.sameVectors_putB (by decide) true
    rw [State.logFlag_flagged h]
    obtain ⟨hen, hmin⟩ := h
    cases hflag : s.flag F.LOG_IRQ_FLAG
    case true =>
      have hnoclear : s.flag F.LOG_IRQ_FLAG ≠ false := by simp [hflag]
      exact ⟨fun _ _ => ⟨hset, fun hclear => absurd hclear hnoclear⟩, fun _ => ⟨rfl, fun hclear => absurd hclear hnoclear⟩⟩
    case false =>
      refine ⟨fun _ _ => ⟨State.flag_irq_logSource.trans hset, fun _ hup hen0 hvec => ?_⟩, fun hno => ?_⟩
      · have ⟨hlow, _⟩ := hsame
        refine hsame.sendsLogVec.2 (State.irq_sendsLogVec ?_ ?_ ?_)
        · exact (congrArg (· != 0) (hlow F.HIF_STATUS_LINK_UP (by decide))).trans hup
        · rwa [hlow _ (by decide)]
        · rwa [hlow _ (by decide)]
      · simp [hen, hflag, Nat.not_lt.2 hmin] at hno
  · rw [State.logFlag_unflagged h]
    exact ⟨fun hen hmin => absurd ⟨hen, hmin⟩ h, fun _ => ⟨rfl, id⟩⟩

end

/-! ### The record (R316, R320) -/

section
variable {s : State} {e : Evt}

/-- The state in which a record has been added to the log. -/
def State.recorded (s : State) (r : LogRec) : State :=
  ((s.setLog { s.log with recs := s.log.recs ++ [r] }).tick).put F.LOG_NEXT_SEQ_NEXT_SEQ (r.seq + 1)

/-- Where a bank has room and the numbers do not wrap, a record is added with the next number. -/
theorem State.writeRec_recorded (hbank : s.banksOk ≠ []) (hroom : s.logHasRoom = true)
    (hwrap : s.get F.LOG_NEXT_SEQ_NEXT_SEQ ≠ 0xFFFFFFFF) (queued prot : Bool) (supp : Nat) : s.writeRec e queued prot supp =
      (s.recorded ⟨s.get F.LOG_NEXT_SEQ_NEXT_SEQ, e, queued, prot, supp, s.pickBank⟩).logFlag e.sev := by
  have hlt : s.get F.LOG_NEXT_SEQ_NEXT_SEQ < 2 ^ 32 := s.get_lt _
  have hnext : seqNext (s.get F.LOG_NEXT_SEQ_NEXT_SEQ) = s.get F.LOG_NEXT_SEQ_NEXT_SEQ + 1 := if_neg (by omega)
  have hone : s.writeOne e queued prot supp =
      (s.recorded ⟨s.get F.LOG_NEXT_SEQ_NEXT_SEQ, e, queued, prot, supp, s.pickBank⟩).logFlag e.sev := by
    rw [State.writeOne, if_neg (by simpa using hbank), if_pos hroom, hnext]
    rfl
  rw [State.writeRec, if_neg (fun h => hwrap h.1), hone]

theorem State.recorded_regs (r : LogRec) : s.sameRegsBut [F.LOG_NEXT_SEQ_NEXT_SEQ] (s.recorded r) :=
  sameRegsBut_put (s := s) (t := (s.setLog _).tick) sameRegsBut_refl List.mem_cons_self _

/-! ### Admission (R318) -/

/-- The event takes no token: it is exempt, or its code has no limit. -/
def State.tokenFree (s : State) (e : Evt) : Bool := exempt e || s.get (F.LOG_RATE_CAP (e.code % 512)) == 0

/-- The state in which `e` has been admitted, with the tokens `sp` spent: its count of suppressed events starts afresh. -/
def State.admitted (s : State) (e : Evt) (sp : List (Nat × Nat)) : State :=
  (s.setLog { s.log with spent := sp }).put (F.LOG_RATE_SUPPRESSED (e.code % 512)) 0

theorem State.arrive_suppressed (hfree : s.tokenFree e = false) (htok : s.tokensOf (e.code % 512) = 0) :
    s.arrive e = s.bump (F.LOG_RATE_SUPPRESSED (e.code % 512)) 1 := by
  have hlimit : ¬ s.tokenFree e = true := by simp [hfree]
  exact (if_neg hlimit).trans (if_pos htok)

/-- An event with a token, or that needs none, goes on with the count of those suppressed before it. -/
theorem State.arrive_admitted (h : s.tokenFree e = true ∨ 0 < s.tokensOf (e.code % 512)) :
    ∃ sp, s.arrive e = (s.admitted e sp).admitEvt e (s.get (F.LOG_RATE_SUPPRESSED (e.code % 512))) := by
  cases hfree : s.tokenFree e with
  | true => exact ⟨s.log.spent, if_pos hfree⟩
  | false =>
    have htok : s.tokensOf (e.code % 512) ≠ 0 := by simpa [hfree, Nat.pos_iff_ne_zero] using h
    have hlimit : ¬ s.tokenFree e = true := by simp [hfree]
    exact ⟨_, (if_neg hlimit).trans (if_neg htok)⟩

/-- SUPPRESSED of a code lies behind the recorder's other registers, in the upper half of a word. -/
theorem suppressed_key (c : Nat) : (F.LOG_RATE_SUPPRESSED c).key = 0xa1000 * 32 + 16 + 128 * c := by
  simp only [Field.key, F.LOG_RATE_SUPPRESSED]
  omega

theorem State.admitted_regs (sp : List (Nat × Nat)) : s.sameRegsBut [F.LOG_RATE_SUPPRESSED (e.code % 512)] (s.admitted e sp) :=
  sameRegsBut_put (s := s) (t := s.setLog _) sameRegsBut_refl List.mem_cons_self 0

theorem State.admitted_get (sp : List (Nat × Nat)) {f : Field} (hf : f.key < 0xa1000 * 32) : (s.admitted e sp).get f = s.get f := by
  refine State.admitted_regs sp f fun g hg => ?_
  rw [List.mem_singleton.1 hg, suppressed_key]
  omega

theorem State.admitted_suppressed (sp : List (Nat × Nat)) : (s.admitted e sp).get (F.LOG_RATE_SUPPRESSED (e.code % 512)) = 0 :=
  (State.get_put_same _ _ _).trans (Nat.zero_mod _)

theorem State.admitted_frozen (sp : List (Nat × Nat)) : (s.admitted e sp).frozen = s.frozen :=
  congrArg (· != 0) (State.admitted_get sp (by decide))
theorem State.admitted_banksOk (sp : List (Nat × Nat)) : (s.admitted e sp).banksOk = s.banksOk := by
  have hretired : (s.admitted e sp).get F.LOG_BANK_RETIRED_RETIRED = s.get F.LOG_BANK_RETIRED_RETIRED := State.admitted_get sp (by decide)
  simp only [State.banksOk, State.bankRetired, State.getBit, hretired]
theorem State.admitted_logHasRoom (sp : List (Nat × Nat)) : (s.admitted e sp).logHasRoom = s.logHasRoom := by
  rw [State.logHasRoom, State.admitted_banksOk]
  rfl

/-! ### The event -/

theorem State.admitEvt_queued (hfrozen : s.frozen = true) (hroom : s.log.queue.length < 64) (supp : Nat) :
    s.admitEvt e supp = s.setLog { s.log with queue := s.log.queue ++ [(e, supp)] } := by
  rw [State.admitEvt, if_pos hfrozen, if_pos hroom]

/-- An admitted event, while the log is not frozen, is recorded and signalled. -/
theorem State.arrive_recorded (h : s.tokenFree e = true ∨ 0 < s.tokensOf (e.code % 512)) (hthawed : s.frozen = false)
    (hbank : s.banksOk ≠ []) (hroom : s.logHasRoom = true) (hwrap : s.get F.LOG_NEXT_SEQ_NEXT_SEQ ≠ 0xFFFFFFFF) :
    ∃ sp b, s.arrive e = ((s.admitted e sp).recorded ⟨s.get F.LOG_NEXT_SEQ_NEXT_SEQ, e, false, false,
      s.get (F.LOG_RATE_SUPPRESSED (e.code % 512)), b⟩).logFlag e.sev := by
  obtain ⟨sp, hsp⟩ := State.arrive_admitted h
  have hseq : (s.admitted e sp).get F.LOG_NEXT_SEQ_NEXT_SEQ = s.get F.LOG_NEXT_SEQ_NEXT_SEQ := State.admitted_get sp (by decide)
  refine ⟨sp, (s.admitted e sp).pickBank, ?_⟩
  rw [hsp, State.admitEvt, State.admitted_frozen, hthawed, if_neg Bool.false_ne_true, State.writeRec_recorded
    ((State.admitted_banksOk sp).symm ▸ hbank) ((State.admitted_logHasRoom sp).symm ▸ hroom) (hseq.symm ▸ hwrap), hseq]

/-- An admitted event waits in the holding queue of a frozen log. -/
theorem State.arrive_queued (h : s.tokenFree e = true ∨ 0 < s.tokensOf (e.code % 512)) (hfrozen : s.frozen = true)
    (hroom : s.log.queue.length < 64) :
    ∃ sp, s.arrive e = (s.admitted e sp).setLog { (s.admitted e sp).log with
      queue := s.log.queue ++ [(e, s.get (F.LOG_RATE_SUPPRESSED (e.code % 512)))] } := by
  obtain ⟨sp, hsp⟩ := State.arrive_admitted h
  exact ⟨sp, hsp.trans (State.admitEvt_queued ((State.admitted_frozen sp).trans hfrozen) hroom _)⟩

/-! ### The state with the event admitted and recorded -/

/-- The state in which `e` has been admitted and `r` added to the log, before FLAG. -/
def State.entersLog (s : State) (e : Evt) (sp : List (Nat × Nat)) (r : LogRec) : State := (s.admitted e sp).recorded r

section
variable (sp : List (Nat × Nat)) (r : LogRec)

theorem State.entersLog_eq : s.entersLog e sp r = { s with
    regs := (s.entersLog e sp r).regs, free := s.free + 1, log := { s.log with recs := s.log.recs ++ [r], spent := sp } } := by
  simp only [State.entersLog, State.recorded, State.admitted, State.put, State.tick, State.setLog]

theorem State.entersLog_regs :
    s.sameRegsBut [F.LOG_RATE_SUPPRESSED (e.code % 512), F.LOG_NEXT_SEQ_NEXT_SEQ] (s.entersLog e sp r) :=
  sameRegsBut_trans (sameRegsBut_mono (State.admitted_regs sp) (by simp)) (sameRegsBut_mono (State.recorded_regs r) (by simp))

/-- Of the registers before the rate table only NEXT_SEQ is another. -/
theorem State.entersLog_get {g : Field} (hg : g.key < 0xa1000 * 32) (hne : g.key ≠ F.LOG_NEXT_SEQ_NEXT_SEQ.key) :
    (s.entersLog e sp r).get g = s.get g :=
  (State.recorded_regs r g (by simpa using hne)).trans (State.admitted_get sp hg)

theorem State.entersLog_sameVectors : s.sameVectors (s.entersLog e sp r) := by
  have hkey : F.LOG_NEXT_SEQ_NEXT_SEQ.key = 0xa0008 * 32 := rfl
  exact ⟨fun g hg => State.entersLog_get sp r (by omega) (by omega), rfl⟩

theorem State.entersLog_nextSeq {r : LogRec} (hr : r.seq < 2 ^ 32 - 1) :
    (s.entersLog e sp r).get F.LOG_NEXT_SEQ_NEXT_SEQ = r.seq + 1 :=
  (State.get_put_same _ _ _).trans (Nat.mod_eq_of_lt (show r.seq + 1 < 2 ^ 32 by omega))

theorem State.entersLog_suppressed : (s.entersLog e sp r).get (F.LOG_RATE_SUPPRESSED (e.code % 512)) = 0 := by
  have hkey : F.LOG_NEXT_SEQ_NEXT_SEQ.key = 0xa0008 * 32 := rfl
  have hfar : ∀ f ∈ [F.LOG_NEXT_SEQ_NEXT_SEQ], (F.LOG_RATE_SUPPRESSED (e.code % 512)).key ≠ f.key := fun f hf => by
    rw [List.mem_singleton.1 hf, hkey, suppressed_key]
    omega
  exact (State.recorded_regs r _ hfar).trans (State.admitted_suppressed sp)

theorem State.entersLog_signalsRec {sev : Nat} {t : State} (h : (s.entersLog e sp r).signalsRec sev t) : s.signalsRec sev t := by
  refine ((State.entersLog_sameVectors sp r).signalsRec ?_).2 h
  simp only [List.forall_mem_cons, List.not_mem_nil, false_implies, implies_true, and_true]
  exact ⟨State.entersLog_get sp r (by decide) (by decide), State.entersLog_get sp r (by decide) (by decide),
    State.entersLog_get sp r (by decide) (by decide)⟩

end

/-- FLAG and the pending bits are none of the rate table's, nor the next number. -/
theorem signalFields_keys : ∀ f ∈ F.LOG_IRQ_FLAG :: reportFields, f.key < 0xa1000 * 32 ∧ f.key ≠ F.LOG_NEXT_SEQ_NEXT_SEQ.key := by decide

/-- What `t` holds when `e` has become the newest record, with its interrupt (R316, R318, R325). -/
structure State.Recorded (s : State) (e : Evt) (t : State) : Prop where
  recs : ∃ b, t.log.recs = s.log.recs ++
    [⟨s.get F.LOG_NEXT_SEQ_NEXT_SEQ, e, false, false, s.get (F.LOG_RATE_SUPPRESSED (e.code % 512)), b⟩]
  nextSeq : t.get F.LOG_NEXT_SEQ_NEXT_SEQ = s.get F.LOG_NEXT_SEQ_NEXT_SEQ + 1
  suppressed : t.get (F.LOG_RATE_SUPPRESSED (e.code % 512)) = 0
  signals : s.signalsRec e.sev t
  regs : s.sameRegsBut ([F.LOG_RATE_SUPPRESSED (e.code % 512), F.LOG_NEXT_SEQ_NEXT_SEQ, F.LOG_IRQ_FLAG] ++ reportFields) t
  rest : t = { s with regs := t.regs, fresh := t.fresh, linkOut := t.linkOut, free := s.free + 1,
                      log := { s.log with recs := t.log.recs, spent := t.log.spent } }

/-- FLAG and its interrupt leave the record, the number after it and the cleared count as they are. -/
theorem State.arrive_recorded_spec (h : s.tokenFree e = true ∨ 0 < s.tokensOf (e.code % 512)) (hthawed : s.frozen = false)
    (hbank : s.banksOk ≠ []) (hroom : s.logHasRoom = true) (hwrap : s.get F.LOG_NEXT_SEQ_NEXT_SEQ ≠ 0xFFFFFFFF) :
    s.Recorded e (s.arrive e) := by
  obtain ⟨sp, b, harrive⟩ := State.arrive_recorded h hthawed hbank hroom hwrap
  have hlt : s.get F.LOG_NEXT_SEQ_NEXT_SEQ < 2 ^ 32 := s.get_lt _
  have ht : s.arrive e = (s.entersLog e sp _).logFlag e.sev := harrive
  obtain ⟨hflag, hrest⟩ := (s.entersLog e sp ⟨s.get F.LOG_NEXT_SEQ_NEXT_SEQ, e, false, false,
    s.get (F.LOG_RATE_SUPPRESSED (e.code % 512)), b⟩).logFlag_frame e.sev
  rw [← ht] at hflag hrest
  rw [State.entersLog_eq] at hrest
  have hlog := congrArg State.log hrest
  constructor
  case recs => exact ⟨b, congrArg Log.recs hlog⟩
  case nextSeq =>
    have hseq : s.get F.LOG_NEXT_SEQ_NEXT_SEQ < 2 ^ 32 - 1 := by omega
    exact (hflag _ fun f hf => (signalFields_keys f hf).2.symm).trans (State.entersLog_nextSeq sp hseq)
  case suppressed =>
    have hfar : ∀ f ∈ F.LOG_IRQ_FLAG :: reportFields, (F.LOG_RATE_SUPPRESSED (e.code % 512)).key ≠ f.key := fun f hf => by
      have hkey := (signalFields_keys f hf).1
      rw [suppressed_key]
      omega
    exact (hflag _ hfar).trans (State.entersLog_suppressed sp _)
  case signals => exact State.entersLog_signalsRec sp _ (ht ▸ State.logFlag_signalsRec _ _)
  case regs =>
    exact sameRegsBut_trans
      (sameRegsBut_mono (State.entersLog_regs sp _) fun _ hf => List.mem_append_left _ (List.mem_append_left [F.LOG_IRQ_FLAG] hf))
      (sameRegsBut_mono hflag fun _ hf => List.mem_append_right [_, F.LOG_NEXT_SEQ_NEXT_SEQ] hf)
  case rest =>
    rw [hlog]
    exact hrest

end

/-! ### The command -/

section
variable {s : State}

/-- Before the recorder's self-test has ended, or without power, nothing is taken (R312). -/
theorem execEventArrival_held (fc : Nat) (h : s.pwr.starting = true ∨ s.pwr.off = true) :
    execEventArrival fc s = .next (s.at fc) := by
  have hheld : ((s.at fc).pwr.starting || (s.at fc).pwr.off) = true := by simpa using h
  unfold execEventArrival
  extract_lets u
  split
  · rfl
  · rw [if_pos hheld]

theorem execEventArrival_arrive (fc : Nat) {e : Evt} {rest : List Evt} (hev : s.evOut = e :: rest)
    (hstart : s.pwr.starting = false) (hoff : s.pwr.off = false) :
    execEventArrival fc s = .next (State.arrive { s.at fc with evOut := rest } e) := by
  have hev' : (s.at fc).evOut = e :: rest := hev
  have htaken : ¬ ((s.at fc).pwr.starting || (s.at fc).pwr.off) = true := by simp [hstart, hoff]
  simp only [execEventArrival, hev', if_neg htaken]

end

/-- Settles O17: what the recorder makes of the event is what it makes of it in the state that has let it go. -/
theorem anEventIsSuppressedQueuedOrRecorded : Obligations.AnEventIsSuppressedQueuedOrRecorded := by
  unfold Obligations.AnEventIsSuppressedQueuedOrRecorded
  intro s fc e rest hev c free after
  refine ⟨execEventArrival_held fc, fun hstart hoff => ?_⟩
  have hexec : exec (.eventArrival fc) s = .next (after.arrive e) := execEventArrival_arrive fc hev hstart hoff
  refine ⟨fun hfree htok => ?_, fun hadm hfrozen hroom => ?_, fun hadm hthawed hbank hroom hwrap => ?_⟩
  · rw [hexec, State.arrive_suppressed (s := after) hfree htok]
    exact ⟨_, rfl, after.get_bump_same _ 1, sameRegsBut_bump (s := after) sameRegsBut_refl List.mem_cons_self 1, rfl⟩
  · obtain ⟨sp, hsp⟩ := State.arrive_queued (s := after) hadm hfrozen hroom
    rw [hexec, hsp]
    exact ⟨_, rfl, rfl, rfl, State.admitted_suppressed sp, State.admitted_regs (s := after) sp, rfl⟩
  · obtain ⟨hrecs, hseq, hsupp, ⟨hset, hsilent⟩, hregs, hrest⟩ :=
      State.arrive_recorded_spec (s := after) hadm hthawed hbank hroom hwrap
    exact ⟨_, hexec, hrecs, hseq, hsupp, hset, hsilent, hregs, hrest⟩

end Sys2Proof.Machine
end
